-- ==== Sys2Proof/Word.lean ====
section
/-! DEFINITION. The words of the part: the byte that every frame carries and the 16-bit frame check of R194. -/

namespace Sys2Proof

/-- One byte of a frame or of a record. -/
abbrev Byte := BitVec 8

/-- The 16-bit frame check of R194. -/
abbrev Check := BitVec 16

end Sys2Proof
end

