-- ==== Sys2Proof/Syntax.lean ====
section
/-! DEFINITION. The commands of the part: one constructor of Instr for each row of spec/opcode_table.json, with its operands. -/

namespace Sys2Proof

/-- The two ends of the Bay Ring, Ring Port A and Ring Port B (R1); also the side of a node (Table 1-1). -/
inductive RingPort | a | b
  deriving DecidableEq, Repr

/-- The two frame ports (R167). -/
inductive FramePort | station | service
  deriving DecidableEq, Repr

/-- The six contact inputs of Table 9-1. -/
inductive Input | breakerAux | contPosAux | contNegAux | estop | door | hold
  deriving DecidableEq, Repr

/-- The two main contactors that have an auxiliary contact (R163). -/
inductive Contactor | pos | neg
  deriving DecidableEq, Repr

/-- The four points at which the Loop Master waits for a line to read high (R104). -/
inductive LinePoint | beforeStart | clockRelease | repeatedStart | stopData
  deriving DecidableEq, Repr

/-- A wait for a line: its point, and the moment, in microseconds, at which it began. -/
structure WaitPoint where
  point : LinePoint
  since : Nat
  deriving DecidableEq, Repr

/-- The header and payload of a frame (Table 12-1). The sync byte, the length byte and the frame check follow from them. -/
structure Frame where
  dst : Byte
  src : Byte
  kind : Byte
  seq : Byte
  payload : List Byte
  deriving DecidableEq, Repr

/-- A frame as it arrives on a frame port, with the moment, in microseconds, of its sync byte (R168). -/
structure TimedFrame where
  syncAt : Nat
  frame : Frame
  deriving DecidableEq, Repr

/-- A MGMT_REQ addressed to 0 as it arrives (R181): its port, the moment of its sync byte in microseconds, the source address it is answered to, the
request id and the argument block. The request code is the row's own. -/
structure Request where
  port : FramePort
  syncAt : Nat
  src : Byte
  id : Byte
  args : List Byte
  deriving DecidableEq, Repr

/-- The commands. `syncAt` is the moment, in microseconds, at which the sync byte of the frame arrived. -/
inductive Instr
  | powerOn
  | rstAssert
  | rstRelease
  | restartResetTaken
  | startUp
  | ringLengthError (port : RingPort) (syncAt : Nat) (header : List Byte)
  | ringFragmentTimeout (port : RingPort) (syncAt : Nat)
  | ringFrameDiscarded (port : RingPort) (syncAt : Nat) (frame : Frame) (check : Check)
  | sampleReceived (port : RingPort) (syncAt : Nat) (frame : Frame)
  | nodeRspReceived (port : RingPort) (syncAt : Nat) (frame : Frame)
  | setpointAckReceived (port : RingPort) (syncAt : Nat) (frame : Frame)
  | roundDue
  | ringTxDone (port : RingPort)
  | replyTimeout (port : RingPort)
  | transmissionOpportunity (side : RingPort)
  | responseWindowTimeout (port : RingPort)
  | roundEnd
  | excludeNode (req : Request)
  | readmitNode (req : Request)
  | setSplit (req : Request)
  | clearTrips (req : Request)
  | readModule (req : Request)
  | setpointReceived (port : FramePort) (frame : TimedFrame)
  | ackTimeout
  | silenceExpiry
  | pwmReferencePeriod (period : Nat)
  | pwmPeriodStart (output : Nat)
  | pwmHighEnd (output : Nat)
  | flowLossTimeout (pump : Nat)
  | restartWaitExpiry (pump : Nat)
  | faultFreeExpiry (pump : Nat)
  | clearPumpLock (req : Request)
  | readZone (req : Request)
  | loopRoundDue
  | loopRoundStart
  | loopByteDone (ack : Bool) (data : Byte)
  | loopLineStuck (point : WaitPoint)
  | busRecoveryDone
  | busCloseDone
  | loopRun (req : Request)
  | holdExpiry
  | loopAbort (req : Request)
  | countdownExpiry
  | releasePulseExpiry
  | sounderPhaseToggle
  | fireReset (req : Request)
  | silence (req : Request)
  | readDetector (req : Request)
  | prechargeTimeout
  | healthyWaitMet
  | closePulseEnd
  | closeTimeout
  | connectedClockExpiry
  | meterBlindLimit
  | tripMinPulseExpiry
  | tripTimeout
  | openingTimeout
  | connect (req : Request)
  | disconnect (req : Request)
  | releaseLockout (req : Request)
  | strayTripMinPulse
  | strayTripTimeout
  | inputRawChange (input : Input) (level : Bool)
  | debounceStable (input : Input)
  | forceOutput (req : Request)
  | unforceAll (req : Request)
  | forceExpiry (output : Nat)
  | readbackTimeout (contactor : Contactor)
  | framePortLengthError (port : FramePort) (syncAt : Nat) (header : List Byte)
  | framePortFragment (port : FramePort) (syncAt : Nat)
  | stationFrameDiscarded (port : FramePort) (frame : TimedFrame) (check : Check)
  | nodeCmdReceived (port : FramePort) (frame : TimedFrame)
  | unknownRequest (code : Byte) (req : Request)
  | takeAuthority (req : Request)
  | releaseAuthority (req : Request)
  | serviceSilenceExpiry
  | stationTxDone
  | serviceTxDone
  | setForward (req : Request)
  | setNoticeEnable (req : Request)
  | readStatus (req : Request)
  | readNode (req : Request)
  | readCounters (req : Request)
  | readTable (req : Request)
  | writeTable (req : Request)
  | save (req : Request)
  | imageWriteDone
  | latchWriteDone
  | restart (req : Request)
  | powerLoss
  deriving DecidableEq, Repr

end Sys2Proof
end

