-- ==== Sys2Proof/Decode.lean ====
section
/-! DEFINITION. Commands spelled by the bits of spec/opcode_table.json. The part is commanded by frames, pins and timers, and no row of the table
gives bits or fields, so no word spells a command. -/

namespace Sys2Proof

/-- The command a word spells by the table's bits: none, for no row gives bits (log entry 10). -/
def decodeTableWord (_nbits _w : Nat) : Option Instr := none

end Sys2Proof
end

