-- ==== Sys2Proof/Config.lean ====
section
/-! DEFINITION. What the model fixes about the part as a whole: the unit in which time is counted. The manual leaves no value
open that an implementation would fix (assumption log entry 3), so this file holds no free value. -/

namespace Sys2Proof.Config

/-- Time is counted in microseconds, the count of the part's own 1 MHz timer (00_scope.md section 5; R93). DESIGN CHOICE, log
entry 2: one millisecond is 1000 counts. -/
def ms : Nat := 1000

/-- One second in counts. -/
def second : Nat := 1000000

/-- Half a bit period of the Detector Loop at 100 kHz (R103). -/
def halfBit : Nat := 5

end Sys2Proof.Config
end

