-- ==== Sys2Proof/Machine/Tables.lean ====
section
/-! DEFINITION. The configuration tables of the two table groups (Table 11-2) and the parts in which they are written.
Quantities are exact numbers in the units of Table 5; masks and literal bytes, which the manual treats as bits, are bit vectors. -/

namespace Sys2Proof.Machine

/-- Role of a Node Table entry (Table 1-1); `unused` is the role NONE. -/
inductive Role | unused | mod | cool | meter | conv
  deriving DecidableEq, Repr

/-- Configuration fields of a Node Table entry (Table 1-1). -/
structure NodeCfg where
  role : Role
  zone : Nat
  profile : Nat
  home : RingPort
  cellMask : BitVec 16
  tempMask : BitVec 4
  deriving DecidableEq, Repr

/-- One profile of the Profile Table (Table 2-1). -/
structure Profile where
  ovTrip : Int
  ovWarn : Int
  uvWarn : Int
  uvTrip : Int
  otTrip : Int
  otWarn : Int
  coldInhibit : Int
  vHyst : Int
  tHyst : Int
  dwell : Nat
  riseLimit : Int
  riseWindow : Nat
  deriving DecidableEq, Repr

/-- RATINGS part of the Envelope Table (Table 3-1). -/
structure Ratings where
  chgRated : Nat
  disRated : Nat
  upSlope : Nat
  downSlope : Nat
  minInService : Nat
  deriving DecidableEq, Repr

/-- TAPER part of the Envelope Table. -/
structure Taper where
  vcStart : Int
  vcEnd : Int
  vdEnd : Int
  vdStart : Int
  deriving DecidableEq, Repr

/-- FACTORS part of the Envelope Table. -/
structure Factors where
  coolIdle : Nat
  coolRunning : Nat
  coolDegraded : Nat
  coolFailed : Nat
  sf : Nat
  blind : Nat
  deriving DecidableEq, Repr

/-- The Envelope Table (Table 3-1). A curve is a list of six points (T, F). -/
structure EnvelopeCfg where
  ratings : Ratings
  taper : Taper
  hot : List (Int × Nat)
  cold : List (Int × Nat)
  factors : Factors
  deriving DecidableEq, Repr

/-- The Setpoint Settings (R66): silence_time in s, fallback_P in kW. -/
structure SetpointCfg where
  silenceTime : Nat
  fallbackP : Int
  deriving DecidableEq, Repr

/-- Configuration fields of a Zone Record (Table 5-1). -/
structure ZoneCfg where
  pump : Option Nat
  fans : List Nat
  node : Option Nat
  pumpCurve : List (Int × Nat)
  fanCurve : List (Int × Nat)
  blindDuty : Nat
  outletWarn : Int
  outletTrip : Int
  deriving DecidableEq, Repr

/-- Kind of a fan output (Table 5-2). -/
inductive FanKind | fan | exhaust
  deriving DecidableEq, Repr

/-- OUTPUTS part of the Cooling Table: period and min_flow of each pump output, kind and period of each fan output. -/
structure OutputsCfg where
  pumps : List (Nat × Nat)
  fans : List (FanKind × Nat)
  deriving DecidableEq, Repr

/-- SHAPING part of the Cooling Table (Table 5-3). -/
structure Shaping where
  minDuty : Nat
  dutySlope : Nat
  auxCap : Nat
  deriving DecidableEq, Repr

/-- One action of a fire override profile (R82). -/
inductive FireAction | auto | forceOff | forceDuty (d : Nat)
  deriving DecidableEq, Repr

/-- The Cooling Table. `overrides` holds the profiles for PRE_ALARM, ALARM, RELEASE_PENDING and RELEASED, twelve actions each. -/
structure CoolingCfg where
  zones : List ZoneCfg
  outputs : OutputsCfg
  shaping : Shaping
  overrides : List (List FireAction)
  deriving DecidableEq, Repr

/-- Level and time of one timed protection stage (Table 8-2). -/
structure StageCfg where
  level : Nat
  time : Nat
  deriving DecidableEq, Repr

/-- The Grid Protection Table (Table 8-2). -/
structure GridCfg where
  nominalV : Nat
  nominalF : Nat
  uv1 : StageCfg
  uv2 : StageCfg
  ov1 : StageCfg
  ov2 : StageCfg
  uf : StageCfg
  of : StageCfg
  rocofLimit : Nat
  rocofCount : Nat
  healthyVLow : Nat
  healthyVHigh : Nat
  healthyFLow : Nat
  healthyFHigh : Nat
  returnDelay : Nat
  blindLimit : Nat
  deriving DecidableEq, Repr

/-- The Line Settings (Table 9-2): for each input whether HIGH is the level that means closed or active. -/
structure LineCfg where
  breakerAux : Bool
  contPosAux : Bool
  contNegAux : Bool
  estop : Bool
  door : Bool
  hold : Bool
  deriving DecidableEq, Repr

/-- Lead of a script step (Table 6-3). -/
inductive Lead | openBus | reopen | plain | release
  deriving DecidableEq, Repr

/-- Value of a script step (Table 6-3). -/
inductive StepValue | literal (b : Byte) | detectorWrite | detectorRead
  deriving DecidableEq, Repr

/-- Tail of a script step (Table 6-3). -/
inductive Tail | continue_ | last | lastStop
  deriving DecidableEq, Repr

/-- One script step (Table 6-3); `read` is the direction READ. Direction and literal of a
step that does not use them are kept as written (R195). -/
structure ScriptStep where
  lead : Lead
  read : Bool
  value : StepValue
  tail : Tail
  deriving DecidableEq, Repr

/-- Kind of a detector (Table 7-1); `unused` is NONE. -/
inductive DetKind | unused | smoke | heat | gasH2 | gasCO | callPoint
  deriving DecidableEq, Repr

/-- Configuration fields of a Detector Table entry (Table 7-1). -/
structure DetCfg where
  kind : DetKind
  zone : Nat
  script : Nat
  readingStep : Nat
  width : Nat
  preAlarm : Nat
  alarm : Nat
  hysteresis : Nat
  enabled : Bool
  deriving DecidableEq, Repr

/-- The Fire Settings: release_enabled, and release_delay in s. -/
structure FireCfg where
  releaseEnabled : Bool
  releaseDelay : Nat
  deriving DecidableEq, Repr

/-- The tables of the ring group. `nodes` holds the entries of addresses 1 to 40 in order; `interval` is the round interval in
ms; `rate` the Station Link bit rate. -/
structure RingTables where
  nodes : List NodeCfg
  poll : List Nat
  interval : Nat
  profiles : List Profile
  envelope : EnvelopeCfg
  setpoint : SetpointCfg
  cooling : CoolingCfg
  grid : GridCfg
  line : LineCfg
  rate : Nat
  deriving DecidableEq, Repr

/-- The tables of the loop group. -/
structure LoopTables where
  scripts : List (List ScriptStep)
  interval : Nat
  detectors : List DetCfg
  fire : FireCfg
  deriving DecidableEq, Repr

/-- One part of a ring-group table with its contents (Table 11-2). -/
inductive RingPart
  | node (addr : Nat) (c : NodeCfg)
  | poll (l : List Nat)
  | interval (ms : Nat)
  | profile (i : Nat) (p : Profile)
  | ratings (r : Ratings)
  | taper (t : Taper)
  | hot (c : List (Int × Nat))
  | cold (c : List (Int × Nat))
  | factors (f : Factors)
  | setpoint (c : SetpointCfg)
  | zone (z : Nat) (c : ZoneCfg)
  | outputs (c : OutputsCfg)
  | shaping (c : Shaping)
  | fireOverride (f : Nat) (a : List FireAction)
  | grid (c : GridCfg)
  | line (c : LineCfg)
  | rate (r : Nat)
  deriving DecidableEq, Repr

/-- One part of a loop-group table with its contents (Table 11-2). -/
inductive LoopPart
  | script (i : Nat) (steps : List ScriptStep)
  | interval (ms : Nat)
  | detector (d : Nat) (c : DetCfg)
  | fire (c : FireCfg)
  deriving DecidableEq, Repr

/-- Policy of a role in the forwarding policy (section 10.5). -/
inductive Policy | all | onChange | never
  deriving DecidableEq, Repr

/-- Forwarding policy of one role: the policy and forward_every in rounds. -/
structure Forward where
  policy : Policy
  every : Nat
  deriving DecidableEq, Repr

end Sys2Proof.Machine
end

