-- ==== Sys2Proof/Machine/Blocks.lean ====
section
/-! DEFINITION. The state each block of the part owns (00_scope.md Table 1), as plain data. A moment is a count of microseconds
of State.now; a timer is held as the moment from which it counts, and `none` is a timer that does not run. -/

namespace Sys2Proof.Machine

/-! ## Frames on the ports -/

/-- Class of a frame in the Station Transmit Queue, ranked in this order (R174). -/
inductive QClass | forwarded | routine | response | alarm
  deriving DecidableEq, Repr

/-- A frame waiting to be sent upward. `own` marks a frame the S48 originates, which takes its count at sending (R173);
`restart` marks the DONE response of a pending RESTART, whose departure R190 watches. -/
structure UpFrame where
  cls : QClass
  own : Bool
  restart : Bool
  frame : Frame
  deriving DecidableEq, Repr

/-- A frame being sent on a frame port: since when, and at which bit rate (R167). -/
structure UpTx where
  item : UpFrame
  since : Nat
  rate : Nat
  deriving DecidableEq, Repr

/-- Receive counters of a port (R19, R168, R169), each 0 to 65535, saturating. -/
structure PortCounters where
  fragments : Nat
  checkErrors : Nat
  addressErrors : Nat
  kindErrors : Nat
  deriving DecidableEq, Repr

/-- Receive side of a port: whether the port is open and since when (R192), and the arrival of the sync byte of a frame being received. -/
structure Receiver where
  isOpen : Bool
  openedAt : Nat
  syncAt : Option Nat
  counters : PortCounters
  deriving DecidableEq, Repr

/-! ## Ring Controller -/

/-- Node states (Table 1-2). -/
inductive NodeState | unconfigured | absent | inService | silent | excluded
  deriving DecidableEq, Repr

/-- Live fields of a Node Table entry (Table 1-1). -/
structure NodeLive where
  state : NodeState
  missed : Nat
  lastCount : Option Nat
  side : RingPort
  malformed : Bool
  lost : Nat
  checkErrors : Nat
  malformedCount : Nat
  deriving DecidableEq, Repr

/-- Why a frame is sent on the ring. `command` keeps the destination and the port the NODE_CMD arrived on (R24). -/
inductive RingPurpose
  | broadcast
  | poll (addr : Nat) (second : Bool)
  | slot
  | command (dst : Nat) (from_ : FramePort)
  deriving DecidableEq, Repr

/-- A frame on its way out of a ring port. -/
structure RingTx where
  frame : Frame
  purpose : RingPurpose
  deriving DecidableEq, Repr

/-- A ring port: its receiver, the frames going out (the first is being sent, since `txSince`). -/
structure RingPortState where
  rx : Receiver
  tx : List RingTx
  txSince : Nat
  deriving DecidableEq, Repr

/-- Where a poll sequence stands. A joined ring has one sequence, split mode one for each side (R15). -/
inductive SeqPhase
  /-- no round is running and nothing is being sent -/
  | idle
  /-- the SYNC broadcast of a round is going out -/
  | sync
  /-- a transmission opportunity has arisen and a frame waits for it (R21) -/
  | opportunity
  /-- the frame of an opportunity is going out -/
  | sending
  /-- a response window is held for `dst` on `port` since `since` (R24) -/
  | window (dst : Nat) (port : RingPort) (from_ : FramePort) (since : Nat)
  /-- a POLL is going out -/
  | polling (addr : Nat) (port : RingPort) (second : Bool)
  /-- a reply is awaited since the last byte of the POLL left (R10) -/
  | waiting (addr : Nat) (port : RingPort) (second : Bool) (since : Nat)
  /-- the sequence has ended in the running round -/
  | done
  deriving DecidableEq, Repr

/-- One poll sequence: its phase and the addresses still to be polled in this round. -/
structure PollSeq where
  phase : SeqPhase
  rest : List Nat
  deriving DecidableEq, Repr

/-- Flags of a SETPOINT (Table 12-4). -/
structure SetpointFlags where
  clamped : Bool
  reissued : Bool
  fallback : Bool
  deriving DecidableEq, Repr

/-- The SETPOINT frame held in the Setpoint Slot (R68, R75). -/
structure SlotFrame where
  dst : Byte
  src : Byte
  seq : Byte
  tag : Nat
  p : Int
  q : Int
  flags : SetpointFlags
  deriving DecidableEq, Repr

/-- State of the Ring Controller (R26). `nodes` is in address order from 1. `dueAt` is the due time of the next round, `fallenDue`
that it has fallen due and not started, `overrun` that it fell due while a round was running (R8). -/
structure Ring where
  nodes : List NodeLive
  portA : RingPortState
  portB : RingPortState
  round : Nat
  running : Bool
  roundStart : Nat
  lastEnd : Option Nat
  lastEndRound : Nat
  dueAt : Option Nat
  fallenDue : Bool
  overrun : Bool
  splitEff : Nat
  splitReq : Nat
  splitPending : Bool
  broken : Bool
  count : Nat
  seqA : PollSeq
  seqB : PollSeq
  slot : Option SlotFrame
  downQueue : List (Frame × FramePort)
  deriving DecidableEq, Repr

/-! ## Cell Supervisor -/

/-- Channel conditions of cells and temperatures (Tables 2-2, 2-4). -/
inductive Cond
  | unknown | normal | coldInhibit | uvWarn | ovWarn | otWarn | sensorFault | uvTrip | ovTrip | otTrip
  deriving DecidableEq, Repr

/-- Channel record (Table 2-2). -/
structure Chan where
  value : Option Int
  cond : Cond
  dwell : Nat
  level : Option Cond
  latched : Bool
  deriving DecidableEq, Repr

/-- Module conditions (R41). -/
inductive ModCond | unknown | normal | coldInhibit | warn | sensorFault | trip | runaway
  deriving DecidableEq, Repr

/-- Module Record (Tables 2-2, 2-3): 16 cell channels, 4 temperature channels and the module-level fields. -/
structure ModuleRec where
  cells : List Chan
  temps : List Chan
  status : Byte
  balancing : BitVec 16
  hottest : Option Int
  coolest : Option Int
  history : List Int
  runaway : Bool
  cond : ModCond
  heard : Bool
  deriving DecidableEq, Repr

/-- Zone part of the Bay Summary (R43). -/
structure ZoneSummary where
  hottest : Option Int
  contributing : Nat
  runaway : Bool
  otTrip : Bool
  deriving DecidableEq, Repr

/-- Bay Summary (Table 2-5). `counts` holds the seven condition counts in the order of Table 12-7. -/
structure BaySummary where
  round : Nat
  elapsed : Nat
  inService : Nat
  counts : List Nat
  anyOv : Bool
  anyUv : Bool
  anyOt : Bool
  anyCold : Bool
  anySf : Bool
  anyRunaway : Bool
  vmax : Option Int
  vmin : Option Int
  tmax : Option Int
  tmin : Option Int
  zones : List ZoneSummary
  picture : Bool
  deriving DecidableEq, Repr

/-- State of the Cell Supervisor (R46): a Module Record for each address that has one, and the Bay Summary. -/
structure Cell where
  recs : List (Option ModuleRec)
  summary : BaySummary
  deriving DecidableEq, Repr

/-! ## Envelope Unit -/

/-- The factors of the latest computation (Table 3-2). -/
structure FactorSet where
  fvChg : Nat
  fvDis : Nat
  hot : Nat
  cold : Nat
  cool : Nat
  sf : Nat
  blind : Nat
  deriving DecidableEq, Repr

/-- Envelope record (Table 3-2). `gates` holds the codes of the active gates (Table 3-4) in rising order. -/
structure Envelope where
  chg : Nat
  dis : Nat
  chgTarget : Nat
  disTarget : Nat
  factors : Option FactorSet
  gates : List Nat
  lastRound : Nat
  deriving DecidableEq, Repr

/-! ## Setpoint Gate -/

/-- Origin of a setpoint (section 4.1). -/
inductive Origin | station | service | s48
  deriving DecidableEq, Repr

/-- Requested Setpoint (Table 4-1). -/
structure Requested where
  p : Int
  q : Int
  tag : Nat
  origin : Origin
  fallback : Bool
  deriving DecidableEq, Repr

/-- Forwarded Setpoint (Table 4-1). -/
structure Forwarded where
  p : Int
  q : Int
  tag : Nat
  flags : SetpointFlags
  origin : Origin
  deriving DecidableEq, Repr

/-- Last acknowledgement (Table 4-1); `result` is its code byte. -/
structure AckRec where
  tag : Nat
  p : Int
  q : Int
  result : Byte
  deriving DecidableEq, Repr

/-- Converter states (Table 12-3). -/
inductive ConvState | stopped | ready | running | fault
  deriving DecidableEq, Repr

/-- State of the Setpoint Gate (R81). `inFlight` holds tag and start of the ack timer; `silenceSince` the start of the running
silence timer and `silenceStopped` the value at which it stopped at its expiry. -/
structure Gate where
  requested : Option Requested
  forwarded : Option Forwarded
  inFlight : Option (Nat × Nat)
  ackCount : Nat
  sent : List (Nat × Origin)
  lastAck : Option AckRec
  conv : Option ConvState
  silenceSince : Option Nat
  silenceStopped : Nat
  silent : Bool
  deriving DecidableEq, Repr

/-! ## Cooling Controller -/

/-- Zone and bay cooling states (R99), in rising order of severity. -/
inductive CoolState | idle | running | degraded | failed
  deriving DecidableEq, Repr

/-- Live fields of a Zone Record (Table 5-1). `warn` and `trip` are the outlet thresholds in use: changed ones are first used at the reaction to a
publication (R83). -/
structure ZoneLive where
  hottest : Option Int
  contributing : Nat
  supervised : Nat
  blind : Bool
  demand : Nat
  inlet : Option Int
  outlet : Option Int
  flow : Option Nat
  pressure : Option Nat
  status : Option Byte
  state : CoolState
  counted : Bool
  warn : Int
  trip : Int
  deriving DecidableEq, Repr

/-- Source of an output's value (R88). -/
inductive DutySource | auto | force | override
  deriving DecidableEq, Repr

/-- Live fields of a PWM output (Table 5-2) and its generator: the period in use, when its next own period starts, the level
of the line, and when the high time in progress ends. -/
structure OutLive where
  automatic : Nat
  sourceValue : Nat
  shaped : Nat
  source : DutySource
  applied : Nat
  dither : Nat
  offset : Nat
  period : Nat
  nextStart : Nat
  level : Bool
  highEnd : Option Nat
  deriving DecidableEq, Repr

/-- Pump states (Table 5-6). -/
inductive PumpState | stopped | running | restartWait | locked
  deriving DecidableEq, Repr

/-- Supervision record of a pump (section 5.6). The fault-free clock is `clock` counts so far plus, while it runs, the time since
`clockSince`. -/
structure PumpLive where
  state : PumpState
  faults : Nat
  clock : Nat
  clockSince : Option Nat
  flowLoss : Option Nat
  restart : Option Nat
  deriving DecidableEq, Repr

/-- State of the Cooling Controller (R102). Outputs 0 to 3 are the pump outputs and 4 to 11 the fan outputs 0 to 7. `refBase` is the
first timer count after start-up and `refTaken` the latest reference period start of the periods 250, 500 and 1000 (R93). -/
structure Cooling where
  zones : List ZoneLive
  outs : List OutLive
  pumps : List PumpLive
  bay : CoolState
  refBase : Nat
  refTaken : List (Option Nat)
  deriving DecidableEq, Repr

/-! ## Loop Master -/

/-- Bus states (Table 6-2). -/
inductive BusState | free | afterWrite | readOpen | readClosed
  deriving DecidableEq, Repr

/-- Step results (R107, Table 12-7). -/
inductive StepResult | ack | notAck | byte (b : Byte) | released | notRun
  deriving DecidableEq, Repr

/-- Script results (R107). -/
inductive ScriptResult | complete | noAnswer | busStuck | aborted
  deriving DecidableEq, Repr

/-- Whose script runs: a polled detector's or the manual one. -/
inductive ScriptOwner | polled (d : Nat) | manual
  deriving DecidableEq, Repr

/-- A script in progress: its steps, and the results of the steps completed. -/
structure ScriptRun where
  owner : ScriptOwner
  steps : List ScriptStep
  results : List StepResult
  deriving DecidableEq, Repr

/-- A script that has ended, waiting for its bus to be closed or recovered: its result and the result of every step. -/
structure ScriptEnd where
  owner : ScriptOwner
  result : ScriptResult
  results : List StepResult
  deriving DecidableEq, Repr

/-- What the Loop Master is doing on the bus. `closing` and `recovering` carry the script that ends when they complete, if any; `byAbort` marks a
recovery made to end a manual script (R114), in which a stuck bus has not been counted yet. -/
inductive LoopAct
  | idle
  | running (r : ScriptRun)
  | closing (after : Option ScriptEnd)
  | recovering (after : Option ScriptEnd) (byAbort : Bool)
  deriving DecidableEq, Repr

/-- What the S48 does on the two lines of the loop, one action after another (R103, Table 6-1). Releasing the clock includes waiting for it to read
high, and the half bit period after it counts from that moment; `half` is half a bit period, `sample` reads the data line. -/
inductive LineSignal
  | clockLow | clockRelease | dataLow | dataRelease | awaitBoth | awaitData | sample | half
  deriving DecidableEq, Repr

/-- The signalling of an activity on the loop. `body` is what goes out first; a written byte that is not acknowledged is followed by `ifNotAck`,
everything else by `tail` (R107). -/
structure Signalling where
  body : List LineSignal
  tail : List LineSignal
  ifNotAck : List LineSignal
  deriving DecidableEq, Repr

/-- What the S48 itself does with the two lines: true is released, false pulled low (section 6.1). -/
structure LoopLines where
  clock : Bool
  data : Bool
  deriving DecidableEq, Repr

/-- A hold in force (R113): the bus state the last manual script left, and the hold timer, with `left` counts remaining at `since` while it runs; it is
stopped, `since` absent, while a further LOOP_RUN runs. -/
structure Hold where
  busState : BusState
  left : Nat
  since : Option Nat
  deriving DecidableEq, Repr

/-- The manual slot (section 6.8): the request to answer and its script. -/
structure Manual where
  port : FramePort
  src : Byte
  id : Byte
  steps : List ScriptStep
  running : Bool
  deriving DecidableEq, Repr

/-- State of the Loop Master (R117). `actSince` is when the step, closing or recovery in progress began, `signals` its signalling and `lines` the two
lines as it found them; `lastElapsed` is the elapsed time in ms that the latest loop round end carried (R110); `rest` the detectors still to be polled
in the running round and `polled` those of the round so far. -/
structure Loop where
  bus : BusState
  lines : LoopLines
  act : LoopAct
  actSince : Nat
  signals : Signalling
  round : Nat
  running : Bool
  roundStart : Nat
  lastEnd : Option Nat
  lastEndRound : Nat
  lastElapsed : Nat
  dueAt : Option Nat
  fallenDue : Bool
  rest : List Nat
  polled : List Nat
  manual : Option Manual
  hold : Option Hold
  busFault : Bool
  stuck : Nat
  deriving DecidableEq, Repr

/-! ## Fire Supervisor -/

/-- Detector states (Table 7-1). -/
inductive DetState | disabled | unknown | normal | preAlarm | alarm | fault
  deriving DecidableEq, Repr

/-- Live fields of a Detector Table entry (Table 7-1). -/
structure DetLive where
  state : DetState
  noAnswer : Nat
  confirm : Nat
  last : Option Nat
  latched : Bool
  deriving DecidableEq, Repr

/-- Fire states in rising rank (R128). -/
inductive FireState | quiet | preAlarm | alarm | releasePending | released
  deriving DecidableEq, Repr

/-- The release countdown (R130): `left` counts remain from `since` while it runs; `since` is absent while it is frozen. -/
structure Countdown where
  left : Nat
  since : Option Nat
  deriving DecidableEq, Repr

/-- State of the Fire Supervisor (R136). `pulse` is the start of the release pulse timer; `sounder` the sounder phase, started at
`sounderSince`. -/
structure Fire where
  dets : List DetLive
  state : FireState
  countdown : Option Countdown
  pulse : Option Nat
  silenced : Bool
  sounder : Bool
  sounderSince : Nat
  blind : List Bool
  picture : Bool
  deriving DecidableEq, Repr

/-! ## Connection Sequencer -/

/-- Sequencer states (Table 8-3). -/
inductive SeqState
  | open_ | precharge | dcReady | closing | connected | tripping | recloseWait | opening | lockedOut
  deriving DecidableEq, Repr

/-- Trip causes (Table 8-5, R153). -/
inductive Cause
  | uv1 | uv2 | ov1 | ov2 | uf | of | rocof | meterLost | breakerOpened | closeFail
  | fire | estop | converterLost | readback | cooling | breakerStray | disconnect | startupClosed
  deriving DecidableEq, Repr

/-- Class of a trip cause (section 8.7). -/
inductive CauseClass | grid | bay
  deriving DecidableEq, Repr

/-- Continuation of a trip (R149). -/
inductive Continuation | recloseWait | opening
  deriving DecidableEq, Repr

/-- The trip in progress (section 8.5). TRIPPING is entered from CLOSING and CONNECTED alone, which both demand CONT_NEG and
CONT_POS, so the demands as at its entry (Table 8-3) need no record. -/
structure Trip where
  cause : Cause
  cls : CauseClass
  cont : Continuation
  deriving DecidableEq, Repr

/-- Lockout reasons (Table 12-7). -/
inductive Lockout | none | recloseLimit | breakerFail | welded | fire | latchLost
  deriving DecidableEq, Repr

/-- Meter record (Table 8-1). -/
structure MeterRec where
  v1 : Nat
  v2 : Nat
  v3 : Nat
  r1 : Nat
  r2 : Nat
  r3 : Nat
  freq : Nat
  rocof : Int
  power : Int
  backup : Bool
  at_ : Nat
  deriving DecidableEq, Repr

/-- Converter record (Table 8-1). -/
structure ConvRec where
  bus : Nat
  string : Nat
  p : Int
  q : Int
  state : ConvState
  flags : Byte
  at_ : Nat
  deriving DecidableEq, Repr

/-- The stray-trip record (R153). -/
structure Stray where
  cause : Cause
  since : Nat
  deriving DecidableEq, Repr

/-- State of the Connection Sequencer (R155). `stepSince` is the start of the step timer, `closePulse` that BREAKER_CLOSE is demanded.
`stages` holds the start of the stage timers UV1, UV2, OV1, OV2, UF, OF; `discharged` that a CONVERTER sample since entry into OPENING has
met the discharge part of the weld check (R151). -/
structure Sequencer where
  state : SeqState
  trip : Option Trip
  pendingLockout : Option Lockout
  reclose : Nat
  reason : Lockout
  stepSince : Option Nat
  closePulse : Bool
  connectedSince : Option Nat
  blind : Bool
  blindSince : Option Nat
  stages : List (Option Nat)
  rocofRun : Nat
  healthySince : Option Nat
  discharged : Bool
  meter : Option MeterRec
  conv : Option ConvRec
  auxBackup : Bool
  stray : Option Stray
  deriving DecidableEq, Repr

/-! ## Line Unit -/

/-- An input (R157): its raw electrical level (true for HIGH), the start of its stability timer, and its debounced electrical
level. -/
structure InputLive where
  raw : Bool
  timer : Option Nat
  level : Option Bool
  deriving DecidableEq, Repr

/-- A force record (section 9.3): the forced value (a duty, or 0 and 1 for off and on) and when it was set. -/
structure Force where
  value : Nat
  since : Nat
  deriving DecidableEq, Repr

/-- Readback state of a contactor (R163): the moment from which its disagreement timer runs, absent while the timer is stopped, and the fault flag. The
timer is stopped in agreement and again once it has reached 200 ms and set the flag (section 9.6). -/
structure Readback where
  since : Option Nat
  fault : Bool
  deriving DecidableEq, Repr

/-- The fault summary (R164): whether each reason holds. -/
structure FaultSummary where
  detectorFault : Bool
  detectionBlind : Bool
  pumpLocked : Bool
  lockedOut : Bool
  readback : Bool
  store : Bool
  deriving DecidableEq, Repr

/-- State of the Line Unit (R166). `control` is true once the start-up order has brought the lines under control. `outs` holds the
composed level of the outputs with codes 12 to 21, and `forces` a record for each output code 0 to 21. -/
structure Lines where
  control : Bool
  inputs : List InputLive
  outs : List Bool
  forces : List (Option Force)
  pos : Readback
  neg : Readback
  cut : Bool
  faults : FaultSummary
  deriving DecidableEq, Repr

/-! ## Station Link Unit -/

/-- Forwarding record of a node (section 10.5). -/
structure ForwardRec where
  mark : Option Nat
  rounds : Nat
  deriving DecidableEq, Repr

/-- State of the Station Link Unit (R180). `rateAt` is when a bit rate was last applied to the Station Link (R167); `holder` is the side that holds authority; `losses` the loss counters in rank order;
`counts` the next upward sequence count of each port; `policy` in the order MODULE, COOLANT, METER, CONVERTER; `enables` in group order. -/
structure Link where
  station : Receiver
  service : Receiver
  rateAt : Option Nat
  holder : FramePort
  serviceSince : Option Nat
  queue : List UpFrame
  queueTx : Option UpTx
  losses : List Nat
  fifo : List UpFrame
  fifoTx : Option UpTx
  fifoLoss : Nat
  stationCount : Nat
  serviceCount : Nat
  policy : List Forward
  records : List ForwardRec
  enables : List Bool
  deriving DecidableEq, Repr

/-! ## Management Unit -/

/-- A latch record (section 11.5): the flag, the reason code and the check that closes it, absent where its writing was cut off. -/
structure LatchRec where
  flag : Bool
  reason : Nat
  check : Option Check
  deriving DecidableEq, Repr

/-- The store image (section 11.5): both groups of tables, the three immediate settings, and the check that closes it, absent where it was never written
or its writing was cut off. -/
structure Image where
  ring : RingTables
  loop : LoopTables
  split : Nat
  policy : List Forward
  enables : List Bool
  check : Option Check
  deriving DecidableEq, Repr

/-- Store state (R188). -/
inductive StoreState | idle | writingImage | writingLatch
  deriving DecidableEq, Repr

/-- A SAVE in progress (R187): the copy taken, the generations of the copy, and the request to answer. -/
structure SaveJob where
  image : Image
  ringGen : Nat
  loopGen : Nat
  port : FramePort
  src : Byte
  id : Byte
  deriving DecidableEq, Repr

/-- State of the Management Unit (R193). `latchWaiting` is the latch record waiting to be written and `latchWriting` the one being written;
`lastLatch` the latch record as last written; `restart` that a RESTART is pending. -/
structure Mgmt where
  ringTables : RingTables
  loopTables : LoopTables
  ringStaged : List RingPart
  loopStaged : List LoopPart
  ringGen : Nat
  loopGen : Nat
  store : StoreState
  latchWaiting : Option LatchRec
  latchWriting : Option LatchRec
  save : Option SaveJob
  storeFault : Bool
  lastLatch : LatchRec
  restart : Bool
  deriving DecidableEq, Repr

/-- The non-volatile store (section 11.5): what it holds survives every reset. -/
structure Store where
  image : Image
  latch : LatchRec
  deriving DecidableEq, Repr

/-- Where the part stands between power and work (R191, R192): without supply, in a reset, a reset ended and the start-up order
still to run, or running. -/
inductive Phase | off | inReset | startUpDue | running
  deriving DecidableEq, Repr

end Sys2Proof.Machine
end

