-- ==== Sys2Proof/Machine/Operands.lean ====
section
/-! DEFINITION. Operand forms: the byte fields of chapter 12, the frame check of R194, and the script steps of R195. -/

namespace Sys2Proof.Machine

/-! ## Writing fields (section 12.2) -/

/-- A 1-byte field. -/
def encU8 (n : Nat) : List Byte := [BitVec.ofNat 8 n]

/-- An unsigned 2-byte field, high byte first. -/
def encU16 (n : Nat) : List Byte := [BitVec.ofNat 8 (n / 256), BitVec.ofNat 8 n]

/-- An unsigned 4-byte field, high byte first. -/
def encU32 (n : Nat) : List Byte :=
  [BitVec.ofNat 8 (n / 16777216), BitVec.ofNat 8 (n / 65536), BitVec.ofNat 8 (n / 256), BitVec.ofNat 8 n]

/-- A signed 2-byte field, two's complement. -/
def encS16 (i : Int) : List Byte := encU16 (i % 65536).toNat

/-- A signed 4-byte field, two's complement. -/
def encS32 (i : Int) : List Byte := encU32 (i % 4294967296).toNat

/-- yes and no, on and off, true and false as 1 and 0. -/
def encBool (b : Bool) : List Byte := encU8 b.toNat

/-- Absent values: 0xFF in a 1-byte field, 0xFFFF in an unsigned 2-byte field, 0x8000 in a signed one, 0x80000000 in a 4-byte field. -/
def optU8 (o : Option Nat) : List Byte := match o with | some n => encU8 n | none => encU8 0xFF
def optU16 (o : Option Nat) : List Byte := match o with | some n => encU16 n | none => encU16 0xFFFF
def optS16 (o : Option Int) : List Byte := match o with | some i => encS16 i | none => encU16 0x8000
def optU32 (o : Option Nat) : List Byte := match o with | some n => encU32 n | none => encU32 0x80000000

/-- A set of flags with flag k in bit k: the value of the field. -/
def flagBits : List Bool → Nat
  | [] => 0
  | b :: bs => b.toNat + 2 * flagBits bs

/-! ## Reading fields -/

/-- The unsigned value of two bytes, high byte first. -/
def u16 (hi lo : Byte) : Nat := hi.toNat * 256 + lo.toNat

/-- The two's complement value of an unsigned 16-bit number. -/
def signed16 (n : Nat) : Int := if n < 32768 then (n : Int) else (n : Int) - 65536

/-- The signed value of two bytes. -/
def s16 (hi lo : Byte) : Int := signed16 (u16 hi lo)

/-- Take a 1-byte field off an argument block. -/
def getU8 : List Byte → Option (Nat × List Byte)
  | b :: r => some (b.toNat, r)
  | [] => none

/-- Take an unsigned 2-byte field. -/
def getU16 : List Byte → Option (Nat × List Byte)
  | a :: b :: r => some (u16 a b, r)
  | _ => none

/-- Take a signed 2-byte field. -/
def getS16 : List Byte → Option (Int × List Byte)
  | a :: b :: r => some (s16 a b, r)
  | _ => none

/-- Take an unsigned 4-byte field. -/
def getU32 : List Byte → Option (Nat × List Byte)
  | a :: b :: c :: d :: r => some (u16 a b * 65536 + u16 c d, r)
  | _ => none

/-- Take a field that is 0 or 1. -/
def getBool (l : List Byte) : Option (Bool × List Byte) :=
  match getU8 l with
  | some (0, r) => some (false, r)
  | some (1, r) => some (true, r)
  | _ => none

/-- Take `n` fields of one form. -/
def getMany {α : Type} (get : List Byte → Option (α × List Byte)) : Nat → List Byte → Option (List α × List Byte)
  | 0, l => some ([], l)
  | n + 1, l =>
    match get l with
    | none => none
    | some (x, r) =>
      match getMany get n r with
      | none => none
      | some (xs, r') => some (x :: xs, r')

/-- Take a list of varying length, preceded by its count (section 12.5). -/
def getCounted {α : Type} (get : List Byte → Option (α × List Byte)) (l : List Byte) : Option (List α × List Byte) :=
  match getU8 l with
  | none => none
  | some (n, r) => getMany get n r

/-- Take one point (T, F) of a curve. -/
def getPoint (l : List Byte) : Option ((Int × Nat) × List Byte) :=
  match getS16 l with
  | none => none
  | some (t, r) =>
    match getU16 r with
    | none => none
    | some (f, r') => some ((t, f), r')

/-- The result of a reader that must have used up the whole block (R182 step 4: the length matches). -/
def whole {α : Type} (o : Option (α × List Byte)) : Option α :=
  match o with
  | some (x, []) => some x
  | _ => none

/-! ## Frames -/

/-- One step of the check register: shift left, and exclusive-or with 0x8005 when the bit shifted out was 1 (R194). -/
def crcShift (r : Check) : Check := if r.msb then (r <<< 1) ^^^ 0x8005#16 else r <<< 1

/-- One byte into the check register (R194). -/
def crcByte (r : Check) (b : Byte) : Check :=
  crcShift (crcShift (crcShift (crcShift (crcShift (crcShift (crcShift (crcShift (r ^^^ (b.setWidth 16 <<< 8)))))))))

/-- The check over a list of bytes, from 0xFFFF (R194). -/
def crc16 (l : List Byte) : Check := l.foldl crcByte 0xFFFF#16

/-- Bytes 1 to 5 + n of a frame, over which its check is taken. -/
def frameBody (f : Frame) : List Byte :=
  [f.dst, f.src, f.kind, f.seq, BitVec.ofNat 8 f.payload.length] ++ f.payload

/-- The frame check of a frame (R194). -/
def frameCheck (f : Frame) : Check := crc16 (frameBody f)

/-- The bytes of a frame as they go on the line (Table 12-1). -/
def frameBytes (f : Frame) : List Byte :=
  0xA5#8 :: frameBody f ++ [(frameCheck f >>> 8).setWidth 8, (frameCheck f).setWidth 8]

/-- Length of a frame in bytes, 8 + n. -/
def frameLength (f : Frame) : Nat := 8 + f.payload.length

/-- Kind codes (Table 12-2). -/
def kSync : Byte := 0x01
def kPoll : Byte := 0x02
def kSample : Byte := 0x03
def kSetpoint : Byte := 0x04
def kSetpointAck : Byte := 0x05
def kMgmtReq : Byte := 0x06
def kMgmtRsp : Byte := 0x07
def kNotice : Byte := 0x08
def kSplit : Byte := 0x09
def kNodeCmd : Byte := 0x0A
def kNodeRsp : Byte := 0x0B

/-- The Setpoint Slot's frame as it is sent (Table 12-4). -/
def slotToFrame (f : SlotFrame) : Frame :=
  { dst := f.dst, src := f.src, kind := kSetpoint, seq := f.seq
    payload := encU8 f.tag ++ encS16 f.p ++ encS16 f.q ++ encU8 (flagBits [f.flags.clamped, f.flags.reissued, f.flags.fallback]) }

/-! ## Sample payloads (Table 12-3) -/

/-- A decoded MODULE payload. -/
structure ModuleSample where
  status : Byte
  cells : List Nat
  temps : List Int
  balancing : BitVec 16
  deriving DecidableEq, Repr

/-- The MODULE layout: the counts n and m must lie in 1 to 16 and 0 to 4 and the length be 5 + 2n + 2m (R18). -/
def parseModule (p : List Byte) : Option ModuleSample :=
  match p with
  | st :: n :: r =>
    if n.toNat = 0 ∨ 16 < n.toNat then none
    else match getMany getU16 n.toNat r with
      | some (cells, m :: r') =>
        if 4 < m.toNat then none
        else match getMany getS16 m.toNat r' with
          | some (temps, [a, b]) => some ⟨st, cells, temps, BitVec.ofNat 16 (u16 a b)⟩
          | _ => none
      | _ => none
  | _ => none

/-- A decoded COOLANT payload. -/
structure CoolantSample where
  inlet : Int
  outlet : Int
  flow : Nat
  pressure : Nat
  status : Byte
  deriving DecidableEq, Repr

def parseCoolant (p : List Byte) : Option CoolantSample :=
  match p with
  | [a, b, c, d, e, f, g, h, st] => some ⟨s16 a b, s16 c d, u16 e f, u16 g h, st⟩
  | _ => none

/-- A decoded METER payload. -/
structure MeterSample where
  v1 : Nat
  v2 : Nat
  v3 : Nat
  freq : Nat
  rocof : Int
  power : Int
  backup : Bool
  deriving DecidableEq, Repr

def parseMeter (p : List Byte) : Option MeterSample :=
  match p with
  | [a, b, c, d, e, f, g, h, i, j, k, l, x] =>
    if x.toNat = 0 ∨ x.toNat = 1 then
      some ⟨u16 a b, u16 c d, u16 e f, u16 g h, s16 i j, s16 k l, x.toNat == 1⟩
    else none
  | _ => none

/-- A decoded CONVERTER payload. -/
structure ConverterSample where
  bus : Nat
  string : Nat
  p : Int
  q : Int
  state : ConvState
  flags : Byte
  deriving DecidableEq, Repr

/-- Converter state of its code (Table 12-3). -/
def convStateOf (n : Nat) : Option ConvState :=
  match n with
  | 0 => some .stopped
  | 1 => some .ready
  | 2 => some .running
  | 3 => some .fault
  | _ => none

def parseConverter (p : List Byte) : Option ConverterSample :=
  match p with
  | [a, b, c, d, e, f, g, h, st, fl] =>
    match convStateOf st.toNat with
    | some cs => some ⟨u16 a b, u16 c d, s16 e f, s16 g h, cs, fl⟩
    | none => none
  | _ => none

/-- A decoded SETPOINT payload: tag, P and Q; the flags byte it carries is not used (R68). -/
def parseSetpoint (p : List Byte) : Option (Nat × Int × Int) :=
  match p with
  | [t, a, b, c, d, _] => some (t.toNat, s16 a b, s16 c d)
  | _ => none

/-- A decoded SETPOINT_ACK payload. DESIGN CHOICE, log entry 47: any result byte is taken, where Table 12-4 gives 0 to 2. -/
def parseAck (p : List Byte) : Option AckRec :=
  match p with
  | [t, a, b, c, d, r] => some ⟨t.toNat, s16 a b, s16 c d, r⟩
  | _ => none

/-! ## Script steps (R195) -/

/-- A script step of two bytes; none when a value kind or tail is 3 or bit 2 is set. DESIGN CHOICE, log entry 55: with a value kind other than literal
byte 1 is not looked at. -/
def decodeStep (a b : Byte) : Option ScriptStep :=
  if a.getLsbD 2 then none
  else
    let lead : Lead := match (a.toNat / 64) with | 0 => .openBus | 1 => .reopen | 2 => .plain | _ => .release
    let value : Option StepValue := match (a.toNat / 8) % 4 with
      | 0 => some (.literal b) | 1 => some .detectorWrite | 2 => some .detectorRead | _ => none
    let tail : Option Tail := match a.toNat % 4 with
      | 0 => some .continue_ | 1 => some .last | 2 => some .lastStop | _ => none
    match value, tail with
    | some v, some t => some ⟨lead, a.getLsbD 5, v, t⟩
    | _, _ => none

/-- The two bytes of a script step. -/
def encodeStep (s : ScriptStep) : List Byte :=
  let lead : Nat := match s.lead with | .openBus => 0 | .reopen => 64 | .plain => 128 | .release => 192
  let kind : Nat := match s.value with | .literal _ => 0 | .detectorWrite => 8 | .detectorRead => 16
  let tail : Nat := match s.tail with | .continue_ => 0 | .last => 1 | .lastStop => 2
  let lit : Byte := match s.value with | .literal b => b | _ => 0
  [BitVec.ofNat 8 (lead + (if s.read then 32 else 0) + kind + tail), lit]

/-- The steps of a script, two bytes each. -/
def decodeSteps : List Byte → Option (List ScriptStep)
  | [] => some []
  | a :: b :: r =>
    match decodeStep a b, decodeSteps r with
    | some s, some ss => some (s :: ss)
    | _, _ => none
  | [_] => none

/-- A script: a step count of 1 to 10 and that number of steps, with nothing after them (R195). -/
def decodeScript (l : List Byte) : Option (List ScriptStep) :=
  match l with
  | [] => none
  | n :: r =>
    if n.toNat = 0 ∨ 10 < n.toNat ∨ r.length ≠ 2 * n.toNat then none else decodeSteps r

/-- The bytes of a script. -/
def encodeScript (ss : List ScriptStep) : List Byte := encU8 ss.length ++ ss.flatMap encodeStep

end Sys2Proof.Machine
end

