-- ==== Sys2Proof/Machine/Flags.lean ====
section
/-! DEFINITION. The codes of Table 12-6 and Table 12-7, the ranks of Tables 2-4 and R128, and the notice record of section 10.6. Codes that
the manual does not give (roles, sides, origins, policies, kinds and actions) are a DESIGN CHOICE, log entry 8. -/

namespace Sys2Proof.Machine

def NodeState.code : NodeState → Nat
  | .unconfigured => 0 | .absent => 1 | .inService => 2 | .silent => 3 | .excluded => 4

def ModCond.code : ModCond → Nat
  | .unknown => 0 | .normal => 1 | .coldInhibit => 2 | .warn => 3 | .sensorFault => 4 | .trip => 5 | .runaway => 6

def Cond.code : Cond → Nat
  | .unknown => 0 | .normal => 1 | .coldInhibit => 2 | .uvWarn => 3 | .ovWarn => 4 | .otWarn => 5 | .sensorFault => 6
  | .uvTrip => 7 | .ovTrip => 8 | .otTrip => 9

/-- Severity rank (Table 2-4). -/
def Cond.rank : Cond → Nat
  | .unknown => 0 | .normal => 1 | .coldInhibit => 2 | .uvWarn => 3 | .ovWarn => 3 | .otWarn => 3 | .sensorFault => 4
  | .uvTrip => 5 | .ovTrip => 5 | .otTrip => 5

/-- Warning level (R28). -/
def Cond.warning : Cond → Cond
  | .uvTrip => .uvWarn | .ovTrip => .ovWarn | .otTrip => .otWarn | c => c

/-- Whether a condition is a trip (R34). -/
def Cond.isTrip (c : Cond) : Bool := c == .uvTrip || c == .ovTrip || c == .otTrip

def CoolState.code : CoolState → Nat
  | .idle => 0 | .running => 1 | .degraded => 2 | .failed => 3

def PumpState.code : PumpState → Nat
  | .stopped => 0 | .running => 1 | .restartWait => 2 | .locked => 3

def BusState.code : BusState → Nat
  | .free => 0 | .afterWrite => 1 | .readOpen => 2 | .readClosed => 3

def DetState.code : DetState → Nat
  | .disabled => 0 | .unknown => 1 | .normal => 2 | .preAlarm => 3 | .alarm => 4 | .fault => 5

/-- Code of a fire state, which is also its rank (R128). -/
def FireState.code : FireState → Nat
  | .quiet => 0 | .preAlarm => 1 | .alarm => 2 | .releasePending => 3 | .released => 4

def SeqState.code : SeqState → Nat
  | .open_ => 0 | .precharge => 1 | .dcReady => 2 | .closing => 3 | .connected => 4 | .tripping => 5 | .recloseWait => 6
  | .opening => 7 | .lockedOut => 8

def Cause.code : Cause → Nat
  | .uv1 => 1 | .uv2 => 2 | .ov1 => 3 | .ov2 => 4 | .uf => 5 | .of => 6 | .rocof => 7 | .meterLost => 8 | .breakerOpened => 9
  | .closeFail => 10 | .fire => 11 | .estop => 12 | .converterLost => 13 | .readback => 14 | .cooling => 15
  | .breakerStray => 16 | .disconnect => 17 | .startupClosed => 18

def Lockout.code : Lockout → Nat
  | .none => 0 | .recloseLimit => 1 | .breakerFail => 2 | .welded => 3 | .fire => 4 | .latchLost => 5

def ConvState.code : ConvState → Nat
  | .stopped => 0 | .ready => 1 | .running => 2 | .fault => 3

def ScriptResult.code : ScriptResult → Nat
  | .complete => 0 | .noAnswer => 1 | .busStuck => 2 | .aborted => 3

/-- Step result kind and byte, as a LOOP_RUN response carries them (R195). -/
def StepResult.bytes : StepResult → List Byte
  | .ack => [0, 0] | .notAck => [1, 0] | .byte b => [2, b] | .released => [3, 0] | .notRun => [4, 0]

/-- Index of an input in the list of inputs, one below its code (Table 12-7). -/
def inputIdx : Input → Nat
  | .breakerAux => 0 | .contPosAux => 1 | .contNegAux => 2 | .estop => 3 | .door => 4 | .hold => 5

/-- Holder and port codes (R171): 1 for STATION or the Station Link, 2 for SERVICE or the Service Port. -/
def holderCode : FramePort → Nat
  | .station => 1 | .service => 2

/-- Position of an outward class in the ranking of R174. -/
def QClass.rank : QClass → Nat
  | .forwarded => 0 | .routine => 1 | .response => 2 | .alarm => 3

/-! Codes the manual does not give: the order of listing, from 0 (log entry 8). -/

def Role.code : Role → Nat
  | .unused => 0 | .mod => 1 | .cool => 2 | .meter => 3 | .conv => 4

def roleOf (n : Nat) : Option Role :=
  match n with | 0 => some .unused | 1 => some .mod | 2 => some .cool | 3 => some .meter | 4 => some .conv | _ => none

def sideCode : RingPort → Nat
  | .a => 0 | .b => 1

def sideOf (n : Nat) : Option RingPort :=
  match n with | 0 => some .a | 1 => some .b | _ => none

def Origin.code : Origin → Nat
  | .station => 0 | .service => 1 | .s48 => 2

def Policy.code : Policy → Nat
  | .all => 0 | .onChange => 1 | .never => 2

def policyOf (n : Nat) : Option Policy :=
  match n with | 0 => some .all | 1 => some .onChange | 2 => some .never | _ => none

def FanKind.code : FanKind → Nat
  | .fan => 0 | .exhaust => 1

def fanKindOf (n : Nat) : Option FanKind :=
  match n with | 0 => some .fan | 1 => some .exhaust | _ => none

/-- An action is carried as its kind and a duty, 0 for AUTO and FORCE_OFF. -/
def FireAction.bytes : FireAction → List Byte
  | .auto => encU8 0 ++ encU16 0 | .forceOff => encU8 1 ++ encU16 0 | .forceDuty d => encU8 2 ++ encU16 d

/-- The reader of an action (R82). DESIGN CHOICE, log entry 51: an AUTO or FORCE_OFF with a duty other than 0 is accepted and its duty dropped. -/
def getAction (l : List Byte) : Option (FireAction × List Byte) :=
  match getU8 l with
  | none => none
  | some (k, r) =>
    match getU16 r with
    | none => none
    | some (d, r') =>
      match k with
      | 0 => some (.auto, r') | 1 => some (.forceOff, r') | 2 => some (.forceDuty d, r') | _ => none

def DetKind.code : DetKind → Nat
  | .unused => 0 | .smoke => 1 | .heat => 2 | .gasH2 => 3 | .gasCO => 4 | .callPoint => 5

def detKindOf (n : Nat) : Option DetKind :=
  match n with
  | 0 => some .unused | 1 => some .smoke | 2 => some .heat | 3 => some .gasH2 | 4 => some .gasCO | 5 => some .callPoint
  | _ => none

def DutySource.code : DutySource → Nat
  | .auto => 0 | .force => 1 | .override => 2

def CauseClass.code : CauseClass → Nat
  | .grid => 0 | .bay => 1

def Continuation.code : Continuation → Nat
  | .recloseWait => 6 | .opening => 7

def StoreState.code : StoreState → Nat
  | .idle => 0 | .writingImage => 1 | .writingLatch => 2

/-! ## Notices (sections 10.6 and 12.4) -/

/-- A notice as a block raises it. -/
structure Notice where
  alarm : Bool
  group : Nat
  code : Nat
  qualifier : Bool
  subject : Nat
  value : Int
  deriving DecidableEq, Repr

/-- Group codes (Table 12-5). -/
def gCell : Nat := 1
def gEnvelope : Nat := 2
def gSetpoint : Nat := 3
def gCooling : Nat := 4
def gFire : Nat := 5
def gGrid : Nat := 6
def gLink : Nat := 7
def gTable : Nat := 8
def gOutput : Nat := 9

/-- A notice of class ROUTINE. -/
def routineNotice (group code subject : Nat) (value : Int) : Notice := ⟨false, group, code, false, subject, value⟩

/-- A notice of class ALARM. -/
def alarmNotice (group code subject : Nat) (value : Int) : Notice := ⟨true, group, code, false, subject, value⟩

/-- The notices by name, with the codes of Table 12-6. -/
def nNodeState (addr : Nat) (st : NodeState) : Notice := routineNotice gLink 1 addr st.code
def nRoundOverrun (ms : Nat) : Notice := routineNotice gLink 2 0 ms
def nRingBroken (b : Bool) : Notice := routineNotice gLink 3 0 b.toNat
def nNodeRestart (role : Role) (addr : Nat) : Notice := routineNotice (if role = .mod then gCell else gLink) 4 addr 0
def nMalformed (role : Role) (addr len : Nat) : Notice := routineNotice (if role = .mod then gCell else gLink) 5 addr len
def nInsertRefused (dst value : Nat) : Notice := routineNotice gLink 6 dst value
def nInsertFull (dst : Nat) : Notice := routineNotice gLink 7 dst 8
def nAuthorityDeniedLink (dst : Nat) (p : FramePort) : Notice := routineNotice gLink 8 dst (holderCode p)
def nAuthority (reason : Nat) (h : FramePort) : Notice := ⟨h == .service, gLink, 9, false, reason, holderCode h⟩
def nModuleCondition (addr : Nat) (c : ModCond) : Notice := routineNotice gCell 10 addr c.code
def nCellPicture (n : Nat) : Notice := routineNotice gCell 11 0 n
def nEnvelopeGate (gate : Nat) (on : Bool) : Notice := routineNotice gEnvelope 12 gate on.toNat
def nEnvelopeLimit (which limit : Nat) : Notice := routineNotice gEnvelope 13 which limit
def nSetpointDropped (tag why : Nat) : Notice := routineNotice gSetpoint 14 tag why
def nAckLost (tag count : Nat) : Notice := routineNotice gSetpoint 15 tag count
def nUnresponsive (on : Bool) : Notice := routineNotice gSetpoint 16 0 on.toNat
def nRejected (tag : Nat) (p : Int) : Notice := routineNotice gSetpoint 17 tag p
def nConverterState (c : ConvState) : Notice := routineNotice gSetpoint 18 0 c.code
def nStationSilent (on : Bool) : Notice := routineNotice gSetpoint 19 0 on.toNat
def nAuthorityDeniedSetpoint (tag : Nat) (p : FramePort) : Notice := routineNotice gSetpoint 8 tag (holderCode p)
def nZoneBlind (z : Nat) (on : Bool) : Notice := routineNotice gCooling 20 z on.toNat
def nPumpFault (p n : Nat) : Notice := routineNotice gCooling 21 p n
def nPumpState (p : Nat) (st : PumpState) : Notice := routineNotice gCooling 22 p st.code
def nZoneState (z : Nat) (st : CoolState) : Notice := routineNotice gCooling 23 z st.code
def nBayCooling (st : CoolState) : Notice := routineNotice gCooling 24 0 st.code
def nLoopBusFault (on : Bool) : Notice := routineNotice gFire 25 0 on.toNat
def nLoopHoldExpired (b : BusState) : Notice := routineNotice gFire 26 0 b.code
def nDetectorState (d : Nat) (st : DetState) : Notice := routineNotice gFire 27 d st.code
def nDetectionBlind (z : Nat) (on : Bool) : Notice := routineNotice gFire 28 z on.toNat
def nFirePicture (n : Nat) : Notice := routineNotice gFire 29 0 n
def nFireState (st : FireState) : Notice := alarmNotice gFire 30 0 st.code
def nReleaseInhibited : Notice := routineNotice gFire 31 0 1
def nReleaseHold (frozen : Bool) (sec : Nat) : Notice := ⟨false, gFire, 32, frozen, 0, sec⟩
def nAuxSource (backup : Bool) : Notice := routineNotice gGrid 33 0 backup.toNat
def nMeterBlind (on : Bool) : Notice := routineNotice gGrid 34 0 on.toNat
def nSeqState (st : SeqState) : Notice := routineNotice gGrid 35 0 st.code
def nSeqTrip (alarm : Bool) (c : Cause) (counter : Nat) : Notice := ⟨alarm, gGrid, 36, false, c.code, counter⟩
def nPrechargeFail : Notice := routineNotice gGrid 37 1 0
def nBreakerFail : Notice := alarmNotice gGrid 37 2 0
def nWelded (detail : Nat) : Notice := alarmNotice gGrid 37 3 detail
def nLockout (r : Lockout) (on : Bool) : Notice := alarmNotice gGrid 38 r.code on.toNat
def nInputState (i : Input) (on : Bool) : Notice := ⟨i == .estop, gOutput, 39, false, inputIdx i + 1, on.toNat⟩
def nOutputForce (o : Nat) (v : Int) : Notice := routineNotice gOutput 40 o v
def nReadbackFault (c : Contactor) (on : Bool) : Notice := routineNotice gOutput 41 (if c = .pos then 1 else 2) on.toNat
def nFaultSummary (on : Bool) : Notice := routineNotice gOutput 42 0 on.toNat
def nTablesApplied (group gen : Nat) : Notice := routineNotice gTable 43 group gen
def nStoreFault (on : Bool) : Notice := routineNotice gTable 44 0 on.toNat
def nRestartAbandoned (st : FireState) : Notice := routineNotice gTable 45 0 st.code

/-- The NOTICE payload (Table 12-5), with the round number the Station Link Unit adds. -/
def noticePayload (n : Notice) (round : Nat) : List Byte :=
  encU8 n.alarm.toNat ++ encU8 n.group ++ encU8 (n.code + 128 * n.qualifier.toNat) ++ encU8 n.subject ++ encS32 n.value ++
    encU16 round

/-- The NOTICE frame: destination 63, source 0; its count is given at sending (R173). -/
def noticeFrame (n : Notice) (round : Nat) : Frame := ⟨63, 0, kNotice, 0, noticePayload n round⟩

end Sys2Proof.Machine
end

