-- ==== Sys2Proof/Machine/Defaults.lean ====
section
/-! DEFINITION. The default values of every table, in force when the store holds no good image (R189). -/

namespace Sys2Proof.Machine

/-- Defaults of a Node Table entry: role NONE (R26). The other fields of an unused entry are not stated; DESIGN CHOICE, log entry 5. -/
def defaultNode : NodeCfg := ⟨.unused, 0, 0, .a, 0, 0⟩

/-- Table 2-1. -/
def defaultProfile : Profile :=
  { ovTrip := 4250, ovWarn := 4150, uvWarn := 2800, uvTrip := 2500, otTrip := 600, otWarn := 500, coldInhibit := 0,
    vHyst := 20, tHyst := 30, dwell := 3, riseLimit := 50, riseWindow := 10 }

/-- Table 3-1. -/
def defaultEnvelope : EnvelopeCfg :=
  { ratings := { chgRated := 0, disRated := 0, upSlope := 100, downSlope := 1000, minInService := 1 }
    taper := { vcStart := 4100, vcEnd := 4200, vdEnd := 2700, vdStart := 3000 }
    hot := [(300, 1000), (400, 1000), (450, 700), (500, 300), (550, 0), (600, 0)]
    cold := [(-200, 0), (0, 0), (50, 300), (100, 700), (150, 1000), (200, 1000)]
    factors := { coolIdle := 1000, coolRunning := 1000, coolDegraded := 500, coolFailed := 0, sf := 500, blind := 250 } }

/-- R66. -/
def defaultSetpoint : SetpointCfg := { silenceTime := 30, fallbackP := 0 }

/-- Defaults of ZONE z (R82). -/
def defaultZone (z : Nat) : ZoneCfg :=
  { pump := some z, fans := if z < 3 then [2 * z, 2 * z + 1] else [6], node := none
    pumpCurve := [(150, 0), (250, 300), (350, 600), (450, 1000), (550, 1000)]
    fanCurve := [(100, 0), (200, 0), (300, 0), (400, 0), (500, 0)]
    blindDuty := 1000, outletWarn := 450, outletTrip := 550 }

/-- Defaults of OUTPUTS (R82). -/
def defaultOutputs : OutputsCfg :=
  { pumps := List.replicate 4 (500, 100)
    fans := List.replicate 7 (FanKind.fan, 500) ++ [(FanKind.exhaust, 500)] }

/-- Table 5-3. -/
def defaultShaping : Shaping := { minDuty := 150, dutySlope := 200, auxCap := 400 }

/-- One row of Table 5-5 laid out over the outputs: pumps AUTO, fan outputs 0 to 6 the FAN action, fan output 7 the EXHAUST action. -/
def overrideRow (fan exhaust : FireAction) : List FireAction :=
  List.replicate 4 FireAction.auto ++ List.replicate 7 fan ++ [exhaust]

/-- Table 5-5. -/
def defaultOverrides : List (List FireAction) :=
  [overrideRow .auto (.forceDuty 1000), overrideRow .forceOff (.forceDuty 1000), overrideRow .forceOff .forceOff,
   overrideRow .forceOff .forceOff]

/-- The default Cooling Table (R82). -/
def defaultCooling : CoolingCfg :=
  { zones := [defaultZone 0, defaultZone 1, defaultZone 2, defaultZone 3], outputs := defaultOutputs,
    shaping := defaultShaping, overrides := defaultOverrides }

/-- Table 8-2. -/
def defaultGrid : GridCfg :=
  { nominalV := 400, nominalF := 50, uv1 := ⟨850, 2000⟩, uv2 := ⟨500, 200⟩, ov1 := ⟨1100, 2000⟩, ov2 := ⟨1150, 200⟩,
    uf := ⟨47500, 500⟩, of := ⟨51500, 500⟩, rocofLimit := 1000, rocofCount := 3, healthyVLow := 900, healthyVHigh := 1100,
    healthyFLow := 49500, healthyFHigh := 50100, returnDelay := 60, blindLimit := 10 }

/-- Table 9-2. -/
def defaultLine : LineCfg := ⟨true, true, true, false, true, true⟩

/-- The defaults of the ring group: Node Table empty, Poll List empty, round interval 100 ms (R26), Station Link 9600 bit/s (R167). -/
def defaultRingTables : RingTables :=
  { nodes := List.replicate 40 defaultNode, poll := [], interval := 100, profiles := List.replicate 8 defaultProfile,
    envelope := defaultEnvelope, setpoint := defaultSetpoint, cooling := defaultCooling, grid := defaultGrid,
    line := defaultLine, rate := 9600 }

/-- Default reading script (Table 6-5). The unused literal of its READ steps is 0. -/
def defaultScript : List ScriptStep :=
  [⟨.openBus, false, .detectorWrite, .continue_⟩, ⟨.plain, false, .literal 0, .last⟩,
   ⟨.reopen, false, .detectorRead, .continue_⟩, ⟨.plain, true, .literal 0, .continue_⟩, ⟨.plain, true, .literal 0, .lastStop⟩]

/-- Defaults of a Detector Table entry (R118). -/
def defaultDetector : DetCfg := ⟨.unused, 0, 0, 4, 2, 0, 0, 0, false⟩

/-- The defaults of the loop group (R106, R118). -/
def defaultLoopTables : LoopTables :=
  { scripts := List.replicate 16 defaultScript, interval := 1000, detectors := List.replicate 24 defaultDetector,
    fire := { releaseEnabled := false, releaseDelay := 30 } }

/-- Table 10-1, in the order MODULE, COOLANT, METER, CONVERTER. -/
def defaultForward : List Forward := [⟨.onChange, 50⟩, ⟨.onChange, 50⟩, ⟨.onChange, 10⟩, ⟨.onChange, 10⟩]

/-- All nine groups enabled (R178). -/
def defaultEnables : List Bool := List.replicate 9 true

end Sys2Proof.Machine
end

