-- ==== Sys2Proof/Machine/ResetValues.lean ====
section
/-! DEFINITION. The state each block has after a reset, given the tables loaded (R26, R46, R65, R81, R102, R117, R136, R155, R166, R180,
R193). -/

namespace Sys2Proof.Machine

/-- A saturating counter set at 0 (R19, R180). -/
def zeroCounters : PortCounters := ⟨0, 0, 0, 0⟩

/-- A closed port with its receiver searching (R180, R191); it has no moment of opening until it is opened. -/
def closedReceiver : Receiver := ⟨false, 0, none, zeroCounters⟩

/-- A port is opened: nothing that came before this moment is received on it (R180, R192). -/
def openReceiver (now : Nat) (x : Receiver) : Receiver := { x with isOpen := true, openedAt := now }

/-- A ring port right after reset. -/
def freshRingPort : RingPortState := ⟨closedReceiver, [], 0⟩

/-- Current side of an entry for a split position in effect (R14): `pos` is its Poll List position, counted from 1. -/
def sideFor (split : Nat) (pos : Option Nat) (home : RingPort) : RingPort :=
  match split, pos with
  | 0, _ => home
  | _, none => home
  | k, some p => if p < k then .a else .b

/-- Poll List position of an address, counted from 1. -/
def pollPosition (poll : List Nat) (addr : Nat) : Option Nat :=
  match poll.idxOf? addr with
  | none => none
  | some i => some (i + 1)

/-- Live fields of an entry after reset (R26). -/
def freshNode (c : NodeCfg) (side : RingPort) : NodeLive :=
  { state := if c.role = .unused then .unconfigured else .absent, missed := 0, lastCount := none, side := side,
    malformed := false, lost := 0, checkErrors := 0, malformedCount := 0 }

/-- The live fields of all entries after reset, addresses from `addr` on. -/
def freshNodes (t : RingTables) (split : Nat) : List NodeCfg → Nat → List NodeLive
  | [], _ => []
  | c :: cs, addr => freshNode c (sideFor split (pollPosition t.poll addr) c.home) :: freshNodes t split cs (addr + 1)

/-- A poll sequence outside a round. -/
def idleSeq : PollSeq := ⟨.idle, []⟩

/-- R26. -/
def freshRing (t : RingTables) (split : Nat) : Ring :=
  { nodes := freshNodes t split t.nodes 1, portA := freshRingPort, portB := freshRingPort, round := 0, running := false,
    roundStart := 0, lastEnd := none, lastEndRound := 0, dueAt := none, fallenDue := false, overrun := false, splitEff := split,
    splitReq := split, splitPending := false, broken := false, count := 0, seqA := idleSeq, seqB := idleSeq, slot := none,
    downQueue := [] }

/-- A channel that is not present, or has not been evaluated (R28, R46). -/
def freshChan : Chan := ⟨none, .unknown, 0, none, false⟩

/-- A new Module Record (R29, R46). -/
def freshModule : ModuleRec :=
  { cells := List.replicate 16 freshChan, temps := List.replicate 4 freshChan, status := 0, balancing := 0, hottest := none,
    coolest := none, history := [], runaway := false, cond := .unknown, heard := false }

/-- Zone part of the reset summary (R46). -/
def freshZoneSummary : ZoneSummary := ⟨none, 0, false, false⟩

/-- The reset summary (R46). -/
def freshSummary : BaySummary :=
  { round := 0, elapsed := 0, inService := 0, counts := List.replicate 7 0, anyOv := false, anyUv := false, anyOt := false,
    anyCold := false, anySf := false, anyRunaway := false, vmax := none, vmin := none, tmax := none, tmin := none,
    zones := List.replicate 4 freshZoneSummary, picture := false }

/-- R46. -/
def freshCell (t : RingTables) : Cell :=
  { recs := t.nodes.map fun c => if c.role = .mod then some freshModule else none, summary := freshSummary }

/-- R65: NOT_CONNECTED and NO_PICTURE hold, and FEW_MODULES when min_in_service is 1 or more. -/
def freshEnvelope (t : RingTables) : Envelope :=
  { chg := 0, dis := 0, chgTarget := 0, disTarget := 0, factors := none,
    gates := if 1 ≤ t.envelope.ratings.minInService then [2, 4, 5] else [2, 5], lastRound := 0 }

/-- R81; the silence timer starts when the ports are opened. -/
def freshGate : Gate :=
  { requested := none, forwarded := none, inFlight := none, ackCount := 0, sent := [], lastAck := none, conv := none,
    silenceSince := none, silenceStopped := 0, silent := false }

/-- Live fields of a zone after reset (R102); the outlet thresholds in use are those of the table in force. -/
def freshZone (c : ZoneCfg) : ZoneLive :=
  { hottest := none, contributing := 0, supervised := 0, blind := false, demand := 0, inlet := none, outlet := none,
    flow := none, pressure := none, status := none, state := .idle, counted := false, warn := c.outletWarn, trip := c.outletTrip }

/-- Configured period of an output (Table 5-2). -/
def cfgPeriod (t : CoolingCfg) (o : Nat) : Nat :=
  if o < 4 then (t.outputs.pumps.getD o (500, 100)).1 else (t.outputs.fans.getD (o - 4) (.fan, 500)).2

/-- An output after reset (R102). -/
def freshOut (base period : Nat) : OutLive :=
  { automatic := 0, sourceValue := 0, shaped := 0, source := .auto, applied := 0, dither := 0, offset := 0, period := period,
    nextStart := base, level := false, highEnd := none }

/-- A pump after reset (R102). -/
def freshPump : PumpLive := ⟨.stopped, 0, 0, none, none, none⟩

/-- R102; `base` is the first timer count after start-up. -/
def freshCooling (t : CoolingCfg) (base : Nat) : Cooling :=
  { zones := (List.range 4).map fun z => freshZone (t.zones.getD z (defaultZone z))
    outs := (List.range 12).map fun o => freshOut base (cfgPeriod t o)
    pumps := List.replicate 4 freshPump, bay := .idle, refBase := base, refTaken := [none, none, none] }

/-- Nothing is signalled. -/
def noSignals : Signalling := ⟨[], [], []⟩

/-- R117. -/
def freshLoop : Loop :=
  { bus := .free, lines := ⟨true, true⟩, act := .idle, actSince := 0, signals := noSignals, round := 0, running := false, roundStart := 0,
    lastEnd := none, lastEndRound := 0, lastElapsed := 0, dueAt := none, fallenDue := false, rest := [], polled := [], manual := none, hold := none, busFault := false, stuck := 0 }

/-- Whether an entry is supervised (R118). -/
def DetCfg.supervised (c : DetCfg) : Bool := c.kind != .unused && c.enabled

/-- Live fields of a detector after reset (R136). -/
def freshDet (c : DetCfg) : DetLive := ⟨if c.supervised then .unknown else .disabled, 0, 0, none, false⟩

/-- R136. -/
def freshFire (t : LoopTables) : Fire :=
  { dets := t.detectors.map freshDet, state := .quiet, countdown := none, pulse := none, silenced := false, sounder := false,
    sounderSince := 0, blind := List.replicate 4 false, picture := false }

/-- The bytes of a latch record, and the check formed over them (R194, section 11.5). DESIGN CHOICE, log entry 24: the flag, then the reason code. -/
def latchBytes (flag : Bool) (reason : Nat) : List Byte := encBool flag ++ encU8 reason

/-- Whether the check of a latch record matches. -/
def LatchRec.checkOk (l : LatchRec) : Bool :=
  match l.check with
  | some c => c == crc16 (latchBytes l.flag l.reason)
  | none => false

/-- A latch record closed with its check. -/
def closedLatch (flag : Bool) (reason : Nat) : LatchRec := ⟨flag, reason, some (crc16 (latchBytes flag reason))⟩

/-- The start state of the sequencer given the latch record (R153, R155): the lockout reason it starts LOCKED_OUT with, or none. -/
def latchStart (l : LatchRec) : Option Lockout :=
  if l.checkOk = false then some .latchLost
  else match l.flag, l.reason with
    | false, 0 => none
    | true, 1 => some .recloseLimit
    | true, 2 => some .breakerFail
    | true, 3 => some .welded
    | true, 4 => some .fire
    | _, _ => some .latchLost

/-- R155. -/
def freshSequencer (l : LatchRec) : Sequencer :=
  { state := match latchStart l with | none => .open_ | some _ => .lockedOut
    trip := none, pendingLockout := none, reclose := 0
    reason := match latchStart l with | none => .none | some r => r
    stepSince := none, closePulse := false, connectedSince := none, blind := false, blindSince := none,
    stages := List.replicate 6 none, rocofRun := 0, healthySince := none, discharged := false, meter := none, conv := none, auxBackup := false,
    stray := none }

/-- An input after reset with the raw level its pin has (R166). -/
def freshInput (raw : Bool) : InputLive := ⟨raw, none, none⟩

/-- R166; `raws` are the levels the six pins have, which a reset does not change. -/
def freshLines (raws : List Bool) : Lines :=
  { control := false, inputs := raws.map freshInput, outs := List.replicate 10 false, forces := List.replicate 22 none,
    pos := ⟨none, false⟩, neg := ⟨none, false⟩, cut := false, faults := ⟨false, false, false, false, false, false⟩ }

/-- R180, with the immediate settings loaded. -/
def freshLink (policy : List Forward) (enables : List Bool) : Link :=
  { station := closedReceiver, service := closedReceiver, rateAt := none, holder := .station, serviceSince := none, queue := [], queueTx := none,
    losses := List.replicate 4 0, fifo := [], fifoTx := none, fifoLoss := 0, stationCount := 0, serviceCount := 0,
    policy := policy, records := List.replicate 40 ⟨none, 0⟩, enables := enables }

/-- A clear latch record with a good check (section 11.5). -/
def clearLatch : LatchRec := closedLatch false 0

/-- R193, with the tables loaded, the store fault flag and the latch record as read. -/
def freshMgmt (rt : RingTables) (lt : LoopTables) (bad : Bool) (latch : LatchRec) : Mgmt :=
  { ringTables := rt, loopTables := lt, ringStaged := [], loopStaged := [], ringGen := 1, loopGen := 1, store := .idle,
    latchWaiting := none, latchWriting := none, save := none, storeFault := bad, lastLatch := latch, restart := false }

/-- The store of a part never saved: no good image, and a clear latch record. DESIGN CHOICE, log entry 6. -/
def blankStore : Store :=
  { image := { ring := defaultRingTables, loop := defaultLoopTables, split := 0, policy := defaultForward, enables := defaultEnables,
               check := none }
    latch := clearLatch }

end Sys2Proof.Machine
end

