-- ==== Sys2Proof/Machine/State.lean ====
section
/-! DEFINITION. The machine's state: every block's state, the non-volatile store, the clock, the supply and RST line, and the queue
of commands that wait. Why a step can stop. The state right after reset. -/

namespace Sys2Proof.Machine

/-- The whole part. `now` counts microseconds and `pending` holds the commands that wait, first in, first out; both are the model's own
(log entries 1 and 2). `rst` is the level of the RST line. -/
structure State where
  now : Nat
  phase : Phase
  rst : Bool
  ring : Ring
  cell : Cell
  env : Envelope
  gate : Gate
  cool : Cooling
  loop : Loop
  fire : Fire
  seqr : Sequencer
  lines : Lines
  link : Link
  mgmt : Mgmt
  store : Store
  pending : List Instr
  deriving DecidableEq, Repr

/-- Why the machine stops with a fault. The manual describes no condition in which the part stops, so there is no constructor; a command
always answers a next state (log entry 1). -/
inductive Fault
  deriving DecidableEq, Repr

/-- Why a command is refused. -/
inductive Refusal
  /-- Raised by exec's arm of a command that has no meaning yet. Safe: the model stops where the part goes on. No arm raises it. -/
  | notModelled (mnemonic : String)
  deriving DecidableEq, Repr

namespace State

/-! Updates of one block each; Laws/State.lean says what each leaves alone. -/

def onRing (s : State) (f : Ring → Ring) : State := { s with ring := f s.ring }
def onCell (s : State) (f : Cell → Cell) : State := { s with cell := f s.cell }
def onEnv (s : State) (f : Envelope → Envelope) : State := { s with env := f s.env }
def onGate (s : State) (f : Gate → Gate) : State := { s with gate := f s.gate }
def onCool (s : State) (f : Cooling → Cooling) : State := { s with cool := f s.cool }
def onLoop (s : State) (f : Loop → Loop) : State := { s with loop := f s.loop }
def onFire (s : State) (f : Fire → Fire) : State := { s with fire := f s.fire }
def onSeqr (s : State) (f : Sequencer → Sequencer) : State := { s with seqr := f s.seqr }
def onLines (s : State) (f : Lines → Lines) : State := { s with lines := f s.lines }
def onLink (s : State) (f : Link → Link) : State := { s with link := f s.link }
def onMgmt (s : State) (f : Mgmt → Mgmt) : State := { s with mgmt := f s.mgmt }
def onStore (s : State) (f : Store → Store) : State := { s with store := f s.store }

/-- The part right after a reset has ended: the start-up order (R192) is still to run, every block has its reset state, and the store
holds no good image (log entry 6). The six input pins are low and the clock is 0 (log entries 2 and 7). -/
def reset : State :=
  { now := 0, phase := .startUpDue, rst := false, ring := freshRing defaultRingTables 0, cell := freshCell defaultRingTables,
    env := freshEnvelope defaultRingTables, gate := freshGate, cool := freshCooling defaultCooling 0, loop := freshLoop,
    fire := freshFire defaultLoopTables, seqr := freshSequencer clearLatch, lines := freshLines (List.replicate 6 false),
    link := freshLink defaultForward defaultEnables, mgmt := freshMgmt defaultRingTables defaultLoopTables false clearLatch,
    store := blankStore, pending := [] }

end State

end Sys2Proof.Machine
end

