-- ==== Sys2Proof/Machine/Ops.lean ====
section
/-! DEFINITION. Operations that every family uses: timers, saturating counters, table look-ups, the upward queues, notices, responses, and the
hand-over of a latch record to the store. -/

namespace Sys2Proof.Machine

/-! ## When a command acts -/

/-- A command acts on a running part only: before the start-up order has run, and without supply, nothing is received, no timer runs
and no request is taken (R191). Otherwise it leaves the state as it is. -/
def act (s : State) (f : State → State) : Host.Outcome State Fault Refusal :=
  .next (if s.phase = .running then f s else s)

/-- A step whose premise does not hold does not come about, and nothing changes (log entry 4). -/
def whenDue (due : Bool) (f : State → State) (s : State) : State := if due then f s else s

/-! ## Timers and counters -/

/-- A timer started at `since` has run for `dur` microseconds. -/
def ran (since dur now : Nat) : Bool := decide (since + dur ≤ now)

/-- The same for a timer that may not be running. -/
def ranOpt (since : Option Nat) (dur now : Nat) : Bool :=
  match since with
  | some t => ran t dur now
  | none => false

/-- A count of 0 to 65535 that stops at its upper bound (R19, R168, R174). -/
def satInc (n : Nat) : Nat := min 65535 (n + 1)

/-- The same, by more than one. -/
def satAdd (n k : Nat) : Nat := min 65535 (n + k)

/-- A sequence count rolls from 63 to 1 (R9, R173). -/
def nextCount (c : Nat) : Nat := if c = 63 then 1 else c + 1

/-- Milliseconds of a span of microseconds, rounded down. -/
def toMs (us : Nat) : Nat := us / Config.ms

/-! ## Look-ups -/

/-- Applied configuration of a ring address. -/
def cfgIn (nodes : List NodeCfg) : Nat → NodeCfg
  | 0 => defaultNode
  | k + 1 => nodes.getD k defaultNode

/-- Live fields of an entry that does not exist. -/
def noNode : NodeLive := freshNode defaultNode .a

/-- Live fields of a ring address. -/
def liveIn (nodes : List NodeLive) : Nat → NodeLive
  | 0 => noNode
  | k + 1 => nodes.getD k noNode

def cfgOf (s : State) (addr : Nat) : NodeCfg := cfgIn s.mgmt.ringTables.nodes addr
def liveOf (s : State) (addr : Nat) : NodeLive := liveIn s.ring.nodes addr

/-- Whether an address is a ring address, 1 to 40 (00_scope.md Table 6). -/
def isRingAddr (a : Nat) : Bool := decide (1 ≤ a ∧ a ≤ 40)

/-- The address of the entry with a role that at most one entry has (R3), in a list of entries from `addr` on. -/
def roleAddrFrom (r : Role) : List NodeCfg → Nat → Option Nat
  | [], _ => none
  | c :: cs, addr => if c.role = r then some addr else roleAddrFrom r cs (addr + 1)

def roleAddr (s : State) (r : Role) : Option Nat := roleAddrFrom r s.mgmt.ringTables.nodes 1

/-- An entry with the role exists and is IN_SERVICE. -/
def roleInService (s : State) (r : Role) : Bool :=
  match roleAddr s r with
  | some a => (liveOf s a).state == .inService
  | none => false

/-- Change the live fields of one address. -/
def setLive (addr : Nat) (f : NodeLive → NodeLive) (r : Ring) : Ring :=
  match addr with
  | 0 => r
  | k + 1 => { r with nodes := r.nodes.modify k f }

/-- The meaning of an input's debounced level (Table 9-1): closed or active, open or inactive, or not yet reported. -/
def highMeans (c : LineCfg) : Input → Bool
  | .breakerAux => c.breakerAux | .contPosAux => c.contPosAux | .contNegAux => c.contNegAux
  | .estop => c.estop | .door => c.door | .hold => c.hold

def inputReads (s : State) (i : Input) : Option Bool :=
  match (s.lines.inputs.getD (inputIdx i) (freshInput false)).level with
  | some l => some (l == highMeans s.mgmt.ringTables.line i)
  | none => none

/-! ## The Station Transmit Queue and the service transmit FIFO -/

/-- Remove the first frame of the class with this rank. -/
def dropOldest (r : Nat) (q : List UpFrame) : List UpFrame := q.eraseP fun f => f.cls.rank == r

/-- The lowest rank present below `c`. -/
def lowestBelow (c : Nat) (q : List UpFrame) : Option Nat :=
  (List.range c).find? fun r => q.any fun f => f.cls.rank == r

/-- A frame joins the Station Transmit Queue, or a frame is lost by class when it is full (R174). -/
def queueJoin (f : UpFrame) (l : Link) : Link :=
  if l.queue.length < 64 then { l with queue := l.queue ++ [f] }
  else match lowestBelow f.cls.rank l.queue with
    | some r => { l with queue := dropOldest r l.queue ++ [f], losses := l.losses.modify r satInc }
    | none => { l with losses := l.losses.modify f.cls.rank satInc }

/-- The highest rank present. -/
def highest (q : List UpFrame) : Nat := q.foldl (fun m f => max m f.cls.rank) 0

/-- An originated frame takes its port's count when its first byte is sent (R173). -/
def withCount (f : UpFrame) (c : Nat) : UpFrame :=
  if f.own then { f with frame := { f.frame with seq := BitVec.ofNat 8 c } } else f

/-- An idle Station Link transmitter takes the oldest frame of the highest class present (R174). -/
def stationTake (now rate : Nat) (l : Link) : Link :=
  if l.queueTx.isSome || !l.station.isOpen then l
  else match l.queue.find? fun f => f.cls.rank == highest l.queue with
    | none => l
    | some f =>
      { l with queue := dropOldest (highest l.queue) l.queue, queueTx := some ⟨withCount f l.stationCount, now, rate⟩,
               stationCount := if f.own then nextCount l.stationCount else l.stationCount }

/-- A frame joins the service transmit FIFO, displacing the oldest of eight (R175). -/
def fifoJoin (f : UpFrame) (l : Link) : Link :=
  if l.fifo.length < 8 then { l with fifo := l.fifo ++ [f] }
  else { l with fifo := l.fifo.drop 1 ++ [f], fifoLoss := satInc l.fifoLoss }

/-- An idle Service Port transmitter takes the oldest frame (R175). -/
def serviceTake (now : Nat) (l : Link) : Link :=
  if l.fifoTx.isSome || !l.service.isOpen then l
  else match l.fifo with
    | [] => l
    | f :: r =>
      { l with fifo := r, fifoTx := some ⟨withCount f l.serviceCount, now, 115200⟩,
               serviceCount := if f.own then nextCount l.serviceCount else l.serviceCount }

/-- A frame bound upward joins the queue of its port, and an idle transmitter takes it up at once. -/
def sendUp (now rate : Nat) (p : FramePort) (f : UpFrame) (l : Link) : Link :=
  match p with
  | .station => stationTake now rate (queueJoin f l)
  | .service => serviceTake now (fifoJoin f l)

/-- R177 on the link's own state. -/
def linkNotice (now rate round : Nat) (n : Notice) (l : Link) : Link :=
  if !n.alarm && !(l.enables.getD (n.group - 1) true) then l
  else
    let f : UpFrame := ⟨if n.alarm then .alarm else .routine, true, false, noticeFrame n round⟩
    let l1 := sendUp now rate .station f l
    if l.holder = .service then sendUp now rate .service f l1 else l1

/-- A block raises a notice (R177). -/
def raiseNotice (n : Notice) (s : State) : State :=
  s.onLink (linkNotice s.now s.mgmt.ringTables.rate s.ring.round n)

/-- Raise a notice when a condition holds. -/
def raiseIf (b : Bool) (n : Notice) (s : State) : State := if b then raiseNotice n s else s

/-- Raise notices in order. -/
def raiseAll (ns : List Notice) (s : State) : State := ns.foldl (fun t n => raiseNotice n t) s

/-- Pass a frame through to a frame port, unchanged (R72, R24, R176). -/
def passUp (p : FramePort) (f : Frame) (s : State) : State :=
  s.onLink (sendUp s.now s.mgmt.ringTables.rate p ⟨.forwarded, false, false, f⟩)

/-! ## Responses (R181) -/

/-- Status codes (section 12.5). -/
inductive Status | done | pending | refusedAuthority | refusedState | invalid | busy | unknown
  deriving DecidableEq, Repr

def Status.code : Status → Nat
  | .done => 0 | .pending => 1 | .refusedAuthority => 2 | .refusedState => 3 | .invalid => 4 | .busy => 5 | .unknown => 6

/-- Request codes (Table 12-8). -/
def requestCodes : List Nat :=
  [0x01, 0x02, 0x03, 0x04, 0x05, 0x06, 0x07, 0x08, 0x09, 0x0A, 0x0B, 0x0C, 0x0D, 0x10, 0x11, 0x12, 0x13, 0x14, 0x15, 0x16,
   0x17, 0x18, 0x19, 0x1A, 0x1B, 0x1C, 0x1D, 0x1E]

/-- The MGMT_RSP frame: destination the requester's address, source 0; results of at most 53 bytes (section 11.1). -/
def rspFrame (src id : Byte) (code : Nat) (st : Status) (results : List Byte) : Frame :=
  ⟨src, 0, kMgmtRsp, 0, encU8 code ++ [id] ++ encU8 st.code ++ results.take 53⟩

/-- Answer a request on its arrival port, class RESPONSE (R181). `restart` marks the DONE of an accepted RESTART. -/
def answerAs (restart : Bool) (port : FramePort) (src id : Byte) (code : Nat) (st : Status) (results : List Byte)
    (s : State) : State :=
  s.onLink (sendUp s.now s.mgmt.ringTables.rate port ⟨.response, true, restart, rspFrame src id code st results⟩)

def answer (r : Request) (code : Nat) (st : Status) (results : List Byte) (s : State) : State :=
  answerAs false r.port r.src r.id code st results s

/-! ## The store (R188) -/

/-- An idle store begins the waiting latch write, or else the waiting image write. -/
def storeStart (m : Mgmt) : Mgmt :=
  match m.store, m.latchWaiting, m.save with
  | .idle, some r, _ => { m with store := .writingLatch, latchWriting := some r, latchWaiting := none }
  | .idle, none, some _ => { m with store := .writingImage }
  | _, _, _ => m

/-- The Connection Sequencer hands a latch record for writing; it replaces one that waits (R188). -/
def handLatch (flag : Bool) (reason : Lockout) (m : Mgmt) : Mgmt :=
  storeStart { m with latchWaiting := some (closedLatch flag reason.code) }

end Sys2Proof.Machine
end

