-- ==== Sys2Proof/Machine/Setpoint.lean ====
section
/-! DEFINITION. The Setpoint Gate (chapter 4): the clamp, the Setpoint Slot, acknowledgements, reissue, station silence and fallback. -/

namespace Sys2Proof.Machine

/-- The clamp of R69: min(max(P, −Lc), Ld). -/
def clampP (p : Int) (lc ld : Nat) : Int := min (max p (-(lc : Int))) (ld : Int)

/-- The clamp under the published limits in force. -/
def clampNow (s : State) (p : Int) : Int := clampP p s.env.chg s.env.dis

/-- The slot's untaken frame is re-clamped under the limits in force (R70). -/
def slotRewrite (s : State) : State :=
  match s.ring.slot, s.gate.requested with
  | some f, some r =>
    let p := clampNow s r.p
    s.onRing fun g => { g with slot := some { f with p := p, flags := { f.flags with clamped := p != r.p } } }
  | _, _ => s

/-- Whether the reissue check finds something to correct (R75). -/
def reissueNeeded (s : State) (r : Requested) : Bool :=
  match s.gate.forwarded with
  | none => true
  | some f => clampNow s r.p != f.p || r.q != f.q || r.fallback != f.flags.fallback

/-- The reissue check (R75): with a Requested Setpoint, nothing in flight and the slot empty, a corrected SETPOINT is written for a
CONVERTER entry that exists and is not EXCLUDED. -/
def reissueCheck (s : State) : State :=
  match s.gate.requested, s.gate.inFlight, s.ring.slot, roleAddr s .conv with
  | some r, none, none, some a =>
    if (liveOf s a).state != .excluded && reissueNeeded s r then
      let p := clampNow s r.p
      s.onRing fun g =>
        { g with slot := some ⟨BitVec.ofNat 8 a, 0, 0, r.tag, p, r.q, ⟨p != r.p, true, r.fallback⟩⟩ }
    else s
  | _, _, _, _ => s

/-- The Envelope Unit hands the gate a new pair of limits (R63, R70, R75). -/
def limitsHanded (s : State) : State := reissueCheck (slotRewrite s)

/-- Origin of a frame by its arrival port (R68). -/
def originOf : FramePort → Origin
  | .station => .station | .service => .service

/-- An accepted SETPOINT replaces the Requested Setpoint and is clamped into the slot (R68). -/
def setpointAccept (port : FramePort) (f : Frame) (tag : Nat) (p q : Int) (s : State) : State :=
  let c := clampNow s p
  (s.onGate fun g => { g with requested := some ⟨p, q, tag, originOf port, false⟩ }).onRing fun g =>
    { g with slot := some ⟨f.dst, f.src, f.seq, tag, c, q, ⟨c != p, false, false⟩⟩ }

/-- The screening of R67, in its order. -/
def setpointTaken (port : FramePort) (f : Frame) (s : State) : State :=
  match parseSetpoint f.payload with
  | none => raiseNotice (nSetpointDropped (match f.payload with | [] => 0 | t :: _ => t.toNat) 1) s
  | some (tag, p, q) =>
    match roleAddr s .conv with
    | none => raiseNotice (nSetpointDropped tag 2) s
    | some a =>
      if a ≠ f.dst.toNat then raiseNotice (nSetpointDropped tag 2) s
      else if (liveOf s a).state = .excluded then raiseNotice (nSetpointDropped tag 3) s
      else if s.link.holder ≠ port then raiseNotice (nAuthorityDeniedSetpoint tag port) s
      else setpointAccept port f tag p q s

/-- The Ring Controller takes the slot's frame for sending (R71). `sent` is the frame as taken. -/
def slotTaken (sent : SlotFrame) (s : State) : State :=
  let origin : Origin := if sent.src = 0 then .s48 else match s.gate.requested with | some r => r.origin | none => .s48
  s.onGate fun g =>
    { g with
      forwarded := some ⟨sent.p, sent.q, sent.tag, sent.flags, origin⟩
      sent := let l := g.sent ++ [(sent.tag, origin)]; if l.length = 5 then l.drop 1 else l
      inFlight := some (sent.tag, s.now) }

/-- Port to which acknowledgements of an origin are passed (section 4.1). -/
def ackPort : Origin → FramePort
  | .service => .service | _ => .station

/-- R72: the ack goes to the port of the oldest entry with its tag, which is removed; without one, to the Station Link. -/
def ackPassUp (f : Frame) (s : State) : State :=
  match parseAck f.payload with
  | none => passUp .station f s
  | some a =>
    match s.gate.sent.find? (fun e => e.1 == a.tag) with
    | none => passUp .station f s
    | some e => (passUp (ackPort e.2) f s).onGate fun g => { g with sent := g.sent.eraseP (fun x => x.1 == a.tag) }

/-- R73: a matching ack ends the wait. DESIGN CHOICE: SETPOINT_REJECTED carries 0 where no Forwarded Setpoint exists (log entry 46), and a result that
Table 12-4 does not give is recorded as it is and is no rejection (log entry 47). -/
def ackMatch (a : AckRec) (s : State) : State :=
  match s.gate.inFlight with
  | none => s
  | some (tag, _) =>
    if tag ≠ a.tag then s
    else
      let s := s.onGate fun g => { g with inFlight := none }
      let s := raiseIf (s.gate.ackCount == 3) (nUnresponsive false) s
      let s := s.onGate fun g => { g with ackCount := 0, lastAck := some a }
      let s := raiseIf (a.result == 2) (nRejected a.tag (match s.gate.forwarded with | some f => f.p | none => 0)) s
      reissueCheck s

/-- A SETPOINT_ACK handed to the gate (R72, then R73). -/
def ackTaken (f : Frame) (s : State) : State :=
  let s := ackPassUp f s
  match parseAck f.payload with
  | none => s
  | some a => ackMatch a s

/-- The ack timer of a setpoint in flight has reached 500 ms (R74). -/
def ackTimeoutDue (s : State) : Bool :=
  match s.gate.inFlight with
  | some (_, t) => ran t (500 * Config.ms) s.now
  | none => false

/-- R74. -/
def ackTimeout (s : State) : State :=
  match s.gate.inFlight with
  | none => s
  | some (tag, _) =>
    let old := s.gate.ackCount
    let n := min 3 (old + 1)
    let s := raiseNotice (nAckLost tag n) s
    let s := s.onGate fun g => { g with inFlight := none, ackCount := n }
    let s := raiseIf (old == 2) (nUnresponsive true) s
    reissueCheck s

/-- R76: a changed converter state is recorded; a change into READY or RUNNING from STOPPED, FAULT or an absent record makes the
Forwarded Setpoint absent. -/
def converterState (c : ConvState) (s : State) : State :=
  if s.gate.conv = some c then s
  else
    let restart := (c == .ready || c == .running) && !(s.gate.conv == some .ready || s.gate.conv == some .running)
    let s := raiseNotice (nConverterState c) (s.onGate fun g => { g with conv := some c })
    if restart then reissueCheck (s.onGate fun g => { g with forwarded := none }) else s

/-! ## Station silence (R77, R78) -/

/-- A valid Station Link frame restarts the silence timer, which is held at 0 while SERVICE holds authority, and ends a silence. -/
def silenceFrame (s : State) : State :=
  let was := s.gate.silent
  let s := s.onGate fun g =>
    { g with silenceSince := if s.link.holder = .station then some s.now else none, silenceStopped := 0, silent := false }
  raiseIf was (nStationSilent false) s

/-- The silence timer has reached silence_time while silent is no. -/
def silenceDue (s : State) : Bool :=
  !s.gate.silent && s.link.holder == .station &&
    ranOpt s.gate.silenceSince (s.mgmt.ringTables.setpoint.silenceTime * Config.second) s.now

/-- R78: the Requested Setpoint is replaced by the fallback, the slot is emptied and a reissue check is made. -/
def fallbackInstall (s : State) : State :=
  let tag := match s.gate.requested with | some r => r.tag | none => 0
  let s := s.onGate fun g => { g with requested := some ⟨s.mgmt.ringTables.setpoint.fallbackP, 0, tag, .s48, true⟩ }
  reissueCheck (s.onRing fun g => { g with slot := none })

/-- The silence expires (R77). -/
def silenceExpire (s : State) : State :=
  let run := match s.gate.silenceSince with | some t => s.now - t | none => 0
  let s := s.onGate fun g => { g with silenceSince := none, silenceStopped := run, silent := true }
  fallbackInstall (raiseNotice (nStationSilent true) s)

/-- Authority changes hold or restart the silence timer (R77, R172). DESIGN CHOICE, log entry 48: it starts from 0 on the return to STATION even while
silent is yes. -/
def silenceAuthority (s : State) : State :=
  s.onGate fun g =>
    { g with silenceSince := if s.link.holder = .station then some s.now else none, silenceStopped := 0 }

/-! ## Meanings -/

/-- ACK_TIMEOUT (R74). -/
def execAckTimeout (s : State) : Host.Outcome State Fault Refusal := act s fun s => whenDue (ackTimeoutDue s) ackTimeout s

/-- SILENCE_EXPIRY (R77). -/
def execSilenceExpiry (s : State) : Host.Outcome State Fault Refusal := act s fun s => whenDue (silenceDue s) silenceExpire s

end Sys2Proof.Machine
end

