-- ==== Sys2Proof/Machine/EnvelopeUnit.lean ====
section
/-! DEFINITION. The Envelope Unit (chapter 3): factors, gates, targets, the slope rule, gate onsets between publications and the cut of a
lowered rating. -/

namespace Sys2Proof.Machine

/-! ## Factors (R51 to R55) -/

/-- Interpolation between two points, rounded toward minus infinity (R53, R86). -/
def interpolate (t0 : Int) (f0 : Nat) (t1 : Int) (f1 : Nat) (t : Int) : Nat :=
  ((f0 : Int) + (((f1 : Int) - (f0 : Int)) * (t - t0)) / (t1 - t0)).toNat

/-- A curve from its point (t0, f0) on, at a temperature that is not below t0 (R52, R86). -/
def curveFrom (t0 : Int) (f0 : Nat) : List (Int × Nat) → Int → Nat
  | [], _ => f0
  | (t1, f1) :: r, t => if t < t1 then (if t = t0 then f0 else interpolate t0 f0 t1 f1 t) else curveFrom t1 f1 r t

/-- The value of a curve at a temperature (R52, R53, R86). -/
def curveAt (c : List (Int × Nat)) (t : Int) : Nat :=
  match c with
  | [] => 0
  | (t0, f0) :: r => if t < t0 then f0 else curveFrom t0 f0 r t

/-- A curve factor; 1000 at an absent temperature (R52). -/
def curveFactor (c : List (Int × Nat)) (t : Option Int) : Nat :=
  match t with
  | none => 1000
  | some t => curveAt c t

/-- Fv_chg (R51). -/
def fvChg (c : Taper) (vmax : Option Int) : Nat :=
  match vmax with
  | none => 1000
  | some v => if v ≤ c.vcStart then 1000 else if c.vcEnd ≤ v then 0 else ((1000 * (c.vcEnd - v)) / (c.vcEnd - c.vcStart)).toNat

/-- Fv_dis (R51). -/
def fvDis (c : Taper) (vmin : Option Int) : Nat :=
  match vmin with
  | none => 1000
  | some v => if c.vdStart ≤ v then 1000 else if v ≤ c.vdEnd then 0 else ((1000 * (v - c.vdEnd)) / (c.vdStart - c.vdEnd)).toNat

/-- F_cool (R54). -/
def coolFactor (f : Factors) : CoolState → Nat
  | .idle => f.coolIdle | .running => f.coolRunning | .degraded => f.coolDegraded | .failed => f.coolFailed

/-- The factors of one computation (R51 to R55). -/
def factorsOf (c : EnvelopeCfg) (b : BaySummary) (bay : CoolState) (blind : Bool) : FactorSet :=
  { fvChg := fvChg c.taper b.vmax, fvDis := fvDis c.taper b.vmin, hot := curveFactor c.hot b.tmax, cold := curveFactor c.cold b.tmin
    cool := coolFactor c.factors bay, sf := if b.anySf then c.factors.sf else 1000, blind := if blind then c.factors.blind else 1000 }

/-! ## Gates (R56) -/

/-- Whether a gate holds, by its code (Table 3-4). Gates 1 to 3 read the state, gates 4 to 9 the summary. -/
def gateHolds (s : State) (b : BaySummary) : Nat → Bool
  | 1 => s.fire.state != .quiet
  | 2 => s.seqr.state != .connected
  | 3 => inputReads s .estop == some true
  | 4 => decide (b.inService < s.mgmt.ringTables.envelope.ratings.minInService)
  | 5 => !b.picture
  | 6 => b.anyOv
  | 7 => b.anyUv
  | 8 => b.anyOt
  | 9 => b.anyCold
  | _ => false

/-- The codes of the gates. -/
def gateCodes : List Nat := [1, 2, 3, 4, 5, 6, 7, 8, 9]

/-- Gates that close the charge direction, and the discharge direction (Table 3-4). -/
def closesCharge (g : Nat) : Bool := g != 7
def closesDischarge (g : Nat) : Bool := g != 6 && g != 9

/-! ## Targets and slope (R57 to R59) -/

/-- The least factor of the charge direction, and of the discharge direction. -/
def minCharge (f : FactorSet) : Nat := min f.fvChg (min f.hot (min f.cold (min f.cool (min f.sf f.blind))))
def minDischarge (f : FactorSet) : Nat := min f.fvDis (min f.hot (min f.cool (min f.sf f.blind)))

/-- A target (R57). -/
def targetOf (gated : Bool) (rated least : Nat) : Nat := if gated then 0 else rated * least / 1000

/-- The step of a slope in kW/s, or ‰/s, over an elapsed time in ms, capped at 2000 ms (R58, R91). -/
def stepOf (slope elapsed : Nat) : Nat := max 1 (slope * min elapsed 2000 / 1000)

/-- The new published limit (R59). -/
def moveLimit (gated : Bool) (target published up down : Nat) : Nat :=
  if gated then 0
  else if published < target then min target (published + up)
  else if target < published then max target (published - down)
  else published

/-! ## Effects -/

/-- The notices of limits that cross zero, charge first (R62). -/
def limitNotices (oldChg oldDis chg dis : Nat) : List Notice :=
  (if (oldChg == 0) != (chg == 0) then [nEnvelopeLimit 1 chg] else []) ++
  (if (oldDis == 0) != (dis == 0) then [nEnvelopeLimit 2 dis] else [])

/-- The published limits take new values: the notices of R62, and one hand-over when either changed (R63). -/
def setLimits (chg dis : Nat) (s : State) : State :=
  let old := s.env
  let s := raiseAll (limitNotices old.chg old.dis chg dis) (s.onEnv fun e => { e with chg := chg, dis := dis })
  if old.chg = chg ∧ old.dis = dis then s else limitsHanded s

/-- A gate joins the active gate set, both targets and both limits become 0 (R60). DESIGN CHOICE, log entry 44: ENVELOPE_GATE
comes before ENVELOPE_LIMIT. -/
def gateOnset (g : Nat) (s : State) : State :=
  let had := s.env.gates.contains g
  let s := s.onEnv fun e =>
    { e with gates := gateCodes.filter fun c => c == g || e.gates.contains c, chgTarget := 0, disTarget := 0 }
  setLimits 0 0 (raiseIf (!had) (nEnvelopeGate g true) s)

/-- A gate leaves the active gate set; limits and targets are not changed (R60). -/
def gateEnd (g : Nat) (s : State) : State :=
  let had := s.env.gates.contains g
  raiseIf had (nEnvelopeGate g false) (s.onEnv fun e => { e with gates := e.gates.filter fun c => c != g })

/-- The ENVELOPE_GATE notices between two gate sets (R61). DESIGN CHOICE, log entry 44: by rising gate code. -/
def gateNotices (old new : List Nat) : List Notice :=
  gateCodes.filterMap fun g =>
    if old.contains g == new.contains g then none else some (nEnvelopeGate g (new.contains g))

/-- One computation on a published Bay Summary (R50). `bay` is the bay cooling state as it stood when the summary was published. DESIGN CHOICE, log
entry 44: the ENVELOPE_GATE notices come before the ENVELOPE_LIMIT notices. -/
def envelopeCompute (b : BaySummary) (bay : CoolState) (s : State) : State :=
  let c := s.mgmt.ringTables.envelope
  let f := factorsOf c b bay s.seqr.blind
  let gates := gateCodes.filter (gateHolds s b)
  let gc := gates.any closesCharge
  let gd := gates.any closesDischarge
  let ct := targetOf gc c.ratings.chgRated (minCharge f)
  let dt := targetOf gd c.ratings.disRated (minDischarge f)
  let up := stepOf c.ratings.upSlope b.elapsed
  let down := stepOf c.ratings.downSlope b.elapsed
  let old := s.env
  let s := s.onEnv fun e =>
    { e with chgTarget := ct, disTarget := dt, factors := some f, gates := gates, lastRound := b.round }
  setLimits (moveLimit gc ct old.chg up down) (moveLimit gd dt old.dis up down) (raiseAll (gateNotices old.gates gates) s)

/-- An applied rating below a published limit cuts that limit (R49). -/
def ratingCut (s : State) : State :=
  let r := s.mgmt.ringTables.envelope.ratings
  setLimits (min s.env.chg r.chgRated) (min s.env.dis r.disRated) s

end Sys2Proof.Machine
end

