-- ==== Sys2Proof/Machine/LineUnit.lean ====
section
/-! DEFINITION. The Line Unit (chapter 9), the part that composes outputs: demands, interlocks, forces, contactor readback and the fault
summary. -/

namespace Sys2Proof.Machine

/-! ## Demands (Table 9-3) -/

/-- Whether the sequencer demands CONT_POS: DC_READY, CLOSING, CONNECTED, RECLOSE_WAIT, and TRIPPING as at its entry. -/
def demandsPos : SeqState → Bool
  | .dcReady => true | .closing => true | .connected => true | .recloseWait => true | .tripping => true | _ => false

/-- Whether the sequencer demands CONT_NEG: as CONT_POS, and PRECHARGE. -/
def demandsNeg (st : SeqState) : Bool := st == .precharge || demandsPos st

/-- Whether the SOUNDER is requested (R134). -/
def sounderDemand (f : Fire) : Bool :=
  !f.silenced && (match f.state with | .quiet => false | .preAlarm => f.sounder | _ => true)

/-- Whether BEACON and ALARM_RELAY are requested (R134). -/
def alarmDemand (f : Fire) : Bool := decide (2 ≤ f.state.code)

/-- Whether the fault summary holds a reason (R164). -/
def FaultSummary.any (f : FaultSummary) : Bool :=
  f.detectorFault || f.detectionBlind || f.pumpLocked || f.lockedOut || f.readback || f.store

/-- Whether the demand on an output applies, by output code 12 to 21 (Table 9-3). -/
def demand (s : State) : Nat → Bool
  | 12 => s.seqr.state == .closing && s.seqr.closePulse
  | 13 => s.seqr.state == .tripping || s.seqr.stray.isSome
  | 14 => s.seqr.state == .precharge
  | 15 => demandsPos s.seqr.state
  | 16 => demandsNeg s.seqr.state
  | 17 => s.fire.state == .released && s.fire.pulse.isSome
  | 18 => sounderDemand s.fire
  | 19 => alarmDemand s.fire
  | 20 => alarmDemand s.fire
  | 21 => s.lines.faults.any
  | _ => false

/-! ## Composition (R159, R160) -/

/-- Whether a fixed interlock holds an output inactive (R160). BREAKER_TRIP is active exactly while it is demanded: no interlock holds it
and no force is allowed on it. -/
def interlocked (s : State) : Nat → Bool
  | 12 => demand s 13 || inputReads s .estop != some false || inputReads s .contPosAux != some true ||
      inputReads s .contNegAux != some true
  | 17 => inputReads s .door != some true || s.lines.cut
  | _ => false

/-- The composed level of an output (R159). -/
def composed (s : State) (o : Nat) : Bool :=
  if interlocked s o then false
  else if demand s o then true
  else match s.lines.forces.getD o none with
    | some f => f.value != 0
    | none => false

/-- The RELEASE cut flag: set while DOOR cuts an active request, cleared when the request ends (R160). -/
def cutNow (s : State) : Bool := demand s 17 && (s.lines.cut || inputReads s .door != some true)

/-- Compose every output and drive the lines. -/
def composeAll (s : State) : State :=
  let s := s.onLines fun l => { l with cut := cutNow s }
  s.onLines fun l => { l with outs := (List.range 10).map fun i => composed s (12 + i) }

/-- The composed level that stands on an output line. -/
def outLevel (s : State) (o : Nat) : Bool := s.lines.outs.getD (o - 12) false

/-! ## Readback (R163) -/

def readbackOf (l : Lines) : Contactor → Readback
  | .pos => l.pos | .neg => l.neg

def setReadback (c : Contactor) (r : Readback) (l : Lines) : Lines :=
  match c with
  | .pos => { l with pos := r }
  | .neg => { l with neg := r }

/-- Output code and aux input of a contactor. -/
def contOutput : Contactor → Nat
  | .pos => 15 | .neg => 16
def contAux : Contactor → Input
  | .pos => .contPosAux | .neg => .contNegAux

/-- The comparison of a contactor with its aux input. -/
def readbackNext (r : Readback) (out : Bool) (aux : Option Bool) (now : Nat) : Readback :=
  match aux with
  | none => { r with since := none }
  | some a => if a = out then ⟨none, false⟩ else { r with since := if r.fault then none else some (r.since.getD now) }

/-- Compare one contactor; a fault flag that clears raises READBACK_FAULT with value 0. -/
def readbackEval (c : Contactor) (s : State) : State :=
  let old := readbackOf s.lines c
  let new := readbackNext old (outLevel s (contOutput c)) (inputReads s (contAux c)) s.now
  raiseIf (old.fault && !new.fault) (nReadbackFault c false) (s.onLines (setReadback c new))

/-- A contactor readback fault exists. -/
def readbackFault (s : State) : Bool := s.lines.pos.fault || s.lines.neg.fault

/-! ## Fault summary (R164) -/

/-- The reasons as they stand. -/
def faultsNow (s : State) : FaultSummary :=
  { detectorFault := s.fire.dets.any fun d => d.state == .fault
    detectionBlind := s.fire.blind.any id
    pumpLocked := s.cool.pumps.any fun p => p.state == .locked
    lockedOut := s.seqr.state == .lockedOut
    readback := readbackFault s
    store := s.mgmt.storeFault }

/-- Re-evaluate the set; FAULT_SUMMARY when it changes between empty and not empty. DESIGN CHOICE, log entry 77: where one event changes several
conditions, once after all of them. -/
def faultEval (s : State) : State :=
  let old := s.lines.faults
  let new := faultsNow s
  raiseIf (old.any != new.any) (nFaultSummary new.any) (s.onLines fun l => { l with faults := new })

/-- Whatever an output depends on has changed: compose, compare the contactors, re-evaluate the fault summary, and compose FAULT_RELAY
from it. Before the lines are under control no composition is made (R159). -/
def refreshLines (s : State) : State :=
  if s.lines.control then
    composeAll (faultEval (readbackEval .neg (readbackEval .pos (composeAll s))))
  else s

/-- A force record ends; OUTPUT_FORCE with value −1 (R162). -/
def endForce (o : Nat) (s : State) : State :=
  match s.lines.forces.getD o none with
  | none => s
  | some _ => raiseNotice (nOutputForce o (-1)) (s.onLines fun l => { l with forces := l.forces.set o none })

/-- The force records of the contactor outputs end (R162). DESIGN CHOICE, log entries 42 and 69: every OUTPUT_FORCE comes, in the order of the output codes,
before the outputs are composed anew. -/
def endContactorForces (s : State) : State := endForce 16 (endForce 15 (endForce 14 s))

end Sys2Proof.Machine
end

