-- ==== Sys2Proof/Machine/SequencerOps.lean ====
section
/-! DEFINITION. The Connection Sequencer (chapter 8): state changes, trip causes, protection stages, healthy clock, metering blind, the weld
check, lockout and stray trips. -/

namespace Sys2Proof.Machine

/-! ## State changes (R143) -/

/-- The states in which a stray trip may run (R153). -/
def strayState : SeqState → Bool
  | .open_ => true | .opening => true | .lockedOut => true | _ => false

/-- Whether a state has a step timer (Table 8-3). -/
def timed : SeqState → Bool
  | .precharge => true | .closing => true | .tripping => true | .opening => true | _ => false

/-- The sequencer's own record on a change of state: step timer, close pulse, clocks and stage timers, reclose counter, stray trip. -/
def seqEnter (st : SeqState) (now : Nat) (q : Sequencer) : Sequencer :=
  { q with
    state := st
    trip := if st = .tripping then q.trip else none
    stepSince := if timed st then some now else none
    closePulse := st == .closing
    connectedSince := if st = .connected then some now else none
    stages := if st = .connected ∨ q.state = .connected then List.replicate 6 none else q.stages
    rocofRun := if st = .connected ∨ q.state = .connected then 0 else q.rocofRun
    healthySince := none
    discharged := false
    reclose := if st = .open_ ∨ st = .lockedOut then 0 else q.reclose
    pendingLockout := if st = .lockedOut then none else q.pendingLockout
    stray := if strayState st then q.stray else none }

/-- The onset and the end of metering blind (R142). -/
def blindOnset (s : State) : State :=
  raiseNotice (nMeterBlind true) (s.onSeqr fun q =>
    { q with blind := true, blindSince := some s.now, stages := List.replicate 6 none, rocofRun := 0 })

def blindEnd (s : State) : State :=
  raiseNotice (nMeterBlind false) (s.onSeqr fun q => { q with blind := false, blindSince := none })

/-- Metering is blind while the state is CONNECTED and no METER entry is IN_SERVICE (R142). -/
def blindEval (s : State) : State :=
  let should := s.seqr.state == .connected && !roleInService s .meter
  if should && !s.seqr.blind then blindOnset s
  else if !should && s.seqr.blind then blindEnd s
  else s

/-- A stray trip starts: SEQ_TRIP, class ROUTINE, with its cause (R153). -/
def strayStart (c : Cause) (s : State) : State :=
  let s := raiseNotice (nSeqTrip false c s.seqr.reclose) (s.onSeqr fun q => { q with stray := some ⟨c, s.now⟩ })
  refreshLines s

/-- The state becomes `st`: SEQ_STATE is raised, and every reader of the state acts (R143): the Envelope Unit's NOT_CONNECTED gate, metering
blind, the contactor forces, the demands on the Line Unit. An opening whose breaker reads closed starts a stray trip (R153, log entry 14);
an entry into LOCKED_OUT with the breaker closed starts none (DESIGN CHOICE, log entry 73).
DESIGN CHOICE, log entries 60 and 68: SEQ_STATE comes first, then ENVELOPE_GATE, METER_BLIND, the OUTPUT_FORCE of the contactor forces that end, READBACK_FAULT
and FAULT_SUMMARY, and the SEQ_TRIP of a stray trip. -/
def seqTo (st : SeqState) (s : State) : State :=
  let old := s.seqr.state
  let s := raiseNotice (nSeqState st) (s.onSeqr (seqEnter st s.now))
  let s := if old = .connected ∧ st ≠ .connected then gateOnset 2 s else s
  let s := if st = .connected ∧ old ≠ .connected then gateEnd 2 s else s
  let s := blindEval s
  let s := if old = .open_ ∧ st ≠ .open_ then endContactorForces s else s
  let s := refreshLines s
  if st = .opening ∧ inputReads s .breakerAux = some true ∧ s.seqr.stray = none then strayStart .breakerStray s else s

/-- LOCKED_OUT with a reason (R152): LOCKOUT is raised and the latch record handed for writing. DESIGN CHOICE, log entry 68: the FAULT_SUMMARY of the reason
LOCKED_OUT comes before LOCKOUT. -/
def lockOut (r : Lockout) (s : State) : State :=
  let s := seqTo .lockedOut (s.onSeqr fun q => { q with reason := r })
  (raiseNotice (nLockout r true) s).onMgmt (handLatch true r)

/-! ## Trip causes (R147, R148) -/

/-- TRIPPING with a cause and a continuation. -/
def tripTo (c : Cause) (cls : CauseClass) (cont : Continuation) (s : State) : State :=
  let s := raiseNotice (nSeqTrip (cls == .grid) c s.seqr.reclose) s
  seqTo .tripping (s.onSeqr fun q => { q with trip := some ⟨c, cls, cont⟩ })

/-- A GRID-class cause is taken in CONNECTED, and CLOSE_FAIL in CLOSING (R147). -/
def takeGrid (c : Cause) (s : State) : State :=
  if s.seqr.state = .connected ∨ (c = .closeFail ∧ s.seqr.state = .closing) then tripTo c .grid .recloseWait s else s

/-- A BAY-class cause is taken (R148). -/
def takeBay (c : Cause) (s : State) : State :=
  match s.seqr.state with
  | .precharge | .dcReady | .recloseWait => seqTo .opening (raiseNotice (nSeqTrip false c s.seqr.reclose) s)
  | .closing | .connected => tripTo c .bay .opening s
  | .tripping =>
    match s.seqr.trip with
    | some ⟨c0, cl, .recloseWait⟩ =>
      raiseNotice (nSeqTrip false c s.seqr.reclose) (s.onSeqr fun q => { q with trip := some ⟨c0, cl, .opening⟩ })
    | _ => s
  | .open_ =>
    if c = .fire ∧ 2 ≤ s.fire.state.code then lockOut .fire (raiseNotice (nSeqTrip false .fire s.seqr.reclose) s) else s
  | .opening | .lockedOut => s

/-- The first BAY-class condition that holds, in the order of Table 8-5. -/
def bayCondition (s : State) (st : SeqState) : Option Cause :=
  if s.fire.state ≠ .quiet then some .fire
  else if inputReads s .estop = some true then some .estop
  else if !roleInService s .conv then some .converterLost
  else if readbackFault s then some .readback
  else if s.cool.bay = .failed then some .cooling
  else if (st = .precharge ∨ st = .dcReady ∨ st = .recloseWait) ∧ inputReads s .breakerAux = some true then some .breakerStray
  else none

/-- Entry into PRECHARGE, DC_READY, CLOSING, CONNECTED or RECLOSE_WAIT: a BAY-class cause whose condition already holds is taken (R148).
DESIGN CHOICE, log entry 68: after every notice of the entry itself. -/
def seqEnterTested (st : SeqState) (s : State) : State :=
  let s := seqTo st s
  match bayCondition s st with
  | some c => takeBay c s
  | none => s

/-! ## Tripping, reclosing, opening -/

/-- The trip is complete: BREAKER_AUX reads open and the step timer has run 200 ms (R149). -/
def tripMet (s : State) : Bool :=
  s.seqr.state == .tripping && inputReads s .breakerAux == some false && ranOpt s.seqr.stepSince (200 * Config.ms) s.now

/-- The sequencer goes on to the continuation (R149, R150). -/
def tripComplete (s : State) : State :=
  match s.seqr.trip with
  | some ⟨_, _, .recloseWait⟩ =>
    if s.seqr.reclose < 3 then
      seqEnterTested .recloseWait (s.onSeqr fun q => { q with reclose := q.reclose + 1 })
    else seqTo .opening (s.onSeqr fun q => { q with pendingLockout := some .recloseLimit })
  | _ => seqTo .opening s

def tripTest (s : State) : State := if tripMet s then tripComplete s else s

/-- The opening is complete when both parts of the weld check are met (R151). -/
def openingTest (s : State) : State :=
  if s.seqr.state = .opening ∧ s.seqr.discharged = true ∧ inputReads s .contPosAux = some false ∧
      inputReads s .contNegAux = some false then
    match s.seqr.pendingLockout with
    | some r => lockOut r s
    | none => if 2 ≤ s.fire.state.code then lockOut .fire s else seqTo .open_ s
  else s

/-- A stray trip ends when BREAKER_AUX reads open and its timer has run 200 ms (R153). -/
def strayMet (s : State) : Bool :=
  match s.seqr.stray with
  | some y => inputReads s .breakerAux == some false && ran y.since (200 * Config.ms) s.now
  | none => false

def strayStop (s : State) : State := refreshLines (s.onSeqr fun q => { q with stray := none })

def strayTest (s : State) : State := if strayMet s then strayStop s else s

/-! ## Samples (R137, R138) -/

/-- The voltage ratio of a line (R137). -/
def ratio (v nominal : Nat) : Nat := 1000 * v / nominal

/-- Whether a meter record violates one of the timed stages, in the order UV1, UV2, OV1, OV2, UF, OF. -/
def stageViolated (c : GridCfg) (m : MeterRec) : Nat → Bool
  | 0 => decide (m.r1 < c.uv1.level ∨ m.r2 < c.uv1.level ∨ m.r3 < c.uv1.level)
  | 1 => decide (m.r1 < c.uv2.level ∨ m.r2 < c.uv2.level ∨ m.r3 < c.uv2.level)
  | 2 => decide (c.ov1.level < m.r1 ∨ c.ov1.level < m.r2 ∨ c.ov1.level < m.r3)
  | 3 => decide (c.ov2.level < m.r1 ∨ c.ov2.level < m.r2 ∨ c.ov2.level < m.r3)
  | 4 => decide (m.freq < c.uf.level)
  | 5 => decide (c.of.level < m.freq)
  | _ => false

/-- Time of a stage in ms. -/
def stageTime (c : GridCfg) : Nat → Nat
  | 0 => c.uv1.time | 1 => c.uv2.time | 2 => c.ov1.time | 3 => c.ov2.time | 4 => c.uf.time | _ => c.of.time

/-- The stage timer after a sample (R140). -/
def stageNext (violated : Bool) (timer : Option Nat) (at_ : Nat) : Option Nat :=
  if violated then some (match timer with | some t => t | none => at_) else none

/-- Whether a stage trips at a sample (R140). -/
def stageTrips (timer : Option Nat) (time at_ : Nat) : Bool := ranOpt timer (time * Config.ms) at_

/-- Cause of each stage, and the order in which the first tripped is recorded (R140). -/
def stageCause : Nat → Cause
  | 0 => .uv1 | 1 => .uv2 | 2 => .ov1 | 3 => .ov2 | 4 => .uf | _ => .of
def stageOrder : List Nat := [1, 3, 0, 2, 4, 5]

/-- A METER sample at the protection stages, in CONNECTED while metering is not blind (R140). -/
def stagesSample (m : MeterRec) (s : State) : State :=
  if s.seqr.state = .connected ∧ s.seqr.blind = false then
    let c := s.mgmt.ringTables.grid
    let timers := (List.range 6).map fun i => stageNext (stageViolated c m i) (s.seqr.stages.getD i none) m.at_
    let run := if c.rocofLimit < m.rocof.natAbs then s.seqr.rocofRun + 1 else 0
    let first := stageOrder.find? fun i => stageTrips (timers.getD i none) (stageTime c i) m.at_
    let s := s.onSeqr fun q => { q with stages := timers, rocofRun := run }
    match first with
    | some i => takeGrid (stageCause i) s
    | none => if 0 < run ∧ c.rocofCount ≤ run then takeGrid .rocof s else s
  else s

/-- A healthy sample (section 8.3). -/
def healthy (c : GridCfg) (m : MeterRec) : Bool :=
  decide (c.healthyVLow ≤ m.r1 ∧ m.r1 ≤ c.healthyVHigh ∧ c.healthyVLow ≤ m.r2 ∧ m.r2 ≤ c.healthyVHigh ∧
    c.healthyVLow ≤ m.r3 ∧ m.r3 ≤ c.healthyVHigh ∧ c.healthyFLow ≤ m.freq ∧ m.freq ≤ c.healthyFHigh)

/-- Whether the healthy clock is kept (R141). -/
def healthyKept (st : SeqState) : Bool := st == .dcReady || st == .recloseWait

/-- The healthy clock after a METER sample (R141). -/
def healthyNext (c : GridCfg) (m : MeterRec) (since : Option Nat) : Option Nat :=
  if healthy c m then some (match since with | some t => t | none => m.at_) else none

/-- A METER sample at the healthy clock (R141). -/
def healthySample (m : MeterRec) (s : State) : State :=
  if healthyKept s.seqr.state then
    s.onSeqr fun q => { q with healthySince := healthyNext s.mgmt.ringTables.grid m q.healthySince }
  else s

/-- The healthy clock has run for the return delay. -/
def healthyDue (s : State) : Bool :=
  healthyKept s.seqr.state && ranOpt s.seqr.healthySince (s.mgmt.ringTables.grid.returnDelay * Config.second) s.now

/-- The blind timer has reached the meter blind limit. -/
def blindDue (s : State) : Bool :=
  s.seqr.state == .connected && s.seqr.blind &&
    ranOpt s.seqr.blindSince (s.mgmt.ringTables.grid.blindLimit * Config.second) s.now

/-- A CONVERTER sample replaces the converter record and is tested (R138, R145, R151). -/
def converterSample (c : ConverterSample) (s : State) : State :=
  let s := s.onSeqr fun q => { q with conv := some ⟨c.bus, c.string, c.p, c.q, c.state, c.flags, s.now⟩ }
  if s.seqr.state = .precharge then
    if 0 < c.string ∧ 950 * c.string ≤ 1000 * c.bus then seqEnterTested .dcReady s else s
  else if s.seqr.state = .opening then
    openingTest (s.onSeqr fun q => { q with discharged := q.discharged || decide (1000 * c.bus < 100 * c.string) })
  else s

/-! ## Changes in the nodes -/

/-- A node's state, or the Node Table, has changed: metering blind (R142), the healthy clock (R141) and CONVERTER_LOST (R148), in this order
(DESIGN CHOICE, log entry 71). `convWas` says whether the CONVERTER entry was IN_SERVICE before. -/
def seqNodes (convWas : Bool) (s : State) : State :=
  let s := blindEval s
  let s := if roleInService s .meter then s else s.onSeqr fun q => { q with healthySince := none }
  if convWas && !roleInService s .conv then takeBay .converterLost s else s

/-! ## Meanings -/

/-- PRECHARGE_TIMEOUT (R145). -/
def execPrechargeTimeout (s : State) : Host.Outcome State Fault Refusal :=
  act s fun s =>
    whenDue (s.seqr.state == .precharge && ranOpt s.seqr.stepSince (5 * Config.second) s.now)
      (fun s => seqTo .opening (raiseNotice nPrechargeFail s)) s

/-- HEALTHY_WAIT_MET (R141, R146). -/
def execHealthyWaitMet (s : State) : Host.Outcome State Fault Refusal :=
  act s fun s => whenDue (healthyDue s) (seqEnterTested .closing) s

/-- CLOSE_PULSE_END (R143, R146). -/
def execClosePulseEnd (s : State) : Host.Outcome State Fault Refusal :=
  act s fun s =>
    whenDue (s.seqr.state == .closing && s.seqr.closePulse && ranOpt s.seqr.stepSince (200 * Config.ms) s.now)
      (fun s => refreshLines (s.onSeqr fun q => { q with closePulse := false })) s

/-- CLOSE_TIMEOUT (R146). -/
def execCloseTimeout (s : State) : Host.Outcome State Fault Refusal :=
  act s fun s =>
    whenDue (s.seqr.state == .closing && inputReads s .breakerAux != some true &&
        ranOpt s.seqr.stepSince (500 * Config.ms) s.now) (takeGrid .closeFail) s

/-- CONNECTED_CLOCK_EXPIRY (R147). -/
def execConnectedClockExpiry (s : State) : Host.Outcome State Fault Refusal :=
  act s fun s =>
    whenDue (s.seqr.state == .connected && ranOpt s.seqr.connectedSince (900 * Config.second) s.now)
      (fun s => s.onSeqr fun q => { q with reclose := 0 }) s

/-- METER_BLIND_LIMIT (R142). -/
def execMeterBlindLimit (s : State) : Host.Outcome State Fault Refusal :=
  act s fun s => whenDue (blindDue s) (takeGrid .meterLost) s

/-- TRIP_MIN_PULSE_EXPIRY (R149). -/
def execTripMinPulseExpiry (s : State) : Host.Outcome State Fault Refusal := act s tripTest

/-- TRIP_TIMEOUT (R149). -/
def execTripTimeout (s : State) : Host.Outcome State Fault Refusal :=
  act s fun s =>
    whenDue (s.seqr.state == .tripping && inputReads s .breakerAux != some false &&
        ranOpt s.seqr.stepSince (500 * Config.ms) s.now)
      (fun s => lockOut .breakerFail (raiseNotice nBreakerFail s)) s

/-- OPENING_TIMEOUT (R151). The value of WELDED is 1 if an aux input still reads closed, 2 if the aux part was met. -/
def execOpeningTimeout (s : State) : Host.Outcome State Fault Refusal :=
  act s fun s =>
    whenDue (s.seqr.state == .opening && ranOpt s.seqr.stepSince (2 * Config.second) s.now)
      (fun s =>
        let aux := inputReads s .contPosAux == some false && inputReads s .contNegAux == some false
        lockOut .welded (raiseNotice (nWelded (if aux then 2 else 1)) s)) s

/-- STRAY_TRIP_MIN_PULSE (R153). -/
def execStrayTripMinPulse (s : State) : Host.Outcome State Fault Refusal := act s strayTest

/-- The stray trip fails (R153): BREAKER_FAIL, and LOCKED_OUT with that reason; in LOCKED_OUT the reason changes and the latch record is written. DESIGN
CHOICE, log entry 73: no further stray trip starts on the breaker that still reads closed. -/
def strayFail (s : State) : State :=
  let s := raiseNotice nBreakerFail (strayStop s)
  if s.seqr.state = .lockedOut then
    (s.onSeqr fun q => { q with reason := .breakerFail }).onMgmt (handLatch true .breakerFail)
  else lockOut .breakerFail s

/-- STRAY_TRIP_TIMEOUT (R153). -/
def execStrayTripTimeout (s : State) : Host.Outcome State Fault Refusal :=
  act s fun s =>
    whenDue (match s.seqr.stray with
        | some y => inputReads s .breakerAux != some false && ran y.since (500 * Config.ms) s.now
        | none => false) strayFail s

end Sys2Proof.Machine
end

