-- ==== Sys2Proof/Machine/CoolingOps.lean ====
section
/-! DEFINITION. The Cooling Controller (chapter 5): zone demand, the duty pipeline, PWM generation, pump supervision, zone and bay cooling
states. Outputs are numbered 0 to 11: pump outputs 0 to 3, then fan outputs 0 to 7. -/

namespace Sys2Proof.Machine

/-! ## Configuration look-ups -/

def zoneCfg (c : CoolingCfg) (z : Nat) : ZoneCfg := c.zones.getD z (defaultZone z)
def zoneLive (s : State) (z : Nat) : ZoneLive := s.cool.zones.getD z (freshZone (defaultZone z))
def outLive (s : State) (o : Nat) : OutLive := s.cool.outs.getD o (freshOut 0 500)
def pumpLive (s : State) (p : Nat) : PumpLive := s.cool.pumps.getD p freshPump
def minFlow (c : CoolingCfg) (p : Nat) : Nat := (c.outputs.pumps.getD p (500, 0)).2
def fanKind (c : CoolingCfg) (f : Nat) : FanKind := (c.outputs.fans.getD f (.fan, 500)).1

/-- The zone that names a pump output, and the zone whose fan list holds a fan output. -/
def pumpZone (c : CoolingCfg) (p : Nat) : Option Nat := (List.range 4).find? fun z => (zoneCfg c z).pump == some p
def fanZone (c : CoolingCfg) (f : Nat) : Option Nat := (List.range 4).find? fun z => (zoneCfg c z).fans.contains f

def modZone (z : Nat) (f : ZoneLive → ZoneLive) (c : Cooling) : Cooling := { c with zones := c.zones.modify z f }
def modOut (o : Nat) (f : OutLive → OutLive) (c : Cooling) : Cooling := { c with outs := c.outs.modify o f }
def modPump (p : Nat) (f : PumpLive → PumpLive) (c : Cooling) : Cooling := { c with pumps := c.pumps.modify p f }

/-- The coolant node in effect of a zone (R84). -/
def effNode (s : State) (z : Nat) : Option Nat :=
  match (zoneCfg s.mgmt.ringTables.cooling z).node with
  | none => none
  | some a => if (cfgOf s a).role = .cool ∧ (cfgOf s a).zone = z then some a else none

/-- Whether a zone's coolant node in effect is IN_SERVICE. -/
def effInService (s : State) (z : Nat) : Bool :=
  match effNode s z with
  | some a => (liveOf s a).state == .inService
  | none => false

/-- The outlet temperature while it is in use (R84). -/
def outletInUse (s : State) (z : Nat) : Option Int := if effInService s z then (zoneLive s z).outlet else none

/-! ## The duty pipeline (R88 to R92) -/

/-- The action of the override profile of the present fire state (R88). -/
def fireAction (s : State) (o : Nat) : FireAction :=
  match s.fire.state with
  | .quiet => .auto
  | st => (s.mgmt.ringTables.cooling.overrides.getD (st.code - 1) []).getD o .auto

/-- Source and source value of an output (R88). -/
def sourceOf (s : State) (o : Nat) (automatic : Nat) : DutySource × Nat :=
  match fireAction s o, s.lines.forces.getD o none with
  | .forceOff, _ => (.override, 0)
  | .forceDuty d, _ => (.override, d)
  | .auto, some f => (.force, f.value)
  | .auto, none => (.auto, automatic)

/-- The minimum stage (R89). -/
def minStage (sh : Shaping) (value applied : Nat) : Nat :=
  if value < (if applied = 0 then sh.minDuty + 50 else sh.minDuty) then 0 else value

/-- The cap on backup supply (R90). -/
def capStage (sh : Shaping) (backup : Bool) (m : Nat) : Nat := if backup then min m sh.auxCap else m

/-- Source, source value and shaped value formed anew (R88 to R90). -/
def shapeOut (s : State) (o : Nat) (x : OutLive) : OutLive :=
  let sv := sourceOf s o x.automatic
  let sh := s.mgmt.ringTables.cooling.shaping
  { x with source := sv.1, sourceValue := sv.2, shaped := capStage sh s.seqr.auxBackup (minStage sh sv.2 x.applied) }

/-- Whether an output is a pump held at rest in RESTART_WAIT or LOCKED. -/
def pumpHeld (s : State) (o : Nat) : Bool :=
  decide (o < 4) && ((pumpLive s o).state == .restartWait || (pumpLive s o).state == .locked)

/-- The three changes that reach the applied duty at once (R92). -/
def immediate (s : State) (o : Nat) (x : OutLive) : OutLive :=
  let a := if pumpHeld s o then 0 else if x.source = .override then x.shaped else x.applied
  { x with applied := if s.seqr.auxBackup then min a s.mgmt.ringTables.cooling.shaping.auxCap else a }

/-- An output formed anew between publications (R92). -/
def reformOut (s : State) (o : Nat) (x : OutLive) : OutLive := immediate s o (shapeOut s o x)

/-- The applied duty moved at a publication (R91). -/
def slopeDuty (held : Bool) (src : DutySource) (v a step minDuty : Nat) : Nat :=
  if held then 0
  else if src = .override then v
  else if a < v then (if a = 0 then min v (max step minDuty) else min v (a + step))
  else if v < a then
    (if v = 0 then (if a - step < minDuty then 0 else a - step) else max v (a - step))
  else a

/-! ## Pump supervision (R95, R96) -/

/-- A pump is supervised (R95). -/
def supervised (s : State) (p : Nat) : Bool :=
  match pumpZone s.mgmt.ringTables.cooling p with
  | some z => effInService s z
  | none => false

/-- A pump's record brought into line with its applied duty and its supervision: the state follows the duty outside RESTART_WAIT and LOCKED, the
flow-loss timer is cleared and the fault-free clock runs or pauses (R95, R96). -/
def pumpFollow (sup : Bool) (applied now : Nat) (x : PumpLive) : PumpLive :=
  let st := match x.state with
    | .restartWait => .restartWait
    | .locked => .locked
    | _ => if 0 < applied then PumpState.running else PumpState.stopped
  let run := sup && st == .running
  { x with
    state := st
    flowLoss := if run && decide (300 ≤ applied) then x.flowLoss else none
    clock := match x.clockSince with
      | some t => if run then x.clock else x.clock + (now - t)
      | none => x.clock
    clockSince := match x.clockSince with
      | some t => if run then some t else none
      | none => if run then some now else none }

def followPump (p : Nat) (s : State) : State :=
  s.onCool (modPump p (pumpFollow (supervised s p) (outLive s p).applied s.now))

def followPumps (s : State) : State := followPump 3 (followPump 2 (followPump 1 (followPump 0 s)))

/-! ## Zone and bay cooling states (R99, R100) -/

/-- The state of a zone (R99), by the outlet thresholds in use (R83). -/
def zoneStateOf (s : State) (z : Nat) : CoolState :=
  let c := zoneCfg s.mgmt.ringTables.cooling z
  let pst := match c.pump with | some p => some (pumpLive s p).state | none => none
  let out := outletInUse s z
  let active := match c.pump with
    | some p => decide (0 < (outLive s p).applied)
    | none => c.fans.any fun f => decide (0 < (outLive s (4 + f)).applied)
  let reaches := fun (limit : Int) => match out with | some t => decide (limit ≤ t) | none => false
  if pst == some .locked || reaches (zoneLive s z).trip then .failed
  else if pst == some .restartWait || (zoneLive s z).blind || reaches (zoneLive s z).warn then .degraded
  else if active then .running
  else .idle

/-- A zone's state is evaluated; each change raises ZONE_STATE (R99). -/
def zoneEval (z : Nat) (s : State) : State :=
  let st := zoneStateOf s z
  raiseIf ((zoneLive s z).state != st) (nZoneState z st) (s.onCool (modZone z fun x => { x with state := st }))

/-- The worst of two cooling states (R100). -/
def worse (a b : CoolState) : CoolState := if a.code < b.code then b else a

/-- The bay cooling state of the counted zones (R100). -/
def bayOf (c : Cooling) : CoolState := c.zones.foldl (fun m z => if z.counted then worse m z.state else m) .idle

/-- The bay cooling state is evaluated; each change raises BAY_COOLING, and FAILED is a trip cause as it arises (R100, Table 8-5). DESIGN
CHOICE, log entry 70: BAY_COOLING comes before the notices of the trip. -/
def bayEval (s : State) : State :=
  let old := s.cool.bay
  let st := bayOf s.cool
  let s := raiseIf (old != st) (nBayCooling st) (s.onCool fun c => { c with bay := st })
  if old ≠ .failed ∧ st = .failed then takeBay .cooling s else s

/-- Whether an event has changed what R99 names for a zone: its pump's state, or its pump's duty (its fans' duties, without a pump) across 0. -/
def zoneTouched (old : State) (s : State) (z : Nat) : Bool :=
  let c := zoneCfg s.mgmt.ringTables.cooling z
  let crossed := fun o => (decide (0 < (outLive old o).applied)) != (decide (0 < (outLive s o).applied))
  match c.pump with
  | some p => (pumpLive old p).state != (pumpLive s p).state || crossed p
  | none => c.fans.any fun f => crossed (4 + f)

/-- After duties, pump states or supervision have changed: the pumps follow, the zones concerned and the bay are evaluated, and the fault summary
sees a LOCKED pump. `also` names zones to evaluate whatever changed. DESIGN CHOICE, log entry 70: the notices come in this order. -/
def coolSettle (old : State) (also : Nat → Bool) (s : State) : State :=
  let s := followPumps s
  let t := s
  let s := (List.range 4).foldl (fun x z => if also z || zoneTouched old t z then zoneEval z x else x) s
  refreshLines (bayEval s)

/-- Form one output anew, and act on what follows (R92). -/
def reformOne (o : Nat) (s : State) : State :=
  coolSettle s (fun _ => false) (s.onCool (modOut o (reformOut s o)))

/-- Form every output anew. -/
def reformOuts (s : State) : State :=
  (List.range 12).foldl (fun x o => x.onCool (modOut o (reformOut x o))) s

def reformAll (s : State) : State := coolSettle s (fun _ => false) (reformOuts s)

/-! ## Samples and node states (R84, R96) -/

/-- A temperature reading of a coolant sample; invalid outside −400 to +1250 and at 0x7FFF (R84). -/
def coolantTemp (t : Int) : Option Int := if t = 32767 ∨ t < -400 ∨ 1250 < t then none else some t

/-- The flow-loss test of R96 for a zone's pump at a COOLANT sample. -/
def flowTest (z flow : Nat) (s : State) : State :=
  match (zoneCfg s.mgmt.ringTables.cooling z).pump with
  | none => s
  | some p =>
    let holds := supervised s p && (pumpLive s p).state == .running && decide (300 ≤ (outLive s p).applied) &&
      decide (flow < minFlow s.mgmt.ringTables.cooling p)
    s.onCool (modPump p fun x =>
      { x with flowLoss := if holds then some (match x.flowLoss with | some t => t | none => s.now) else none })

/-- A COOLANT sample from address `addr` (R84). DESIGN CHOICE, log entry 67: the zone state is evaluated at the sample also before the first publication. -/
def coolantSample (addr : Nat) (m : CoolantSample) (s : State) : State :=
  match (List.range 4).find? fun z => effNode s z == some addr with
  | none => s
  | some z =>
    let s1 := s.onCool (modZone z fun x =>
      { x with inlet := coolantTemp m.inlet, outlet := coolantTemp m.outlet, flow := some m.flow, pressure := some m.pressure,
               status := some m.status })
    coolSettle s (fun k => k == z) (flowTest z m.flow s1)

/-- The state of a node has changed (R84): the zone whose coolant node in effect it is, and its pump, are re-evaluated, also before
the first publication (DESIGN CHOICE, log entry 67). -/
def coolNode (addr : Nat) (s : State) : State :=
  coolSettle s (fun z => effNode s z == some addr) s

/-! ## Publications (R85 to R91) -/

/-- MODULE entries of a zone with a state. -/
def moduleCount (s : State) (z : Nat) (ok : NodeState → Bool) : Nat :=
  ((s.mgmt.ringTables.nodes.zip s.ring.nodes).filter fun x =>
    x.1.role == .mod && x.1.zone == z && ok x.2.state).length

/-- A MODULE entry of the zone is IN_SERVICE. -/
def zoneHasModule (s : State) (z : Nat) : Bool := decide (0 < moduleCount s z (fun st => st == .inService))

/-- The zone view of a publication (R85), which also brings changed outlet thresholds into use (R83). -/
def zoneView (b : BaySummary) (z : Nat) (s : State) : State :=
  let zs := b.zones.getD z freshZoneSummary
  let sup := moduleCount s z (fun st => st != .excluded)
  let blind := decide (0 < sup) && zs.contributing == 0
  let c := zoneCfg s.mgmt.ringTables.cooling z
  let dem := if blind then c.blindDuty
    else if 0 < zs.contributing then (match zs.hottest with | some t => curveAt c.pumpCurve t | none => 0) else 0
  let was := (zoneLive s z).blind
  raiseIf (was != blind) (nZoneBlind z blind) (s.onCool (modZone z fun x =>
    { x with hottest := zs.hottest, contributing := zs.contributing, supervised := sup, blind := blind, demand := dem,
             warn := c.outletWarn, trip := c.outletTrip }))

/-- The automatic duty of an output (R87). -/
def automaticDuty (s : State) (o : Nat) : Nat :=
  let c := s.mgmt.ringTables.cooling
  if o < 4 then
    match pumpZone c o with
    | some z => (zoneLive s z).demand
    | none => 0
  else if fanKind c (o - 4) = .exhaust then 0
  else match fanZone c (o - 4) with
    | none => 0
    | some z => match outletInUse s z with
      | some t => curveAt (zoneCfg c z).fanCurve t
      | none => (zoneLive s z).demand

/-- One output through the pipeline at a publication (R88 to R91). -/
def publishOut (s : State) (step o : Nat) (x : OutLive) : OutLive :=
  let x := shapeOut s o { x with automatic := automaticDuty s o }
  { x with applied := slopeDuty (pumpHeld s o) x.source x.shaped x.applied step s.mgmt.ringTables.cooling.shaping.minDuty }

/-- The Cooling Controller's pass on a publication (section 5.3). DESIGN CHOICE, log entry 70: the ZONE_BLIND notices come first. -/
def coolingPass (b : BaySummary) (s : State) : State :=
  let old := s
  let s := (List.range 4).foldl (fun x z => zoneView b z x) s
  let step := stepOf s.mgmt.ringTables.cooling.shaping.dutySlope b.elapsed
  let t := s
  let s := s.onCool fun c => { c with outs := c.outs.mapIdx fun o x => publishOut t step o x }
  let s := s.onCool fun c => { c with zones := c.zones.mapIdx fun z x => { x with counted := zoneHasModule t z } }
  coolSettle old (fun _ => true) s

/-! ## Taking up a new Cooling Table (R83) -/

/-- Live fields of a zone whose coolant node is renamed. -/
def renameZone (old new : CoolingCfg) (z : Nat) (x : ZoneLive) : ZoneLive :=
  if (zoneCfg old z).node = (zoneCfg new z).node then x
  else { x with inlet := none, outlet := none, flow := none, pressure := none, status := none }

/-- What a pump is bound to: its zone and that zone's coolant node. -/
def pumpBinding (c : CoolingCfg) (p : Nat) : Option (Nat × Option Nat) :=
  match pumpZone c p with
  | some z => some (z, (zoneCfg c z).node)
  | none => none

/-- The new min_duty and aux_cap at an applied duty. -/
def dutyTakeUp (sh : Shaping) (backup : Bool) (x : OutLive) : OutLive :=
  let a := if 0 < x.applied ∧ x.applied < sh.minDuty then sh.minDuty else x.applied
  { x with applied := if backup then min a sh.auxCap else a }

/-- Applied Cooling Table parts are taken up, before the reaction to the summary published at the event (R83). `old` is the table they replace. -/
def coolingTakeUp (old : CoolingCfg) (s : State) : State :=
  let new := s.mgmt.ringTables.cooling
  let s0 := s
  let s := s.onCool fun c =>
    { c with
      zones := c.zones.mapIdx fun z x => renameZone old new z x
      pumps := c.pumps.mapIdx fun p x => if pumpBinding old p = pumpBinding new p then x else { x with flowLoss := none }
      outs := c.outs.map (dutyTakeUp new.shaping s.seqr.auxBackup) }
  coolSettle s0 (fun _ => false) (reformOuts s)

/-! ## Pump events -/

/-- A pump has changed its state in place (R96): notice, and the output formed anew. DESIGN CHOICE, log entry 70: PUMP_STATE comes before what the zones and
the fault summary raise. -/
def pumpTo (p : Nat) (f : PumpLive → PumpLive) (s : State) : State :=
  let s1 := s.onCool (modPump p f)
  let s1 := raiseNotice (nPumpState p (pumpLive s1 p).state) s1
  coolSettle s (fun _ => false) (s1.onCool (modOut p (reformOut s1 p)))

/-- The flow-loss timer has reached 10 s (R96). -/
def flowLoss (p : Nat) (s : State) : State :=
  let n := (pumpLive s p).faults + 1
  let s := raiseNotice (nPumpFault p n) s
  pumpTo p (fun x =>
    { x with faults := n, clock := 0, clockSince := none, flowLoss := none,
             state := if n < 3 then .restartWait else .locked, restart := if n < 3 then some s.now else none }) s

/-- The restart timer has run out (R97). With applied duty 0 the shaped value is formed anew, and the pump stops or restarts. -/
def restartExpire (p : Nat) (s : State) : State :=
  let s0 := s
  let s := s.onCool (modPump p fun x => { x with state := .stopped, restart := none })
  let x := shapeOut s p { outLive s p with applied := 0 }
  let a := if x.shaped = 0 then 0 else if x.source = .override then x.shaped else s.mgmt.ringTables.cooling.shaping.minDuty
  let s := s.onCool (modOut p fun _ => { x with applied := a })
  let s := raiseNotice (nPumpState p (if 0 < a then .running else .stopped)) s
  coolSettle s0 (fun _ => false) s

/-- The fault-free clock of a pump, in microseconds. -/
def faultFree (x : PumpLive) (now : Nat) : Nat := x.clock + (match x.clockSince with | some t => now - t | none => 0)

/-! ## PWM generation (R93, R94) -/

/-- The high time of a period with dither index k, in counts (R93). -/
def highTime (d n k : Nat) : Nat :=
  let q := d * n / 1000
  let l := 8 * (d * n - 1000 * q) / 1000
  if k * l / 8 < (k + 1) * l / 8 then q + 1 else q

/-- Index of a period value in the list of references. -/
def refIdx (n : Nat) : Option Nat := [250, 500, 1000].idxOf? n

/-- The fan outputs active with period n, in index order (R94). DESIGN CHOICE, log entry 49: the configured period counts, also for an output that still runs
its old one. -/
def activeFans (s : State) (n : Nat) : List Nat :=
  ((List.range 8).map (· + 4)).filter fun o =>
    cfgPeriod s.mgmt.ringTables.cooling o == n && decide (0 < (outLive s o).applied)

/-- The phase offset of an output of period n (R94). -/
def phaseOffset (s : State) (n o : Nat) : Nat :=
  let act := activeFans s n
  match act.idxOf? o with
  | some i => i * n / act.length
  | none => 0

/-- An output of period n at a reference period start: with a new period or offset its next own period begins at the new offset, where the period in
progress ends; until then the line keeps that period's high time (R83, R94; log entry 17). -/
def refOut (now n off : Nat) (x : OutLive) : OutLive :=
  if x.period = n ∧ x.offset = off then x
  else { x with period := n, offset := off, nextStart := now + off }

/-- A reference period of n starts now, and has not been taken yet. -/
def refDue (s : State) (n : Nat) : Bool :=
  match refIdx n with
  | none => false
  | some i => (s.now - s.cool.refBase) % n == 0 && s.cool.refTaken.getD i none != some s.now

def refStart (n : Nat) (s : State) : State :=
  match refIdx n with
  | none => s
  | some i => s.onCool fun c =>
      { c with
        refTaken := c.refTaken.set i (some s.now)
        outs := c.outs.mapIdx fun o x =>
          if cfgPeriod s.mgmt.ringTables.cooling o = n then refOut s.now n (phaseOffset s n o) x else x }

/-- The reference period in which the present moment lies has been taken. -/
def refCurrent (s : State) (n : Nat) : Bool :=
  match refIdx n with
  | none => false
  | some i => match s.cool.refTaken.getD i none with
    | some r => decide (s.now < r + n)
    | none => false

/-- An output begins its own period: it takes its duty and the next dither index, and goes active for its high time, at duty 1000 throughout (R93). -/
def periodStart (now : Nat) (x : OutLive) : OutLive :=
  let k := (x.dither + 1) % 8
  let h := highTime x.applied x.period k
  { x with dither := k, nextStart := x.nextStart + x.period, level := decide (0 < h),
           highEnd := if 0 < h ∧ x.applied < 1000 then some (now + h) else none }

/-- The high time of the period in progress has ended. One that fills its period ends with the next period start instead. -/
def highOver (x : OutLive) (now : Nat) : Bool :=
  x.level && (match x.highEnd with | some e => decide (e ≤ now ∧ e < x.nextStart) | none => false)

/-! ## Meanings -/

/-- PWM_REFERENCE_PERIOD (R93, R94). -/
def execPwmReferencePeriod (n : Nat) (s : State) : Host.Outcome State Fault Refusal :=
  act s fun s => whenDue (refDue s n) (refStart n) s

/-- PWM_PERIOD_START (R93). -/
def execPwmPeriodStart (o : Nat) (s : State) : Host.Outcome State Fault Refusal :=
  act s fun s =>
    whenDue (decide (o < 12) && decide ((outLive s o).nextStart ≤ s.now) && refCurrent s (outLive s o).period)
      (fun s => s.onCool (modOut o (periodStart s.now))) s

/-- PWM_HIGH_END (R93). -/
def execPwmHighEnd (o : Nat) (s : State) : Host.Outcome State Fault Refusal :=
  act s fun s =>
    whenDue (highOver (outLive s o) s.now)
      (fun s => s.onCool (modOut o fun x => { x with level := false, highEnd := none })) s

/-- FLOW_LOSS_TIMEOUT (R96). -/
def execFlowLossTimeout (p : Nat) (s : State) : Host.Outcome State Fault Refusal :=
  act s fun s => whenDue (ranOpt (pumpLive s p).flowLoss (10 * Config.second) s.now) (flowLoss p) s

/-- RESTART_WAIT_EXPIRY (R97). -/
def execRestartWaitExpiry (p : Nat) (s : State) : Host.Outcome State Fault Refusal :=
  act s fun s =>
    whenDue ((pumpLive s p).state == .restartWait && ranOpt (pumpLive s p).restart (30 * Config.second) s.now) (restartExpire p) s

/-- FAULT_FREE_EXPIRY (R96). -/
def execFaultFreeExpiry (p : Nat) (s : State) : Host.Outcome State Fault Refusal :=
  act s fun s =>
    whenDue ((pumpLive s p).clockSince.isSome && decide (300 * Config.second ≤ faultFree (pumpLive s p) s.now))
      (fun s => s.onCool (modPump p fun x => { x with faults := 0, clock := 0, clockSince := some s.now })) s

end Sys2Proof.Machine
end

