-- ==== Sys2Proof/Machine/LoopOps.lean ====
section
/-! DEFINITION. The Loop Master (chapter 6) below the level of hand-overs: bus states, the walk of a script, closing, recovery, the manual slot
and the hold. -/

namespace Sys2Proof.Machine

/-! ## The walk of a script (R106) -/

/-- Steps allowed in each bus state (Table 6-4). -/
def stepAllowed (b : BusState) (st : ScriptStep) : Bool :=
  match st.lead, b with
  | .release, _ => true
  | .openBus, .free => !st.read
  | .reopen, .afterWrite => !st.read
  | .reopen, .readClosed => !st.read
  | .plain, .afterWrite => true
  | .plain, .readOpen => st.read
  | _, _ => false

/-- Bus state after a step (R106). -/
def busAfter (st : ScriptStep) : BusState :=
  match st.lead, st.tail, st.read with
  | .release, _, _ => .free
  | _, .lastStop, _ => .free
  | _, _, false => .afterWrite
  | _, .continue_, true => .readOpen
  | _, .last, true => .readClosed

/-- Walk a script from a bus state; none when a step is not allowed, otherwise the bus state at the end. The walk ends at a RELEASE. -/
def walk (b : BusState) : List ScriptStep → Option BusState
  | [] => some b
  | st :: r => if stepAllowed b st then (if st.lead = .release then some .free else walk (busAfter st) r) else none

/-! ## Counter and flag (R104) -/

/-- The loop bus fault flag takes a value; a change raises LOOP_BUS_FAULT. -/
def setBusFault (on : Bool) (s : State) : State :=
  let was := s.loop.busFault
  raiseIf (was != on) (nLoopBusFault on) (s.onLoop fun l => { l with busFault := on })

/-- A BUS_STUCK is counted and the flag set. -/
def countStuck (s : State) : State := setBusFault true (s.onLoop fun l => { l with stuck := satInc l.stuck })

/-! ## What a step sends (R107) -/

/-- Detector d has the loop address 0x10 + d; DETECTOR_WRITE is twice that, DETECTOR_READ one more (R107). -/
def addressByte (d : Nat) (read : Bool) : Byte := BitVec.ofNat 8 (2 * (0x10 + d) + read.toNat)

/-- The byte a WRITE step sends (R107). A manual script holds literals only (R111). -/
def stepByte (o : ScriptOwner) (st : ScriptStep) : Byte :=
  match st.value, o with
  | .literal b, _ => b
  | .detectorWrite, .polled d => addressByte d false
  | .detectorRead, .polled d => addressByte d true
  | _, .manual => 0

/-- The step a running script stands at. -/
def currentStep (r : ScriptRun) : Option ScriptStep := r.steps[r.results.length]?

/-! ## Signalling (R103, Table 6-1) -/

/-- One bit period: the data line is set while the clock is low, the clock is released for the second half and pulled low again. -/
def bitPeriod (set sampled : List LineSignal) : List LineSignal := set ++ [.half, .clockRelease] ++ sampled ++ [.half, .clockLow]

/-- A bit the S48 sends: the data line released for a 1 and pulled low for a 0. -/
def bitOut (b : Bool) : List LineSignal := bitPeriod [if b then .dataRelease else .dataLow] []

/-- A bit the S48 samples, with the data line released. -/
def bitIn : List LineSignal := bitPeriod [.dataRelease] [.sample]

/-- The conditions. A stop and a repeated start begin with the clock low. DESIGN CHOICE, log entry 34: a repeated start waits for the data line before
it releases the clock, and no condition takes a half period of its own. -/
def startSignals : List LineSignal := [.awaitBoth, .dataLow, .clockLow]
def repeatedStartSignals : List LineSignal := [.dataRelease, .awaitData, .clockRelease, .dataLow, .clockLow]
def stopSignals : List LineSignal := [.dataLow, .clockRelease, .dataRelease, .awaitData]

/-- A written byte, most significant bit first, and its acknowledge sampled in the ninth bit. -/
def writeSignals (b : Byte) : List LineSignal := ((List.range 8).flatMap fun i => bitOut (b.getMsbD i)) ++ bitIn

/-- A byte read, and in the ninth bit the data line pulled low to acknowledge or left released. -/
def readSignals (ack : Bool) : List LineSignal := ((List.range 8).flatMap fun _ => bitIn) ++ bitOut (!ack)

/-- The nine clock pulses of a recovery, with the data line released (R104). -/
def pulseSignals : List LineSignal := .dataRelease :: .clockLow :: (List.range 9).flatMap fun _ => bitPeriod [] []

/-- What precedes the byte (R107). -/
def leadSignals : Lead → List LineSignal
  | .openBus => startSignals | .reopen => repeatedStartSignals | .plain => [] | .release => []

/-- The signalling of a step (R107): lead, byte and acknowledge; then the tail, and for a byte not acknowledged a stop whatever the tail. -/
def stepSignals (o : ScriptOwner) (st : ScriptStep) : Signalling :=
  { body := leadSignals st.lead ++ (if st.read then readSignals (st.tail == .continue_) else writeSignals (stepByte o st))
    tail := if st.tail = .lastStop then stopSignals else []
    ifNotAck := if st.read then [] else stopSignals }

/-- Closing a held bus (R105). -/
def closeSignals (b : BusState) : Signalling := ⟨(if b = .readOpen then pulseSignals else []) ++ stopSignals, [], []⟩

/-- Recovery (R104). -/
def recoverySignals : Signalling := ⟨pulseSignals ++ stopSignals, [], []⟩

/-- The signalling of an activity. -/
def actSignals (b : BusState) : LoopAct → Signalling
  | .idle => noSignals
  | .running r => match currentStep r with | some st => stepSignals r.owner st | none => noSignals
  | .closing _ => closeSignals b
  | .recovering _ _ => recoverySignals

/-- What one action makes of the S48's side of the lines. -/
def drive (x : LoopLines) : LineSignal → LoopLines
  | .clockLow => { x with clock := false } | .clockRelease => { x with clock := true }
  | .dataLow => { x with data := false } | .dataRelease => { x with data := true }
  | .awaitBoth | .awaitData | .sample | .half => x

/-- The lines between steps: both released when the bus is FREE, else the clock low, and the data line low where a read byte was acknowledged. -/
def restLines : BusState → LoopLines
  | .free => ⟨true, true⟩ | .readOpen => ⟨false, false⟩ | .afterWrite => ⟨false, true⟩ | .readClosed => ⟨false, true⟩

/-- The bus comes to a state between steps. -/
def busTo (b : BusState) (l : Loop) : Loop := { l with bus := b, lines := restLines b }

/-- The bit periods of an activity take this long at least; a detector that holds the clock low makes it longer (R103). -/
def signalTime (x : Signalling) : Nat := Config.halfBit * (x.body.filter fun a => a == .half).length

/-- The signalling of the activity in progress can be complete. -/
def signalled (l : Loop) (now : Nat) : Bool := ran l.actSince (signalTime l.signals) now

/-- The Loop Master takes up an activity now. -/
def loopAct (a : LoopAct) (s : State) : State :=
  s.onLoop fun l => { l with act := a, actSince := s.now, signals := actSignals l.bus a }

/-- A recovery begins, the data line released and the clock line as given (R104, R114). -/
def recoverBus (clock : Bool) (after : Option ScriptEnd) (byAbort : Bool) (s : State) : State :=
  (loopAct (.recovering after byAbort) s).onLoop fun l => { l with lines := ⟨clock, true⟩ }

/-! ## Scripts -/

/-- Pad the results of a script that ends early: every later step is NOT_RUN (R104, R107). -/
def padResults (steps : List ScriptStep) (results : List StepResult) : List StepResult :=
  results ++ List.replicate (steps.length - results.length) .notRun

/-- The LOOP_RUN in the manual slot is answered DONE with its script result and step results, and the slot becomes empty (R112, R195). -/
def answerManual (m : Manual) (res : ScriptResult) (results : List StepResult) (s : State) : State :=
  answerAs false m.port m.src m.id 0x17 .done
    (encU8 res.code ++ encU8 results.length ++ results.flatMap StepResult.bytes)
    (s.onLoop fun l => { l with manual := none })

/-! ## The hold (R113) -/

/-- A full hold begins with the bus as a manual script left it. -/
def newHold (b : BusState) (now : Nat) : Hold := ⟨b, 2 * Config.second, some now⟩

/-- What is left of a hold. -/
def holdLeft (h : Hold) (now : Nat) : Nat :=
  match h.since with
  | some t => h.left - (now - t)
  | none => h.left

/-- The hold timer stops; the hold stays in force. -/
def stopHold (now : Nat) (h : Hold) : Hold := { h with left := holdLeft h now, since := none }

/-- The hold timer runs and has run out. -/
def holdDue (o : Option Hold) (now : Nat) : Bool :=
  match o with
  | some ⟨_, left, some t⟩ => ran t left now
  | _ => false

/-- A manual script has ended: it is answered, and a COMPLETE script that leaves the bus held begins a hold (R112, R113). -/
def manualEnd (e : ScriptEnd) (s : State) : State :=
  let s := match s.loop.manual with
    | some m => answerManual m e.result e.results s
    | none => s
  s.onLoop fun l =>
    { l with act := .idle, signals := noSignals, hold := if e.result = .complete ∧ l.bus ≠ .free then some (newHold l.bus s.now) else none }

/-- A script starts running; RELEASE as its first step on a free bus is handled by the step itself. -/
def scriptStart (o : ScriptOwner) (steps : List ScriptStep) (s : State) : State := loopAct (.running ⟨o, steps, []⟩) s

/-- The bus is held (section 6.3). -/
def busHeld (l : Loop) : Bool := l.bus != .free

/-- The bus state a LOOP_RUN is walked from: FREE unless a hold is in force, then the state the last manual script left (R111). -/
def walkFrom (l : Loop) : BusState :=
  match l.hold with
  | some h => h.busState
  | none => .free

/-- No script runs and the bus is not being closed or recovered. -/
def loopQuiet (l : Loop) : Bool :=
  match l.act with
  | .idle => true
  | _ => false

/-- The detector whose polled script runs, its bus still being closed or recovered included (R109). -/
def polledScript (l : Loop) : Option Nat :=
  match l.act with
  | .running ⟨.polled d, _, _⟩ => some d
  | .closing (some ⟨.polled d, _, _⟩) => some d
  | .recovering (some ⟨.polled d, _, _⟩) _ => some d
  | _ => none

/-- The Loop Master is idle: no round running, no manual script running and no bus held (R108). -/
def loopIdle (l : Loop) : Bool := loopQuiet l && !l.running && l.manual.isNone && l.hold.isNone && !busHeld l

/-- The results of the steps that have completed, a RELEASE still being carried out not among them. -/
def ranResults (rs : List StepResult) : List StepResult := rs.takeWhile fun x => x != .released && x != .notRun

/-- A script whose RELEASE step meets a stuck bus ends BUS_STUCK with that step NOT_RUN (R104); the result of a script that was complete before its bus
was closed stays (R105, R109). -/
def stuckEnd (e : ScriptEnd) : ScriptEnd :=
  if e.results.contains .released then
    { e with result := .busStuck, results := e.results.map fun x => if x = .released then .notRun else x }
  else e

/-! ## Ending a manual transaction from outside (R114, R115) -/

/-- The results a manual script is answered ABORTED with: those of the steps completed, the rest NOT_RUN (R114). -/
def abortedResults (m : Manual) : LoopAct → List StepResult
  | .running r => padResults m.steps r.results
  | .closing (some e) => padResults m.steps (ranResults e.results)
  | .recovering (some e) _ => padResults m.steps (ranResults e.results)
  | _ => padResults m.steps []

/-- The bus after a running manual script is ended: recovered, unless a recovery is under way already (R114). The script may still have waited for its
first step while the bus was closed. -/
def abortBus (s : State) : State :=
  match s.loop.act with
  | .recovering (some _) byAbort => s.onLoop fun l => { l with act := .recovering none byAbort }
  | .running _ | .closing _ => recoverBus false none true s
  | _ => s

/-- What LOOP_ABORT, or the fire state leaving QUIET, finds and does; the result value of R114. A hold that is in force ends. A manual script still
being closed or recovered is answered ABORTED and the bus work goes on. -/
def loopClear (s : State) : State × Nat :=
  match s.loop.manual with
  | some m =>
    let t := answerManual m .aborted (if m.running then abortedResults m s.loop.act else padResults m.steps []) s
    if m.running then (abortBus (t.onLoop fun l => { l with hold := none }), 2) else (t, 1)
  | none =>
    if s.loop.hold.isSome then (loopAct (.closing none) (s.onLoop fun l => { l with hold := none }), 3) else (s, 0)

end Sys2Proof.Machine
end

