-- ==== Sys2Proof/Machine/TableOps.lean ====
section
/-! DEFINITION. The configuration tables as data: laying parts over tables, table and part codes, the checks of every WRITE_TABLE, and the byte
contents of parts (chapters 11 and 12). -/

namespace Sys2Proof.Machine

/-! ## Parts and tables -/

/-- Table and part code of a part (Table 12-9). -/
def RingPart.key : RingPart → Nat × Nat
  | .node a _ => (1, a) | .poll _ => (1, 41) | .interval _ => (1, 42) | .profile i _ => (2, i)
  | .ratings _ => (3, 1) | .taper _ => (3, 2) | .hot _ => (3, 3) | .cold _ => (3, 4) | .factors _ => (3, 5)
  | .setpoint _ => (4, 0) | .zone z _ => (5, z) | .outputs _ => (5, 4) | .shaping _ => (5, 5) | .fireOverride f _ => (5, 6 + f)
  | .grid _ => (6, 0) | .line _ => (7, 0) | .rate _ => (8, 0)

def LoopPart.key : LoopPart → Nat × Nat
  | .script i _ => (9, i) | .interval _ => (10, 0) | .detector d _ => (11, d) | .fire _ => (11, 24)

/-- A part laid over the tables. -/
def applyRing (t : RingTables) : RingPart → RingTables
  | .node a c => { t with nodes := match a with | 0 => t.nodes | k + 1 => t.nodes.set k c }
  | .poll l => { t with poll := l }
  | .interval ms => { t with interval := ms }
  | .profile i p => { t with profiles := t.profiles.set i p }
  | .ratings r => { t with envelope := { t.envelope with ratings := r } }
  | .taper c => { t with envelope := { t.envelope with taper := c } }
  | .hot c => { t with envelope := { t.envelope with hot := c } }
  | .cold c => { t with envelope := { t.envelope with cold := c } }
  | .factors c => { t with envelope := { t.envelope with factors := c } }
  | .setpoint c => { t with setpoint := c }
  | .zone z c => { t with cooling := { t.cooling with zones := t.cooling.zones.set z c } }
  | .outputs c => { t with cooling := { t.cooling with outputs := c } }
  | .shaping c => { t with cooling := { t.cooling with shaping := c } }
  | .fireOverride f a => { t with cooling := { t.cooling with overrides := t.cooling.overrides.set f a } }
  | .grid c => { t with grid := c }
  | .line c => { t with line := c }
  | .rate r => { t with rate := r }

def applyLoop (t : LoopTables) : LoopPart → LoopTables
  | .script i s => { t with scripts := t.scripts.set i s }
  | .interval ms => { t with interval := ms }
  | .detector d c => { t with detectors := t.detectors.set d c }
  | .fire c => { t with fire := c }

/-- The pending copy of a group: its applied tables with every staged part laid over them (R185). -/
def pendingRing (m : Mgmt) : RingTables := m.ringStaged.foldl applyRing m.ringTables
def pendingLoop (m : Mgmt) : LoopTables := m.loopStaged.foldl applyLoop m.loopTables

/-- A staged part replaces the staged part already held for it (R185). -/
def stageRing (p : RingPart) (l : List RingPart) : List RingPart := l.filter (fun q => q.key != p.key) ++ [p]
def stageLoop (p : LoopPart) (l : List LoopPart) : List LoopPart := l.filter (fun q => q.key != p.key) ++ [p]

/-- The part with a table and part code in the tables; none where the table has no such part. -/
def ringPartOf (t : RingTables) : Nat × Nat → Option RingPart
  | (1, 41) => some (.poll t.poll)
  | (1, 42) => some (.interval t.interval)
  | (1, a) => if isRingAddr a then some (.node a (cfgIn t.nodes a)) else none
  | (2, i) => if i < 8 then some (.profile i (t.profiles.getD i defaultProfile)) else none
  | (3, 1) => some (.ratings t.envelope.ratings)
  | (3, 2) => some (.taper t.envelope.taper)
  | (3, 3) => some (.hot t.envelope.hot)
  | (3, 4) => some (.cold t.envelope.cold)
  | (3, 5) => some (.factors t.envelope.factors)
  | (4, 0) => some (.setpoint t.setpoint)
  | (5, 4) => some (.outputs t.cooling.outputs)
  | (5, 5) => some (.shaping t.cooling.shaping)
  | (5, p) =>
    if p < 4 then some (.zone p (zoneCfg t.cooling p))
    else if p < 10 then some (.fireOverride (p - 6) (t.cooling.overrides.getD (p - 6) []))
    else none
  | (6, 0) => some (.grid t.grid)
  | (7, 0) => some (.line t.line)
  | (8, 0) => some (.rate t.rate)
  | _ => none

def loopPartOf (t : LoopTables) : Nat × Nat → Option LoopPart
  | (9, i) => if i < 16 then some (.script i (t.scripts.getD i [])) else none
  | (10, 0) => some (.interval t.interval)
  | (11, d) =>
    if d < 24 then some (.detector d (t.detectors.getD d defaultDetector))
    else if d = 24 then some (.fire t.fire) else none
  | _ => none

/-! ## Contents of parts as bytes (section 12.5) -/

def curveBytes (c : List (Int × Nat)) : List Byte := c.flatMap fun p => encS16 p.1 ++ encU16 p.2
def stageBytes (c : StageCfg) : List Byte := encU16 c.level ++ encU16 c.time
def stageBytes4 (c : StageCfg) : List Byte := encU32 c.level ++ encU16 c.time

def nodeBytes (c : NodeCfg) : List Byte :=
  encU8 c.role.code ++ encU8 c.zone ++ encU8 c.profile ++ encU8 (sideCode c.home) ++ encU16 c.cellMask.toNat ++
    encU8 c.tempMask.toNat

def detectorBytes (c : DetCfg) : List Byte :=
  encU8 c.kind.code ++ encU8 c.zone ++ encU8 c.script ++ encU8 c.readingStep ++ encU8 c.width ++ encU16 c.preAlarm ++
    encU16 c.alarm ++ encU16 c.hysteresis ++ encBool c.enabled

def RingPart.bytes : RingPart → List Byte
  | .node _ c => nodeBytes c
  | .poll l => encU8 l.length ++ l.flatMap encU8
  | .interval ms => encU16 ms
  | .profile _ p =>
    encU16 p.ovTrip.toNat ++ encU16 p.ovWarn.toNat ++ encU16 p.uvWarn.toNat ++ encU16 p.uvTrip.toNat ++ encS16 p.otTrip ++
      encS16 p.otWarn ++ encS16 p.coldInhibit ++ encU16 p.vHyst.toNat ++ encU16 p.tHyst.toNat ++ encU8 p.dwell ++
      encU16 p.riseLimit.toNat ++ encU8 p.riseWindow
  | .ratings r => encU16 r.chgRated ++ encU16 r.disRated ++ encU16 r.upSlope ++ encU16 r.downSlope ++ encU8 r.minInService
  | .taper t => encU16 t.vcStart.toNat ++ encU16 t.vcEnd.toNat ++ encU16 t.vdEnd.toNat ++ encU16 t.vdStart.toNat
  | .hot c => curveBytes c
  | .cold c => curveBytes c
  | .factors f =>
    encU16 f.coolIdle ++ encU16 f.coolRunning ++ encU16 f.coolDegraded ++ encU16 f.coolFailed ++ encU16 f.sf ++ encU16 f.blind
  | .setpoint c => encU16 c.silenceTime ++ encS16 c.fallbackP
  | .zone _ c =>
    optU8 c.pump ++ encU8 c.fans.length ++ c.fans.flatMap encU8 ++ optU8 c.node ++ curveBytes c.pumpCurve ++
      curveBytes c.fanCurve ++ encU16 c.blindDuty ++ encS16 c.outletWarn ++ encS16 c.outletTrip
  | .outputs c => (c.pumps.flatMap fun x => encU16 x.1 ++ encU16 x.2) ++ (c.fans.flatMap fun x => encU8 x.1.code ++ encU16 x.2)
  | .shaping c => encU16 c.minDuty ++ encU16 c.dutySlope ++ encU16 c.auxCap
  | .fireOverride _ a => a.flatMap FireAction.bytes
  | .grid c =>
    encU16 c.nominalV ++ encU16 c.nominalF ++ stageBytes c.uv1 ++ stageBytes c.uv2 ++ stageBytes c.ov1 ++ stageBytes c.ov2 ++
      stageBytes4 c.uf ++ stageBytes4 c.of ++ encU16 c.rocofLimit ++ encU8 c.rocofCount ++ encU16 c.healthyVLow ++
      encU16 c.healthyVHigh ++ encU32 c.healthyFLow ++ encU32 c.healthyFHigh ++ encU16 c.returnDelay ++ encU16 c.blindLimit
  | .line c =>
    encBool c.breakerAux ++ encBool c.contPosAux ++ encBool c.contNegAux ++ encBool c.estop ++ encBool c.door ++ encBool c.hold
  | .rate r => encU32 r

def LoopPart.bytes : LoopPart → List Byte
  | .script _ s => encodeScript s
  | .interval ms => encU16 ms
  | .detector _ c => detectorBytes c
  | .fire c => encBool c.releaseEnabled ++ encU16 c.releaseDelay

/-! Reading the contents of a part. A field whose code means nothing is out of its range (R182 step 4). -/

def readNode (b : List Byte) : Option NodeCfg := do
  let (r, b) ← getU8 b
  let role ← roleOf r
  let (z, b) ← getU8 b
  let (p, b) ← getU8 b
  let (h, b) ← getU8 b
  let home ← sideOf h
  let (cm, b) ← getU16 b
  let (tm, b) ← getU8 b
  if b.isEmpty && decide (tm < 16) then some ⟨role, z, p, home, BitVec.ofNat 16 cm, BitVec.ofNat 4 tm⟩ else none

def readProfile (b : List Byte) : Option Profile := do
  let (ovTrip, b) ← getU16 b
  let (ovWarn, b) ← getU16 b
  let (uvWarn, b) ← getU16 b
  let (uvTrip, b) ← getU16 b
  let (otTrip, b) ← getS16 b
  let (otWarn, b) ← getS16 b
  let (cold, b) ← getS16 b
  let (vh, b) ← getU16 b
  let (th, b) ← getU16 b
  let (dwell, b) ← getU8 b
  let (rl, b) ← getU16 b
  let (rw, b) ← getU8 b
  if b.isEmpty then some ⟨ovTrip, ovWarn, uvWarn, uvTrip, otTrip, otWarn, cold, vh, th, dwell, rl, rw⟩ else none

def readRatings (b : List Byte) : Option Ratings := do
  let (l, b) ← getMany getU16 4 b
  let (m, b) ← getU8 b
  match l, b with
  | [c, d, u, dn], [] => some ⟨c, d, u, dn, m⟩
  | _, _ => none

def readTaper (b : List Byte) : Option Taper :=
  match whole (getMany getU16 4 b) with
  | some [a, c, d, e] => some ⟨a, c, d, e⟩
  | _ => none

def readFactors (b : List Byte) : Option Factors :=
  match whole (getMany getU16 6 b) with
  | some [a, c, d, e, f, g] => some ⟨a, c, d, e, f, g⟩
  | _ => none

def readSetpointCfg (b : List Byte) : Option SetpointCfg := do
  let (t, b) ← getU16 b
  let (p, b) ← getS16 b
  if b.isEmpty then some ⟨t, p⟩ else none

/-- NONE is carried as 0xFF, the absent value of a 1-byte field. -/
def orNone (n : Nat) : Option Nat := if n = 255 then none else some n

def readZoneCfg (b : List Byte) : Option ZoneCfg := do
  let (p, b) ← getU8 b
  let (fans, b) ← getCounted getU8 b
  let (n, b) ← getU8 b
  let (pc, b) ← getMany getPoint 5 b
  let (fc, b) ← getMany getPoint 5 b
  let (bd, b) ← getU16 b
  let (w, b) ← getS16 b
  let (t, b) ← getS16 b
  if b.isEmpty then some ⟨orNone p, fans, orNone n, pc, fc, bd, w, t⟩ else none

def getPair (l : List Byte) : Option ((Nat × Nat) × List Byte) := do
  let (a, l) ← getU16 l
  let (b, l) ← getU16 l
  some ((a, b), l)

def getFan (l : List Byte) : Option ((FanKind × Nat) × List Byte) := do
  let (k, l) ← getU8 l
  let kind ← fanKindOf k
  let (p, l) ← getU16 l
  some ((kind, p), l)

def readOutputs (b : List Byte) : Option OutputsCfg := do
  let (p, b) ← getMany getPair 4 b
  let (f, b) ← getMany getFan 8 b
  if b.isEmpty then some ⟨p, f⟩ else none

def readShaping (b : List Byte) : Option Shaping :=
  match whole (getMany getU16 3 b) with
  | some [a, c, d] => some ⟨a, c, d⟩
  | _ => none

def getStage (l : List Byte) : Option (StageCfg × List Byte) := do
  let (a, l) ← getU16 l
  let (b, l) ← getU16 l
  some (⟨a, b⟩, l)

def getStage4 (l : List Byte) : Option (StageCfg × List Byte) := do
  let (a, l) ← getU32 l
  let (b, l) ← getU16 l
  some (⟨a, b⟩, l)

def readGrid (b : List Byte) : Option GridCfg := do
  let (nv, b) ← getU16 b
  let (nf, b) ← getU16 b
  let (uv1, b) ← getStage b
  let (uv2, b) ← getStage b
  let (ov1, b) ← getStage b
  let (ov2, b) ← getStage b
  let (uf, b) ← getStage4 b
  let (of, b) ← getStage4 b
  let (rl, b) ← getU16 b
  let (rc, b) ← getU8 b
  let (vl, b) ← getU16 b
  let (vh, b) ← getU16 b
  let (fl, b) ← getU32 b
  let (fh, b) ← getU32 b
  let (rd, b) ← getU16 b
  let (bl, b) ← getU16 b
  if b.isEmpty then some ⟨nv, nf, uv1, uv2, ov1, ov2, uf, of, rl, rc, vl, vh, fl, fh, rd, bl⟩ else none

/-- The Line Settings, each level a byte: 1 for HIGH and 0 for LOW. DESIGN CHOICE, log entry 8. -/
def readLine (b : List Byte) : Option LineCfg :=
  match whole (getMany getBool 6 b) with
  | some [a, c, d, e, f, g] => some ⟨a, c, d, e, f, g⟩
  | _ => none

/-- A ring-group part from its codes and contents. -/
def readRingPart (k : Nat × Nat) (b : List Byte) : Option RingPart :=
  match k with
  | (1, 41) => (whole (getCounted getU8 b)).map .poll
  | (1, 42) => (whole (getU16 b)).map .interval
  | (1, a) => (readNode b).map (.node a)
  | (2, i) => (readProfile b).map (.profile i)
  | (3, 1) => (readRatings b).map .ratings
  | (3, 2) => (readTaper b).map .taper
  | (3, 3) => (whole (getMany getPoint 6 b)).map .hot
  | (3, 4) => (whole (getMany getPoint 6 b)).map .cold
  | (3, 5) => (readFactors b).map .factors
  | (4, 0) => (readSetpointCfg b).map .setpoint
  | (5, 4) => (readOutputs b).map .outputs
  | (5, 5) => (readShaping b).map .shaping
  | (5, p) => if p < 4 then (readZoneCfg b).map (.zone p) else (whole (getMany getAction 12 b)).map (.fireOverride (p - 6))
  | (6, 0) => (readGrid b).map .grid
  | (7, 0) => (readLine b).map .line
  | (8, 0) => (whole (getU32 b)).map .rate
  | _ => none

def readDetCfg (b : List Byte) : Option DetCfg := do
  let (k, b) ← getU8 b
  let kind ← detKindOf k
  let (z, b) ← getU8 b
  let (sc, b) ← getU8 b
  let (rs, b) ← getU8 b
  let (w, b) ← getU8 b
  let (pa, b) ← getU16 b
  let (al, b) ← getU16 b
  let (hy, b) ← getU16 b
  let (en, b) ← getBool b
  if b.isEmpty then some ⟨kind, z, sc, rs, w, pa, al, hy, en⟩ else none

def readFireCfg (b : List Byte) : Option FireCfg := do
  let (e, b) ← getBool b
  let (d, b) ← getU16 b
  if b.isEmpty then some ⟨e, d⟩ else none

/-- A loop-group part from its codes and contents. -/
def readLoopPart (k : Nat × Nat) (b : List Byte) : Option LoopPart :=
  match k with
  | (9, i) => (decodeScript b).map (.script i)
  | (10, 0) => (whole (getU16 b)).map .interval
  | (11, d) => if d < 24 then (readDetCfg b).map (.detector d) else (readFireCfg b).map .fire
  | _ => none

/-! ## Checks -/

def inRange (lo hi x : Int) : Bool := decide (lo ≤ x ∧ x ≤ hi)

/-- Strictly rising temperatures, in −400 to +1250, values 0 to 1000, and the number of points (R47, R82). -/
def curveOk (n : Nat) (c : List (Int × Nat)) : Bool :=
  c.length == n && (c.all fun p => inRange (-400) 1250 p.1 && decide (p.2 ≤ 1000)) &&
    ((c.zip (c.drop 1)).all fun x => decide (x.1.1 < x.2.1))

/-- R3: the field ranges of Table 1-1. -/
def nodeOk (c : NodeCfg) : Bool := decide (c.zone < 4) && decide (c.profile < 8)

/-- R3: what the whole Node Table must meet. -/
def nodeTableOk (t : RingTables) : Bool :=
  let has := fun (r : Role) => (t.nodes.filter fun c => c.role == r).length
  let coolZones : List Nat := (t.nodes.filter fun c => c.role == .cool).map (·.zone)
  decide (has .mod ≤ 32) && decide (coolZones.length ≤ 4) && decide coolZones.Nodup && decide (has .meter ≤ 1) &&
    decide (has .conv ≤ 1)

/-- R3: the Poll List against the Node Table. -/
def pollOk (t : RingTables) : Bool :=
  decide (t.poll.length ≤ 40) && decide t.poll.Nodup && t.poll.all fun a => isRingAddr a && (cfgIn t.nodes a).role != .unused

/-- R27. -/
def profileOk (p : Profile) : Bool :=
  decide (0 ≤ p.uvTrip ∧ p.uvTrip < p.uvWarn ∧ p.uvWarn < p.ovWarn ∧ p.ovWarn < p.ovTrip ∧ p.ovTrip ≤ 5000) &&
  decide (-400 ≤ p.coldInhibit ∧ p.coldInhibit < p.otWarn ∧ p.otWarn < p.otTrip ∧ p.otTrip ≤ 1250) &&
  inRange 0 200 p.vHyst && inRange 0 100 p.tHyst && decide (1 ≤ p.dwell ∧ p.dwell ≤ 15) && inRange 1 500 p.riseLimit &&
  decide (2 ≤ p.riseWindow ∧ p.riseWindow ≤ 50) &&
  decide (p.uvWarn + p.vHyst < p.ovWarn - p.vHyst) && decide (p.coldInhibit + p.tHyst < p.otWarn - p.tHyst)

/-- R47. -/
def ratingsOk (r : Ratings) : Bool :=
  decide (r.chgRated ≤ 8000 ∧ r.disRated ≤ 8000 ∧ 1 ≤ r.upSlope ∧ r.upSlope ≤ 8000 ∧ 1 ≤ r.downSlope ∧ r.downSlope ≤ 8000 ∧
    r.minInService ≤ 32)
def taperOk (t : Taper) : Bool :=
  decide (0 ≤ t.vcStart ∧ t.vcStart < t.vcEnd ∧ t.vcEnd ≤ 5000 ∧ 0 ≤ t.vdEnd ∧ t.vdEnd < t.vdStart ∧ t.vdStart ≤ 5000)
def factorsOk (f : Factors) : Bool :=
  [f.coolIdle, f.coolRunning, f.coolDegraded, f.coolFailed, f.sf, f.blind].all fun x => decide (x ≤ 1000)

/-- R66. -/
def setpointOk (c : SetpointCfg) : Bool := decide (5 ≤ c.silenceTime ∧ c.silenceTime ≤ 600) && inRange (-8000) 8000 c.fallbackP

/-- R82: one ZONE part by itself. -/
def zoneOk (c : ZoneCfg) : Bool :=
  (match c.pump with | some p => decide (p < 4) | none => true) && decide (c.fans.length ≤ 2) && decide c.fans.Nodup &&
  (c.fans.all fun f => decide (f < 8)) && (match c.node with | some a => isRingAddr a | none => true) &&
  curveOk 5 c.pumpCurve && curveOk 5 c.fanCurve && decide (c.blindDuty ≤ 1000) &&
  decide (-400 ≤ c.outletWarn ∧ c.outletWarn < c.outletTrip ∧ c.outletTrip ≤ 1250)

def periodOk (n : Nat) : Bool := n == 250 || n == 500 || n == 1000

def outputsOk (c : OutputsCfg) : Bool :=
  c.pumps.length == 4 && c.fans.length == 8 && (c.pumps.all fun x => periodOk x.1 && decide (x.2 ≤ 65535)) &&
    c.fans.all fun x => periodOk x.2

def shapingOk (c : Shaping) : Bool :=
  decide (c.minDuty ≤ 950 ∧ 1 ≤ c.dutySlope ∧ c.dutySlope ≤ 1000 ∧ c.minDuty ≤ c.auxCap ∧ c.auxCap ≤ 1000)

def actionOk : FireAction → Bool
  | .forceDuty d => decide (d ≤ 1000)
  | _ => true

/-- R82: the three cross checks of the pending group. -/
def coolingCrossOk (c : CoolingCfg) : Bool :=
  let pumps : List Nat := c.zones.filterMap (·.pump)
  let fans : List Nat := c.zones.flatMap (·.fans)
  decide pumps.Nodup && decide fans.Nodup && fans.all fun f => fanKind c f == .fan

/-- R139. -/
def gridOk (c : GridCfg) : Bool :=
  let lv := fun (x : StageCfg) => decide (x.level ≤ 2000) && decide (x.time ≤ 60000)
  let hz := fun (n : Nat) => decide (40000 ≤ n ∧ n ≤ 70000)
  decide (100 ≤ c.nominalV ∧ c.nominalV ≤ 40000) && (c.nominalF == 50 || c.nominalF == 60) &&
  lv c.uv1 && lv c.uv2 && lv c.ov1 && lv c.ov2 && hz c.uf.level && decide (c.uf.time ≤ 60000) && hz c.of.level &&
  decide (c.of.time ≤ 60000) && decide (1 ≤ c.rocofLimit ∧ c.rocofLimit ≤ 10000) && decide (1 ≤ c.rocofCount ∧ c.rocofCount ≤ 10) &&
  decide (c.healthyVLow ≤ 2000) && decide (c.healthyVHigh ≤ 2000) && hz c.healthyFLow && hz c.healthyFHigh &&
  decide (1 ≤ c.returnDelay ∧ c.returnDelay ≤ 900) && decide (1 ≤ c.blindLimit ∧ c.blindLimit ≤ 60) &&
  decide (c.uv2.level < c.uv1.level ∧ c.uv1.level ≤ c.healthyVLow ∧ c.healthyVLow ≤ 1000 ∧ 1000 ≤ c.healthyVHigh ∧
    c.healthyVHigh ≤ c.ov1.level ∧ c.ov1.level < c.ov2.level) &&
  decide (c.uf.level ≤ c.healthyFLow ∧ c.healthyFLow ≤ 1000 * c.nominalF ∧ 1000 * c.nominalF ≤ c.healthyFHigh ∧
    c.healthyFHigh ≤ c.of.level)

/-- R167. -/
def rateOk (r : Nat) : Bool := [9600, 19200, 38400, 57600, 115200].contains r

/-- The checks of a ring-group part against the pending group once it is laid over it (R185): `t` is that group, the part included. -/
def ringPartOk (t : RingTables) : RingPart → Bool
  | .node a c => isRingAddr a && nodeOk c && nodeTableOk t
  | .poll _ => pollOk t
  | .interval ms => decide (50 ≤ ms ∧ ms ≤ 1000) && ms % 10 == 0
  | .profile i p => decide (i < 8) && profileOk p
  | .ratings r => ratingsOk r
  | .taper c => taperOk c
  | .hot c => curveOk 6 c
  | .cold c => curveOk 6 c
  | .factors f => factorsOk f
  | .setpoint c => setpointOk c
  | .zone z c => decide (z < 4) && zoneOk c && coolingCrossOk t.cooling
  | .outputs c => outputsOk c && coolingCrossOk t.cooling
  | .shaping c => shapingOk c
  | .fireOverride f a => decide (f < 4) && a.length == 12 && a.all actionOk
  | .grid c => gridOk c
  | .line _ => true
  | .rate r => rateOk r

/-- A script for the Script Table (R106). -/
def scriptOk (s : List ScriptStep) : Bool :=
  decide (1 ≤ s.length ∧ s.length ≤ 10) && (match walk .free s with | some b => b != .readOpen | none => false)

/-- The script test of R118: the reading step, and with width 2 the step after it, are READ steps, and no step up to the last of them is a
RELEASE. -/
def readingOk (s : List ScriptStep) (step width : Nat) : Bool :=
  let isRead := fun i => match s[i]? with | some st => st.read && st.lead != .release | none => false
  isRead (step - 1) && (width == 1 || isRead step) && (s.take (step - 1 + width)).all fun st => st.lead != .release

/-- An entry whose kind is not NONE meets the script test in the pending Script Table (R118). -/
def detScriptOk (t : LoopTables) (c : DetCfg) : Bool :=
  c.kind == .unused || readingOk (t.scripts.getD c.script []) c.readingStep c.width

/-- R118: one entry. -/
def detectorOk (t : LoopTables) (c : DetCfg) : Bool :=
  let top := if c.width = 1 then 254 else 65534
  decide (c.zone < 4 ∧ c.script < 16 ∧ 1 ≤ c.readingStep ∧ c.readingStep ≤ 10 ∧ (c.width = 1 ∨ c.width = 2)) &&
  decide (c.preAlarm ≤ top ∧ c.alarm ≤ top ∧ c.hysteresis ≤ c.preAlarm) && (c.width == 1 || decide (c.readingStep ≤ 9)) &&
  (c.kind == .callPoint || decide (c.preAlarm ≤ c.alarm)) && detScriptOk t c

/-- The checks of a loop-group part against the pending group once it is laid over it (R106, R118, R185). -/
def loopPartOk (t : LoopTables) : LoopPart → Bool
  | .script i s => decide (i < 16) && scriptOk s && t.detectors.all fun c => c.script != i || detScriptOk t c
  | .interval ms => decide (500 ≤ ms ∧ ms ≤ 5000) && ms % 100 == 0
  | .detector d c => decide (d < 24) && detectorOk t c
  | .fire c => decide (c.releaseDelay ≤ 120)

/-! ## Whole groups (R189) -/

/-- Codes of every part of the ring group, and of the loop group (Table 12-9). -/
def ringKeys : List (Nat × Nat) :=
  ((List.range 42).map fun i => (1, i + 1)) ++ ((List.range 8).map fun i => (2, i)) ++ ((List.range 5).map fun i => (3, i + 1)) ++
    [(4, 0)] ++ ((List.range 10).map fun i => (5, i)) ++ [(6, 0), (7, 0), (8, 0)]

def loopKeys : List (Nat × Nat) :=
  ((List.range 16).map fun i => (9, i)) ++ [(10, 0)] ++ ((List.range 25).map fun i => (11, i))

/-- Every part passes the checks WRITE_TABLE applies to it, taken together with the others (R189). -/
def ringTablesOk (t : RingTables) : Bool :=
  t.nodes.length == 40 && t.profiles.length == 8 && t.cooling.zones.length == 4 && t.cooling.overrides.length == 4 &&
    ringKeys.all fun k => match ringPartOf t k with | some p => ringPartOk t p | none => false

def loopTablesOk (t : LoopTables) : Bool :=
  t.scripts.length == 16 && t.detectors.length == 24 &&
    loopKeys.all fun k => match loopPartOf t k with | some p => loopPartOk t p | none => false

/-- The contents of every part of a group, in the order of Table 12-9. -/
def ringBytes (t : RingTables) : List Byte := ringKeys.flatMap fun k => ((ringPartOf t k).map RingPart.bytes).getD []
def loopBytes (t : LoopTables) : List Byte := loopKeys.flatMap fun k => ((loopPartOf t k).map LoopPart.bytes).getD []

/-- The bytes of the image (section 11.5). DESIGN CHOICE, log entry 24: the parts of both groups, then the immediate settings. -/
def imageBytes (i : Image) : List Byte :=
  ringBytes i.ring ++ loopBytes i.loop ++ encU8 i.split ++ i.policy.flatMap (fun p => encU8 p.policy.code ++ encU8 p.every) ++
    encU16 (flagBits i.enables)

/-- An image closed with the check formed over its bytes (R194). -/
def closeImage (i : Image) : Image := { i with check := some (crc16 (imageBytes i)) }

/-- Whether the check of an image matches. -/
def Image.checkOk (i : Image) : Bool :=
  match i.check with
  | some c => c == crc16 (imageBytes i)
  | none => false

/-- The image is good (R189): its check matches and every part passes its checks. -/
def imageGood (i : Image) : Bool := i.checkOk && ringTablesOk i.ring && loopTablesOk i.loop

end Sys2Proof.Machine
end

