-- ==== Sys2Proof/Machine/FireOps.lean ====
section
/-! DEFINITION. The Fire Supervisor (chapter 7): detector states, detection blind, the fire state and what every change of it does, the release
countdown, the annunciators, and the end of all forces (R162). -/

namespace Sys2Proof.Machine

/-! ## Ending forces (R162) -/

/-- A force ends, and its output is formed anew: a PWM output by the Cooling Controller, any other by the Line Unit. DESIGN
CHOICE, log entry 69: OUTPUT_FORCE comes before what follows from the output's new level. -/
def dropForce (s : State) (o : Nat) : State :=
  match s.lines.forces.getD o none with
  | none => s
  | some _ => if o < 12 then reformOne o (endForce o s) else endForce o s

/-- Every force record ends, in the order of the output codes. DESIGN CHOICE, log entries 42 and 69: what a PWM output's end changes comes with it, and the other
outputs are composed anew once after the last. -/
def dropAllForces (s : State) : State := refreshLines ((List.range 22).foldl dropForce s)

/-- How many force records stand. -/
def forceCount (s : State) : Nat := (s.lines.forces.filter Option.isSome).length

/-! ## A pending RESTART is abandoned (R190) -/

def unmark (f : UpFrame) : UpFrame := { f with restart := false }

/-- The DONE response of an abandoned RESTART is a response like any other. -/
def unmarkLink (l : Link) : Link :=
  { l with queue := l.queue.map unmark, fifo := l.fifo.map unmark,
           queueTx := l.queueTx.map fun t => { t with item := unmark t.item }
           fifoTx := l.fifoTx.map fun t => { t with item := unmark t.item } }

def abandonRestart (s : State) : State :=
  if s.mgmt.restart then
    raiseNotice (nRestartAbandoned s.fire.state) ((s.onMgmt fun m => { m with restart := false }).onLink unmarkLink)
  else s

/-! ## The fire state (R127, R128) -/

/-- The Fire Supervisor's own record on a change of state: countdown (R130), pulse (R131), silence (R133) and sounder pattern (R134). -/
def fireEnter (new : FireState) (delay : Nat) (held : Bool) (now : Nat) (f : Fire) : Fire :=
  { f with
    state := new
    countdown := if new = .releasePending then some ⟨delay, if held then none else some now⟩ else none
    pulse := if new = .released then some now else none
    silenced := if f.state.code < new.code ∨ new = .quiet then false else f.silenced
    sounder := new == .preAlarm
    sounderSince := now }

/-- HOLD is active, and DOOR is taken as closed (R129, R130). DESIGN CHOICE, log entry 54: HOLD is taken as inactive until its first report. -/
def holdActive (s : State) : Bool := inputReads s .hold == some true
def doorClosed (s : State) : Bool := inputReads s .door == some true

/-- What the fire state leaving QUIET ends (R162, R115, R190). -/
def leaveQuiet (s : State) : State := abandonRestart (loopClear (dropAllForces s)).1

/-- The fire state changes to `new`: FIRE_STATE, then every block that reads it acts (R128). -/
def fireTo (new : FireState) (s : State) : State :=
  let old := s.fire.state
  let delay := s.mgmt.loopTables.fire.releaseDelay * Config.second
  let s := raiseNotice (nFireState new) (s.onFire (fireEnter new delay (holdActive s) s.now))
  let s := if old = .quiet then gateOnset 1 s else if new = .quiet then gateEnd 1 s else s
  let s := reformAll s
  let s := if new = .quiet then s else takeBay .fire s
  let s := if old = .quiet then leaveQuiet s else s
  refreshLines s

/-! ## Sources (R127) -/

def detCfg (s : State) (d : Nat) : DetCfg := s.mgmt.loopTables.detectors.getD d defaultDetector
def detLive (s : State) (d : Nat) : DetLive := s.fire.dets.getD d (freshDet defaultDetector)
def zoneSummary (s : State) (z : Nat) : ZoneSummary := s.cell.summary.zones.getD z freshZoneSummary

/-- A supervised detector is in ALARM. -/
def detAlarm (s : State) (d : Nat) : Bool := (detCfg s d).supervised && (detLive s d).state == .alarm

/-- An alarm source exists. -/
def alarmSource (s : State) : Bool :=
  (List.range 24).any fun d => detAlarm s d &&
    ((detCfg s d).kind == .callPoint || (zoneSummary s (detCfg s d).zone).runaway ||
      (List.range 24).any fun e => e != d && detAlarm s e && (detCfg s e).zone == (detCfg s d).zone)

/-- A pre-alarm source exists. -/
def preAlarmSource (s : State) : Bool :=
  ((List.range 24).any fun d => (detCfg s d).supervised && ((detLive s d).state == .preAlarm || (detLive s d).state == .alarm)) ||
    (List.range 4).any fun z => (zoneSummary s z).runaway || (zoneSummary s z).otTrip

/-! ## Release (R129, R130) -/

/-- The countdown has expired: it runs and nothing is left of it. -/
def countdownOut (s : State) : Bool :=
  match s.fire.countdown with
  | some ⟨left, some t⟩ => ran t left s.now
  | _ => false

/-- RELEASED is entered on expiry, while DOOR reads closed. -/
def expireCountdown (s : State) : State :=
  if s.fire.state = .releasePending ∧ countdownOut s ∧ doorClosed s then fireTo .released s else s

/-- The test of R129 in ALARM. `announce` says whether an open door is announced. DESIGN CHOICE, log entry 72: RELEASE_INHIBITED comes after
FIRE_STATE and all it changes. -/
def releaseTest (announce : Bool) (s : State) : State :=
  if !s.mgmt.loopTables.fire.releaseEnabled then s
  else if doorClosed s then
    let s := fireTo .releasePending s
    if s.mgmt.loopTables.fire.releaseDelay = 0 then expireCountdown s else s
  else raiseIf announce nReleaseInhibited s

/-- The remaining time of a countdown. -/
def countdownLeft (c : Countdown) (now : Nat) : Nat :=
  match c.since with
  | some t => c.left - (now - t)
  | none => c.left

/-- The countdown follows HOLD (R130). DESIGN CHOICE, log entry 72: RELEASE_HOLD comes before an expiry at once. -/
def holdFollow (s : State) : State :=
  match s.fire.countdown with
  | none => s
  | some c =>
    if c.since.isSome = holdActive s then
      let left := countdownLeft c s.now
      let s := s.onFire fun f => { f with countdown := some ⟨left, if holdActive s then none else some s.now⟩ }
      let s := raiseNotice (nReleaseHold (holdActive s) (left / Config.second)) s
      if left = 0 then expireCountdown s else s
    else s

/-- RELEASE_PENDING at an evaluation: a release no longer enabled, or a door that does not read closed, returns to ALARM (R129, R130). DESIGN CHOICE, log
entry 72: RELEASE_INHIBITED comes after FIRE_STATE and all it changes. -/
def pendingEval (s : State) : State :=
  if !s.mgmt.loopTables.fire.releaseEnabled then fireTo .alarm s
  else if !doorClosed s then raiseNotice nReleaseInhibited (fireTo .alarm s)
  else holdFollow s

/-- One evaluation of the fire state (R127, R128). `announce` is set when an application has just set release_enabled to yes (R129). -/
def fireEval (announce : Bool) (s : State) : State :=
  match s.fire.state with
  | .quiet =>
    if alarmSource s then releaseTest true (fireTo .alarm s) else if preAlarmSource s then fireTo .preAlarm s else s
  | .preAlarm =>
    if alarmSource s then releaseTest true (fireTo .alarm s) else if preAlarmSource s then s else fireTo .quiet s
  | .alarm => releaseTest announce s
  | .releasePending => pendingEval s
  | .released => s

/-! ## Detection blind (R125) -/

/-- A detector that watches its zone. -/
def watches (s : State) (z d : Nat) : Bool :=
  let st := (detLive s d).state
  (detCfg s d).supervised && (detCfg s d).zone == z && (st == .normal || st == .preAlarm || st == .alarm)

/-- A zone is detection-blind. -/
def detBlindNow (s : State) (z : Nat) : Bool := zoneHasModule s z && !(List.range 24).any (watches s z)

def detBlindZone (s : State) (z : Nat) : State :=
  let new := detBlindNow s z
  raiseIf (s.fire.blind.getD z false != new) (nDetectionBlind z new) (s.onFire fun f => { f with blind := f.blind.set z new })

/-- Every zone's detection blind is re-evaluated, and then, once after all of them, the fault summary. DESIGN CHOICE, log entry 77: a set that passes through
empty on the way, as one zone's blind ends and another's begins, raises no FAULT_SUMMARY. -/
def detBlindEval (s : State) : State := refreshLines ((List.range 4).foldl detBlindZone s)

/-! ## Hand-overs (R120 to R124) -/

/-- The byte a step read. -/
def byteAt (results : List StepResult) (step : Nat) : Nat :=
  match results[step - 1]? with
  | some (.byte b) => b.toNat
  | _ => 0

/-- The reading of a COMPLETE hand-over; none is a fault reading (R121). -/
def readingOf (c : DetCfg) (results : List StepResult) : Option Nat :=
  let x := if c.width = 1 then byteAt results c.readingStep
    else byteAt results c.readingStep * 256 + byteAt results (c.readingStep + 1)
  if x = (if c.width = 1 then 0xFF else 0xFFFF) then none else some x

/-- The state of a smoke, heat or gas detector that reads x below its alarm threshold (R122). -/
def stateBelowAlarm (c : DetCfg) (old : DetState) (x : Nat) : DetState :=
  if c.preAlarm ≤ x ∨ (old = .preAlarm ∧ c.preAlarm - c.hysteresis ≤ x) then .preAlarm else .normal

/-- A reading is evaluated by the detector's kind (R122). -/
def evalReading (c : DetCfg) (x : Nat) (l : DetLive) : DetLive :=
  if l.latched then { l with last := some x, confirm := 0 }
  else if c.kind = .callPoint then
    if x = 0 then { l with last := some x, state := .normal } else { l with last := some x, state := .alarm, latched := true }
  else if c.alarm ≤ x then
    if 1 ≤ l.confirm then { l with last := some x, confirm := 0, state := .alarm, latched := true }
    else { l with last := some x, confirm := l.confirm + 1, state := .preAlarm }
  else { l with last := some x, confirm := 0, state := stateBelowAlarm c l.state x }

/-- The live fields after a hand-over (R120 to R123). -/
def detNext (c : DetCfg) (result : ScriptResult) (results : List StepResult) (l : DetLive) : DetLive :=
  match result with
  | .complete =>
    match readingOf c results with
    | none => { l with noAnswer := 0, last := none, confirm := 0, state := if l.latched then l.state else .fault }
    | some x => evalReading c x { l with noAnswer := 0 }
  | _ =>
    let n := min 3 (l.noAnswer + 1)
    { l with noAnswer := n, state := if n = 3 ∧ l.latched = false then .fault else l.state }

/-- The live fields of a detector take new values; a changed state raises DETECTOR_STATE (R124). -/
def setDet (d : Nat) (l : DetLive) (s : State) : State :=
  raiseIf ((detLive s d).state != l.state) (nDetectorState d l.state) (s.onFire fun f => { f with dets := f.dets.set d l })

/-- The Fire Supervisor takes a hand-over, and evaluates at once (R120, R127). DESIGN CHOICE, log entry 72: DETECTOR_STATE, then DETECTION_BLIND and
FAULT_SUMMARY, then the fire state. -/
def detHandover (d : Nat) (result : ScriptResult) (results : List StepResult) (s : State) : State :=
  fireEval false (detBlindEval (setDet d (detNext (detCfg s d) result results (detLive s d)) s))

/-- The entries' live fields brought into line with the applied Detector Table (R119). A part that was written counts as a change, its contents equal or
not (R185). -/
def detTakeUp (old new : DetCfg) (written : Bool) (l : DetLive) : DetLive :=
  match old.supervised, new.supervised with
  | _, false => ⟨.disabled, 0, 0, none, false⟩
  | false, true => ⟨.unknown, 0, 0, none, false⟩
  | true, true => if written || old != new then { l with confirm := 0 } else l

/-- R119, with `old` the Detector Table before the application and `written` the entries the application wrote. -/
def detectorsTakeUp (old : List DetCfg) (written : List Nat) (s : State) : State :=
  (List.range 24).foldl
    (fun t d => setDet d (detTakeUp (old.getD d defaultDetector) (detCfg t d) (written.contains d) (detLive t d)) t) s

/-! ## FIRE_RESET (R132) -/

/-- A detector whose last reading blocks a FIRE_RESET. -/
def blocksReset (s : State) (callPoint : Bool) (d : Nat) : Bool :=
  let c := detCfg s d
  c.supervised && (c.kind == .callPoint) == callPoint &&
    (match (detLive s d).last with
      | none => false
      | some x => if callPoint then x != 0 else decide (c.alarm ≤ x))

/-- The first detector that blocks: first those that are no call points. -/
def resetBlocker (s : State) : Option Nat :=
  match (List.range 24).find? (blocksReset s false) with
  | some d => some d
  | none => (List.range 24).find? (blocksReset s true)

/-- A detector after an accepted FIRE_RESET. -/
def detReset (c : DetCfg) (l : DetLive) : DetLive :=
  let st := if !l.latched then l.state
    else match l.last with
      | none => .fault
      | some x => if l.noAnswer = 3 then .fault else if c.kind ≠ .callPoint ∧ c.preAlarm ≤ x then .preAlarm else .normal
  { l with latched := false, confirm := 0, state := st }

/-- What an accepted FIRE_RESET does. Its notices come in the order in which R132 lists them; that FIRE_STATE's effects on other blocks come before
DETECTION_BLIND is a DESIGN CHOICE, log entry 72, and so is that the sounder resumes in the phase it then has where PRE_ALARM is kept, log entry 74. -/
def fireResetDo (s : State) : State :=
  let s := (List.range 24).foldl (fun t d => setDet d (detReset (detCfg t d) (detLive t d)) t) s
  let new : FireState := if preAlarmSource s then .preAlarm else .quiet
  let s := s.onFire fun f => { f with countdown := none, pulse := none, silenced := false }
  detBlindEval (if s.fire.state = new then s else fireTo new s)

/-! ## Meanings -/

/-- COUNTDOWN_EXPIRY (R130). -/
def execCountdownExpiry (s : State) : Host.Outcome State Fault Refusal := act s expireCountdown

/-- RELEASE_PULSE_EXPIRY (R131). -/
def execReleasePulseExpiry (s : State) : Host.Outcome State Fault Refusal :=
  act s fun s =>
    whenDue (ranOpt s.fire.pulse (2 * Config.second) s.now) (fun s => refreshLines (s.onFire fun f => { f with pulse := none })) s

/-- SOUNDER_PHASE_TOGGLE (R134). DESIGN CHOICE, log entry 74: the phase of PRE_ALARM runs on while silenced. -/
def execSounderPhaseToggle (s : State) : Host.Outcome State Fault Refusal :=
  act s fun s =>
    whenDue (s.fire.state == .preAlarm && ran s.fire.sounderSince Config.second s.now)
      (fun s => refreshLines (s.onFire fun f =>
        { f with sounder := !f.sounder, sounderSince := f.sounderSince + Config.second })) s

end Sys2Proof.Machine
end

