-- ==== Sys2Proof/Machine/LoopFlow.lean ====
section
/-! DEFINITION. The Loop Master (chapter 6) above the level of a step: how scripts go on and end, hand-overs, loop rounds, the application of the
loop group, closing, recovery and the hold. -/

namespace Sys2Proof.Machine

/-! ## Going on with a script (R107, R109) -/

/-- What a script does next: its next step goes to the bus, its bus is closed first, or it has ended. -/
inductive Settle
  | goOn
  | close (e : ScriptEnd)
  | ended (e : ScriptEnd)
  deriving DecidableEq, Repr

/-- A script at its next step, or after its last: a RELEASE closes a held bus, and so does the end of a polled script (R107, R109). -/
def settle (bus : BusState) (r : ScriptRun) : Settle :=
  match currentStep r with
  | none =>
    match r.owner with
    | .polled _ => if bus = .free then .ended ⟨r.owner, .complete, r.results⟩ else .close ⟨r.owner, .complete, r.results⟩
    | .manual => .ended ⟨r.owner, .complete, r.results⟩
  | some st =>
    if st.lead = .release then
      let e : ScriptEnd := ⟨r.owner, .complete, padResults r.steps (r.results ++ [.released])⟩
      if bus = .free then .ended e else .close e
    else .goOn

/-! ## The loop round end (R110, R126, R186) -/

/-- The fire picture test (R126). -/
def firePictureTest (s : State) : State :=
  if !s.fire.picture && s.loop.polled.all (fun d => (detLive s d).state != .unknown) then
    raiseNotice (nFirePicture s.loop.polled.length) (s.onFire fun f => { f with picture := true })
  else s

/-- A generation increments, from 65535 to 1 (R186). -/
def nextGen (g : Nat) : Nat := if 65535 ≤ g then 1 else g + 1

/-- Detector entries among the staged parts (R119). -/
def writtenDetectors : List LoopPart → List Nat
  | [] => []
  | .detector d _ :: r => d :: writtenDetectors r
  | _ :: r => writtenDetectors r

/-- Fire Settings are among the staged parts. -/
def writtenFire (l : List LoopPart) : Bool := l.any fun p => match p with | .fire _ => true | _ => false

/-- The loop group is applied if it holds a staged part (R186); the Fire Supervisor takes it up (R119, R129). An application of Fire Settings with
release_enabled yes announces an open door, be it yes over yes (R185). DESIGN CHOICE, log entry 72: every DETECTOR_STATE, then DETECTION_BLIND and
FAULT_SUMMARY, then the fire state, then TABLES_APPLIED. DESIGN CHOICE, log entry 77: the fault summary is evaluated once after all detectors and zones. -/
def applyLoopGroup (s : State) : State :=
  if s.mgmt.loopStaged = [] then s
  else
    let old := s.mgmt.loopTables
    let staged := s.mgmt.loopStaged
    let s := s.onMgmt fun m => { m with loopTables := pendingLoop m, loopStaged := [], loopGen := nextGen m.loopGen }
    let s := detBlindEval (detectorsTakeUp old.detectors (writtenDetectors staged) s)
    let s := fireEval (writtenFire staged && s.mgmt.loopTables.fire.releaseEnabled) s
    raiseNotice (nTablesApplied 2 s.mgmt.loopGen) s

/-- The loop round end event, with the round number and the elapsed time in ms since the previous one, or since the first round's start (R110). -/
def loopRoundEnd (s : State) : State :=
  let s := s.onLoop fun l =>
    { l with running := false, lastEnd := some s.now, lastEndRound := l.round
             lastElapsed := toMs (s.now - l.lastEnd.getD l.roundStart) }
  applyLoopGroup (firePictureTest s)

/-! ## The end of a script and the start of the next (R108, R112) -/

/-- A script has ended: a polled one is handed over, and ends its round if it was the last; a manual one is answered. -/
def endScript (e : ScriptEnd) (s : State) : State :=
  match e.owner with
  | .polled d =>
    let s := detHandover d e.result e.results (loopAct .idle s)
    if s.loop.running && s.loop.rest.isEmpty then loopRoundEnd s else s
  | .manual => manualEnd e s

/-- The script a quiet Loop Master starts next, if any: a queued manual script, else the next detector of the running round. -/
def startNext (s : State) : Option (ScriptRun × State) :=
  if !loopQuiet s.loop || s.loop.hold.isSome then none
  else match s.loop.manual with
    | some m => some (⟨.manual, m.steps, []⟩, s.onLoop fun l => { l with manual := some { m with running := true } })
    | none =>
      if s.loop.running then
        match s.loop.rest with
        | d :: r =>
          some (⟨.polled d, s.mgmt.loopTables.scripts.getD (detCfg s d).script [], []⟩,
            s.onLoop fun l => { l with rest := r, polled := l.polled ++ [d] })
        | [] => none
      else none

/-- A script goes on from its next step. A script that ends without a transfer lets the next one start; `fuel` bounds how many. -/
def runOn : Nat → ScriptRun → State → State
  | fuel, r, s =>
    match settle s.loop.bus r with
    | .goOn => loopAct (.running r) s
    | .close e => loopAct (.closing (some e)) s
    | .ended e =>
      let t := endScript e s
      match fuel, startNext t with
      | n + 1, some (r', s') => runOn n r' s'
      | _, _ => t

/-- No more scripts than this can end without a transfer in one event: 24 detectors and one manual script. -/
def scriptFuel : Nat := 32

/-- The Loop Master is quiet again, and whatever waits starts. -/
def loopResume (s : State) : State :=
  match startNext s with
  | some (r, s) => runOn scriptFuel r s
  | none => s

/-- A script ends, and whatever waits starts. -/
def endAndResume (e : ScriptEnd) (s : State) : State := loopResume (endScript e s)

/-! ## A step is done (R107) -/

/-- The result of a step. -/
def stepResult (st : ScriptStep) (ack : Bool) (data : Byte) : StepResult :=
  if st.read then .byte data else if ack then .ack else .notAck

/-- The start condition of an OPEN step has been given after both lines read high (R104). DESIGN CHOICE, log entry 53: the flag is cleared when the byte of
the step is done, or when the step is found stuck at a later wait. -/
def startGiven (st : ScriptStep) (s : State) : State := if st.lead = .openBus then setBusFault false s else s

/-- A step of the running script is done. A WRITE that is not acknowledged stops the script with the bus FREE. -/
def byteDone (r : ScriptRun) (st : ScriptStep) (ack : Bool) (data : Byte) (s : State) : State :=
  let s := startGiven st s
  let results := r.results ++ [stepResult st ack data]
  if st.read || ack then
    runOn scriptFuel { r with results := results } (s.onLoop (busTo (busAfter st)))
  else
    endAndResume ⟨r.owner, .noAnswer, padResults r.steps results⟩ (s.onLoop (busTo .free))

/-- The script that runs and the step it stands at. -/
def runningStep (s : State) : Option (ScriptRun × ScriptStep) :=
  match s.loop.act with
  | .running r => match currentStep r with | some st => some (r, st) | none => none
  | _ => none

/-! ## A line held low (R104, R105) -/

/-- The points at which the present activity can wait for a line. -/
def waitsAt (l : Loop) (p : LinePoint) : Bool :=
  match l.act with
  | .idle => false
  | .running r =>
    match currentStep r with
    | none => false
    | some st =>
      match p with
      | .beforeStart => st.lead == .openBus
      | .clockRelease => true
      | .repeatedStart => st.lead == .reopen
      | .stopData => st.tail == .lastStop || !st.read
  | .closing _ => p == .clockRelease || p == .stopData
  | .recovering _ _ => p == .clockRelease || p == .stopData

/-- A wait of the present activity has lasted more than 25 ms from the moment it began. -/
def stuckDue (l : Loop) (w : WaitPoint) (now : Nat) : Bool :=
  waitsAt l w.point && decide (l.actSince ≤ w.since ∧ w.since + 25 * Config.ms < now)

/-- The clock line at a wait: low while a repeated start waits for the data line, else released. -/
def clockAtWait (p : LinePoint) : Bool := p != .repeatedStart

/-- The bus is FREE again, and the script that was waiting for it, if any, ends (R104, R105). -/
def busFreed (after : Option ScriptEnd) (s : State) : State :=
  let s := loopAct .idle (s.onLoop (busTo .free))
  match after with
  | some e => endAndResume e s
  | none => loopResume s

/-- A stuck bus: a script ends BUS_STUCK and the bus is recovered; in a recovery it ends there (R104, R105, R114). DEDUCED, log entry 21: so
does a WRITE without acknowledge whose stop condition meets the stuck line. -/
def lineStuck (p : LinePoint) (s : State) : State :=
  match s.loop.act with
  | .idle => s
  | .running r =>
    let s := match currentStep r with
      | some st => if p = .beforeStart then s else startGiven st s
      | none => s
    countStuck (recoverBus (clockAtWait p) (some ⟨r.owner, .busStuck, padResults r.steps r.results⟩) false s)
  | .closing after => countStuck (recoverBus (clockAtWait p) (after.map stuckEnd) false s)
  | .recovering after byAbort => busFreed after (if byAbort then countStuck s else s)

/-! ## Rounds and the hold (R108, R113) -/

/-- The detectors a round polls, in table order (R108). -/
def polledDetectors (s : State) : List Nat := (List.range 24).filter fun d => (detCfg s d).supervised

/-- A loop round starts. -/
def loopRoundStart (s : State) : State :=
  let ds := polledDetectors s
  let s := s.onLoop fun l =>
    { l with
      round := (l.round + 1) % 65536, running := true, roundStart := s.now, fallenDue := false, rest := ds, polled := []
      dueAt := some (s.now + s.mgmt.loopTables.interval * Config.ms) }
  if ds = [] then loopRoundEnd s else loopResume s

/-- The next loop round falls due. -/
def loopDue (s : State) : Bool :=
  !s.loop.fallenDue && (match s.loop.dueAt with | some t => decide (t ≤ s.now) | none => false)

/-- An accepted LOOP_RUN enters the manual slot (R112): QUEUED behind a polled script, otherwise RUNNING. It starts at once on a quiet Loop Master, where a hold
stays in force with its timer stopped (R113); while the bus is closed or recovered with no polled script, its first step waits for the bus (DEDUCED, log entry 20). -/
def manualAccept (m : Manual) (s : State) : State :=
  if loopQuiet s.loop then
    runOn scriptFuel ⟨.manual, m.steps, []⟩
      (s.onLoop fun l => { l with manual := some { m with running := true }, hold := l.hold.map (stopHold s.now) })
  else s.onLoop fun l => { l with manual := some { m with running := (polledScript l).isNone } }

/-- The hold runs out: LOOP_HOLD_EXPIRED is raised and the bus closed (R113). DESIGN CHOICE, log entry 75: the notice is raised, and the hold ends, at the
expiry, before the closing has run. -/
def holdExpire (s : State) : State :=
  raiseNotice (nLoopHoldExpired s.loop.bus) (loopAct (.closing none) (s.onLoop fun l => { l with hold := none }))

/-! ## Meanings -/

/-- LOOP_ROUND_DUE (R108). -/
def execLoopRoundDue (s : State) : Host.Outcome State Fault Refusal :=
  act s fun s => whenDue (loopDue s) (fun s => s.onLoop fun l => { l with fallenDue := true }) s

/-- LOOP_ROUND_START (R108). -/
def execLoopRoundStart (s : State) : Host.Outcome State Fault Refusal :=
  act s fun s => whenDue (s.loop.fallenDue && loopIdle s.loop) loopRoundStart s

/-- LOOP_BYTE_DONE (R103, R107): not before the bit periods of the step have passed. -/
def execLoopByteDone (ack : Bool) (data : Byte) (s : State) : Host.Outcome State Fault Refusal :=
  act s fun s =>
    match runningStep s with
    | some (r, st) => whenDue (signalled s.loop s.now) (byteDone r st ack data) s
    | none => s

/-- LOOP_LINE_STUCK (R104). -/
def execLoopLineStuck (w : WaitPoint) (s : State) : Host.Outcome State Fault Refusal :=
  act s fun s => whenDue (stuckDue s.loop w s.now) (lineStuck w.point) s

/-- BUS_RECOVERY_DONE (R104). -/
def execBusRecoveryDone (s : State) : Host.Outcome State Fault Refusal :=
  act s fun s =>
    match s.loop.act with
    | .recovering after _ => whenDue (signalled s.loop s.now) (busFreed after) s
    | _ => s

/-- BUS_CLOSE_DONE (R105). -/
def execBusCloseDone (s : State) : Host.Outcome State Fault Refusal :=
  act s fun s =>
    match s.loop.act with
    | .closing after => whenDue (signalled s.loop s.now) (busFreed after) s
    | _ => s

/-- HOLD_EXPIRY (R113). -/
def execHoldExpiry (s : State) : Host.Outcome State Fault Refusal :=
  act s fun s => whenDue (holdDue s.loop.hold s.now) holdExpire s

end Sys2Proof.Machine
end

