-- ==== Sys2Proof/Machine/CellOps.lean ====
section
/-! DEFINITION. The Cell Supervisor (chapter 2): a sample evaluated channel by channel, CLEAR_TRIPS, the take-up of tables, the round-end work and
the Bay Summary. -/

namespace Sys2Proof.Machine

/-! ## One channel (R31 to R34) -/

/-- A cell voltage or a temperature. -/
inductive ChanKind | cell | temp
  deriving DecidableEq, Repr

/-- A cell reading, when valid (R31). -/
def cellReading (r : Nat) : Option Int := if r = 0xFFFF ∨ 5000 < r then none else some r

/-- A temperature reading, when valid (R31). -/
def tempReading (t : Int) : Option Int := if t = 0x7FFF ∨ t < -400 ∨ 1250 < t then none else some t

/-- The candidate condition K (R31). -/
def candidate (k : ChanKind) (p : Profile) (r : Option Int) : Cond :=
  match r, k with
  | none, _ => .sensorFault
  | some v, .cell =>
    if p.ovTrip ≤ v then .ovTrip else if p.ovWarn ≤ v then .ovWarn else if v ≤ p.uvTrip then .uvTrip
    else if v ≤ p.uvWarn then .uvWarn else .normal
  | some t, .temp =>
    if p.otTrip ≤ t then .otTrip else if p.otWarn ≤ t then .otWarn else if t ≤ p.coldInhibit then .coldInhibit else .normal

/-- Whether the present condition still holds (R32). -/
def condHolds (p : Profile) (r : Option Int) (c : Cond) : Bool :=
  match c, r with
  | .unknown, _ => false
  | .normal, _ => true
  | _, none => true
  | .ovWarn, some v => decide (p.ovWarn - p.vHyst ≤ v)
  | .uvWarn, some v => decide (v ≤ p.uvWarn + p.vHyst)
  | .otWarn, some t => decide (p.otWarn - p.tHyst ≤ t)
  | .coldInhibit, some t => decide (t ≤ p.coldInhibit + p.tHyst)
  | .sensorFault, some _ => false
  | _, some _ => true

/-- The condition that replaces one that no longer holds (R32). -/
def fallTo (c k : Cond) : Cond := if c = .unknown then .normal else if k.warning.rank < c.rank then k.warning else .normal

/-- The channel after the test of R32. -/
def chanFall (p : Profile) (k : Cond) (x : Chan) : Chan :=
  if condHolds p x.value x.cond then x else { x with cond := fallTo x.cond k, dwell := 0, level := none }

/-- The pending level after a sample that counts toward raising (R33). -/
def levelNext (k : Cond) (l : Option Cond) : Cond :=
  match l with
  | none => k
  | some l => if k.rank < l.rank ∨ (k.rank = l.rank ∧ k ≠ l) then k else l

/-- The channel after the comparison of R33, and the latch of R34. -/
def chanRise (p : Profile) (k : Cond) (x : Chan) : Chan :=
  if x.cond.rank < k.rank then
    let l := levelNext k x.level
    if p.dwell ≤ x.dwell + 1 then { x with cond := l, dwell := 0, level := none, latched := l.isTrip }
    else { x with dwell := x.dwell + 1, level := some l }
  else { x with dwell := 0, level := none }

/-- One channel evaluated against a reading (R31 to R34). -/
def chanEval (k : ChanKind) (p : Profile) (r : Option Int) (x : Chan) : Chan :=
  let x := { x with value := r }
  if x.latched then { x with dwell := 0, level := none } else chanRise p (candidate k p r) (chanFall p (candidate k p r) x)

/-- The channels of one kind evaluated: each present channel takes the reading of its position (R30). -/
def chansEval (k : ChanKind) (p : Profile) (present : Nat → Bool) (readings : List (Option Int)) (xs : List Chan) : List Chan :=
  xs.mapIdx fun i x => if present i then (match readings[i]? with | some r => chanEval k p r x | none => x) else x

/-! ## One module (R30, R35, R36, R41) -/

/-- Greatest and least of two values that may be absent. -/
def optMax (a b : Option Int) : Option Int :=
  match a, b with | some x, some y => some (max x y) | some x, none => some x | none, y => y
def optMin (a b : Option Int) : Option Int :=
  match a, b with | some x, some y => some (min x y) | some x, none => some x | none, y => y

def maxValue (xs : List Chan) : Option Int := xs.foldl (fun m x => optMax m x.value) none
def minValue (xs : List Chan) : Option Int := xs.foldl (fun m x => optMin m x.value) none

/-- Whether a channel of the module shows a condition. A channel that is not present is UNKNOWN (R28). -/
def ModuleRec.shows (m : ModuleRec) (c : Cond) : Bool := (m.cells ++ m.temps).any fun x => x.cond == c

/-- The module condition (R41). -/
def moduleCond (m : ModuleRec) : ModCond :=
  if m.runaway then .runaway
  else if m.shows .uvTrip || m.shows .ovTrip || m.shows .otTrip then .trip
  else if m.shows .sensorFault then .sensorFault
  else if m.shows .uvWarn || m.shows .ovWarn || m.shows .otWarn then .warn
  else if m.shows .coldInhibit then .coldInhibit
  else if m.shows .normal then .normal
  else .unknown

def profileOf (s : State) (addr : Nat) : Profile := s.mgmt.ringTables.profiles.getD (cfgOf s addr).profile defaultProfile

/-- The Module Record of an address, if it has one. -/
def recOf (s : State) (addr : Nat) : Option ModuleRec :=
  match addr with
  | 0 => none
  | k + 1 => s.cell.recs.getD k none

/-- A Module Record is changed and its condition recomputed; a change raises MODULE_CONDITION, but not from UNKNOWN to NORMAL (R41). DESIGN CHOICE, log
entry 43: a table application and the RUNAWAY test of one round end are two causes, and each change raises its notice. -/
def changeRec (addr : Nat) (f : ModuleRec → ModuleRec) (s : State) : State :=
  match recOf s addr with
  | none => s
  | some m =>
    let m' := f m
    let c := moduleCond m'
    raiseIf (m.cond != c && !(m.cond == .unknown && c == .normal)) (nModuleCondition addr c)
      (s.onCell fun x => { x with recs := x.recs.set (addr - 1) (some { m' with cond := c }) })

/-- The record after a sample (R30, R35). -/
def recSample (c : NodeCfg) (p : Profile) (d : ModuleSample) (m : ModuleRec) : ModuleRec :=
  let temps := chansEval .temp p c.tempMask.getLsbD (d.temps.map tempReading) m.temps
  { m with
    cells := chansEval .cell p c.cellMask.getLsbD (d.cells.map cellReading) m.cells
    temps := temps, status := d.status, balancing := d.balancing, heard := true, hottest := maxValue temps
    coolest := minValue temps }

/-- A MODULE sample is evaluated (R30). -/
def moduleSample (addr : Nat) (d : ModuleSample) (s : State) : State :=
  changeRec addr (recSample (cfgOf s addr) (profileOf s addr) d) s

/-- Dwell and pending level of a channel cleared. -/
def clearDwell (x : Chan) : Chan := { x with dwell := 0, level := none }

/-- A module has restarted (R36). -/
def recRestart (m : ModuleRec) : ModuleRec :=
  { m with cells := m.cells.map clearDwell, temps := m.temps.map clearDwell, history := [] }

def moduleRestart (addr : Nat) (s : State) : State := changeRec addr recRestart s

/-! ## CLEAR_TRIPS (R38) -/

/-- A latched channel's value lies beyond its threshold by the hysteresis. -/
def clearable (p : Profile) (x : Chan) : Bool :=
  match x.value, x.cond with
  | some v, .ovTrip => decide (v < p.ovTrip - p.vHyst)
  | some v, .uvTrip => decide (p.uvTrip + p.vHyst < v)
  | some t, .otTrip => decide (t < p.otTrip - p.tHyst)
  | _, _ => false

/-- A channel under CLEAR_TRIPS. A candidate that is itself a trip latches again (R34). -/
def chanClear (k : ChanKind) (p : Profile) (x : Chan) : Chan :=
  if x.latched && clearable p x then
    let c := candidate k p x.value
    { x with cond := c, latched := c.isTrip, dwell := 0, level := none }
  else x

def recClear (p : Profile) (m : ModuleRec) : ModuleRec :=
  { m with
    cells := m.cells.map (chanClear .cell p), temps := m.temps.map (chanClear .temp p)
    runaway := m.runaway && !(match m.hottest with | some t => decide (t < p.otWarn) | none => false) }

/-- The ring addresses. -/
def ringAddrs : List Nat := (List.range 40).map (· + 1)

/-- CLEAR_TRIPS on every Module Record (R38). DESIGN CHOICE, log entry 42: in address order, which is the order of the notices. -/
def clearTrips (s : State) : State := ringAddrs.foldl (fun t a => changeRec a (recClear (profileOf t a)) t) s

/-- Channels latched, and modules with RUNAWAY set, over all Module Records. -/
def latchedCount (s : State) : Nat :=
  (s.cell.recs.flatMap fun o => match o with | some m => (m.cells ++ m.temps).filter (·.latched) | none => []).length
def runawayCount (s : State) : Nat :=
  (s.cell.recs.filter fun o => match o with | some m => m.runaway | none => false).length

/-! ## Take-up of the tables (R29) -/

/-- The record of an entry that stays a MODULE. -/
def recTakeUp (c : NodeCfg) (p : Profile) (profileChanged : Bool) (m : ModuleRec) : ModuleRec :=
  let keep := fun (present : Nat → Bool) (xs : List Chan) => xs.mapIdx fun i x => if present i then x else freshChan
  let m := { m with cells := keep c.cellMask.getLsbD m.cells, temps := keep c.tempMask.getLsbD m.temps }
  if profileChanged then
    { m with
      cells := m.cells.map clearDwell, temps := m.temps.map clearDwell
      history := m.history.drop (m.history.length - p.riseWindow) }
  else m

/-- One entry at an application: `old` is its configuration before, `written` the profiles the application wrote. -/
def moduleTakeUp (old : NodeCfg) (written : List Nat) (addr : Nat) (s : State) : State :=
  let new := cfgOf s addr
  let setRec := fun (o : Option ModuleRec) => s.onCell fun x => { x with recs := x.recs.set (addr - 1) o }
  if new.role ≠ .mod then setRec none
  else if old.role ≠ .mod then setRec (some freshModule)
  else
    let changed := old.profile != new.profile || written.contains new.profile
    if changed || old.cellMask != new.cellMask || old.tempMask != new.tempMask then
      changeRec addr (recTakeUp new (profileOf s addr) changed) s
    else s

def modulesTakeUp (old : List NodeCfg) (written : List Nat) (s : State) : State :=
  ringAddrs.foldl (fun t a => moduleTakeUp (cfgIn old a) written a t) s

/-! ## Round-end work (R39 to R44) -/

/-- Rise history and RUNAWAY of one record at a round end (R39, R40). -/
def recRoundEnd (inService : Bool) (p : Profile) (m : ModuleRec) : ModuleRec :=
  match inService, m.hottest with
  | true, some t =>
    let h := m.history ++ [t]
    let h := h.drop (h.length - p.riseWindow)
    let rise := decide (2 ≤ h.length) && decide (p.riseLimit ≤ t - h.headD t) && decide (p.otWarn ≤ t)
    { m with history := h, runaway := m.runaway || rise }
  | _, _ => { m with history := [] }

/-- The round-end work on every Module Record (R39, R40). DESIGN CHOICE, log entry 42: in address order, which is the order of the notices. -/
def modulesRoundEnd (s : State) : State :=
  ringAddrs.foldl (fun t a => changeRec a (recRoundEnd ((liveOf t a).state == .inService) (profileOf t a)) t) s

/-- The in-service modules: zone and record (R42). -/
def inServiceModules (s : State) : List (Nat × ModuleRec) :=
  ringAddrs.filterMap fun a =>
    match recOf s a with
    | some m => if (liveOf s a).state = .inService then some ((cfgOf s a).zone, m) else none
    | none => none

/-- A zone part (R43). -/
def zonePart (ms : List (Nat × ModuleRec)) (z : Nat) : ZoneSummary :=
  let ms := (ms.filter fun x => x.1 == z).map Prod.snd
  { hottest := ms.foldl (fun a m => optMax a m.hottest) none, contributing := (ms.filter fun m => m.hottest.isSome).length
    runaway := ms.any (·.runaway), otTrip := ms.any fun m => m.temps.any fun x => x.cond == .otTrip }

/-- Whether an address of the Poll List lets the cell picture become valid (R44). -/
def heardOrSilent (s : State) (a : Nat) : Bool :=
  (cfgOf s a).role != .mod || (liveOf s a).state == .excluded || (liveOf s a).state == .silent ||
    (match recOf s a with | some m => m.heard | none => false)

/-- The Bay Summary of a round end (R42 to R44). -/
def composeSummary (round elapsed : Nat) (s : State) : BaySummary :=
  let ms := inServiceModules s
  let rs := ms.map Prod.snd
  { round := round, elapsed := elapsed, inService := rs.length
    counts := (List.range 7).map fun c => (rs.filter fun m => m.cond.code == c).length
    anyOv := rs.any (·.shows .ovTrip), anyUv := rs.any (·.shows .uvTrip), anyOt := rs.any (·.shows .otTrip)
    anyCold := rs.any (·.shows .coldInhibit), anySf := rs.any (·.shows .sensorFault), anyRunaway := rs.any (·.runaway)
    vmax := rs.foldl (fun a m => optMax a (maxValue m.cells)) none, vmin := rs.foldl (fun a m => optMin a (minValue m.cells)) none
    tmax := rs.foldl (fun a m => optMax a (maxValue m.temps)) none, tmin := rs.foldl (fun a m => optMin a (minValue m.temps)) none
    zones := (List.range 4).map (zonePart ms)
    picture := s.cell.summary.picture || s.mgmt.ringTables.poll.all (heardOrSilent s) }

/-- The Cell Supervisor's round-end work: histories, RUNAWAY, the summary, the cell picture (R39 to R44). -/
def cellRoundEnd (round elapsed : Nat) (s : State) : State :=
  let s := modulesRoundEnd s
  let b := composeSummary round elapsed s
  raiseIf (!s.cell.summary.picture && b.picture) (nCellPicture b.inService) (s.onCell fun x => { x with summary := b })

end Sys2Proof.Machine
end

