-- ==== Sys2Proof/Machine/RingOps.lean ====
section
/-! DEFINITION. The Ring Controller (chapter 1): frames sent and received on the two ring ports, node states, polls, transmission
opportunities, response windows and the start of a round. -/

namespace Sys2Proof.Machine

/-! ## Ports and sequences -/

def other : RingPort → RingPort
  | .a => .b | .b => .a

def portOf (r : Ring) : RingPort → RingPortState
  | .a => r.portA | .b => r.portB

def modPort (p : RingPort) (f : RingPortState → RingPortState) (r : Ring) : Ring :=
  match p with
  | .a => { r with portA := f r.portA }
  | .b => { r with portB := f r.portB }

/-- A joined ring has one poll sequence, held as that of side A (R15). -/
def joined (r : Ring) : Bool := r.splitEff == 0
def sideOfPort (r : Ring) (p : RingPort) : RingPort := if joined r then .a else p

def seqOf (r : Ring) : RingPort → PollSeq
  | .a => r.seqA | .b => r.seqB

def modSeq (p : RingPort) (f : PollSeq → PollSeq) (r : Ring) : Ring :=
  match p with
  | .a => { r with seqA := f r.seqA }
  | .b => { r with seqB := f r.seqB }

def setPhase (side : RingPort) (ph : SeqPhase) (s : State) : State := s.onRing (modSeq side fun q => { q with phase := ph })

/-- Time allowed for a reply and for a response (R10, R24). -/
def replyTime : Nat := 2 * Config.ms

/-! ## Sending -/

/-- A frame joins what a ring port sends. -/
def sendOn (p : RingPort) (t : RingTx) (now : Nat) (r : Ring) : Ring :=
  modPort p (fun x => { x with tx := x.tx ++ [t], txSince := if x.tx.isEmpty then now else x.txSince }) r

/-- The ring sequence count as a frame byte; taking it advances it (R9). -/
def ringCount (r : Ring) : Byte := BitVec.ofNat 8 r.count
def advance (r : Ring) : Ring := { r with count := nextCount r.count }

/-- A broadcast goes out on both ports as one frame (R9). -/
def broadcast (kind : Byte) (payload : List Byte) (now : Nat) (r : Ring) : Ring :=
  let t : RingTx := ⟨⟨63, 0, kind, ringCount r, payload⟩, .broadcast⟩
  sendOn .b t now (sendOn .a t now (advance r))

/-- The SPLIT broadcast (R14). -/
def sendSplit (now : Nat) (r : Ring) : Ring := broadcast kSplit (encU8 r.splitReq) now r

/-- A POLL attempt to one node on one port (R10). -/
def sendPoll (side : RingPort) (addr : Nat) (p : RingPort) (second : Bool) (now : Nat) (r : Ring) : Ring :=
  let t : RingTx := ⟨⟨BitVec.ofNat 8 addr, 0, kPoll, ringCount r, []⟩, .poll addr second⟩
  modSeq side (fun q => { q with phase := .polling addr p second }) (sendOn p t now (advance r))

/-! ## Ring-broken flag and node states (R6, R13) -/

/-- The ring-broken state (R13). -/
def ringBrokenNow (s : State) : Bool :=
  joined s.ring && ringAddrs.any fun a => (liveOf s a).state == .inService && (liveOf s a).side != (cfgOf s a).home

def ringBrokenEval (s : State) : State :=
  let b := ringBrokenNow s
  raiseIf (s.ring.broken != b) (nRingBroken b) (s.onRing fun r => { r with broken := b })

/-- The blocks that watch the nodes take up a changed state: coolant nodes (R84, R95), the sequencer (R141, R142, R148) and detection blind (R125).
DESIGN CHOICE, log entry 71: in this order. -/
def nodeReaders (addr : Nat) (convWas : Bool) (s : State) : State := detBlindEval (seqNodes convWas (coolNode addr s))

/-- A node changes state, and its live fields by `f` (R6). DESIGN CHOICE, log entry 71: RING_BROKEN comes after NODE_STATE and before what the other blocks
raise. -/
def nodeTo (addr : Nat) (st : NodeState) (f : NodeLive → NodeLive) (s : State) : State :=
  let convWas := roleInService s .conv
  let s := raiseNotice (nNodeState addr st) (s.onRing (setLive addr fun l => { f l with state := st }))
  nodeReaders addr convWas (ringBrokenEval s)

/-- Side a node has by the position in effect, where R5 or R7 sets it (R14). -/
def sideNow (s : State) (addr : Nat) : RingPort :=
  sideFor s.ring.splitEff (pollPosition s.mgmt.ringTables.poll addr) (cfgOf s addr).home

/-! ## Transmission opportunities (R21, R23) -/

/-- The head of the Downward Insert Queue would be removed unsent (R23). -/
def headRefused (s : State) (f : Frame) : Bool :=
  let st := (liveOf s f.dst.toNat).state
  st == .unconfigured || st == .excluded

/-- The Setpoint Slot frame may be sent at an opportunity of a side. -/
def slotReady (s : State) (side : RingPort) : Bool :=
  match s.ring.slot with
  | some f => joined s.ring || (liveOf s f.dst.toNat).side == side
  | none => false

/-- The head of the queue may be handled at an opportunity of a side. -/
def headReady (s : State) (side : RingPort) : Bool :=
  match s.ring.downQueue with
  | (f, _) :: _ => joined s.ring || headRefused s f || (liveOf s f.dst.toNat).side == side
  | [] => false

/-- The next poll of a sequence, or its end. -/
def firstPort (s : State) (side : RingPort) (addr : Nat) : RingPort :=
  if joined s.ring then (if s.ring.round % 10 = 0 then (cfgOf s addr).home else (liveOf s addr).side) else side

def nextPoll (side : RingPort) (s : State) : State :=
  match (seqOf s.ring side).rest with
  | [] => setPhase side .done s
  | a :: r => (s.onRing (modSeq side fun q => { q with rest := r })).onRing (sendPoll side a (firstPort s side a) false s.now)

/-- An opportunity arises in a round: it waits for its frame, or passes at once when there is none to send (R21). -/
def opportunity (side : RingPort) (s : State) : State :=
  if slotReady s side || headReady s side then setPhase side .opportunity s else nextPoll side s

/-- The refused heads of the queue are removed, each with INSERT_REFUSED (R23). -/
def refuseHeads (nodes : List NodeLive) : List (Frame × FramePort) → List (Frame × FramePort) × List Notice
  | [] => ([], [])
  | (f, p) :: r =>
    let st := (liveIn nodes f.dst.toNat).state
    if st == .unconfigured || st == .excluded then
      let x := refuseHeads nodes r
      (x.1, nInsertRefused f.dst.toNat st.code :: x.2)
    else ((f, p) :: r, [])

def recheckHead (s : State) : State :=
  let x := refuseHeads s.ring.nodes s.ring.downQueue
  raiseAll x.2 (s.onRing fun r => { r with downQueue := x.1 })

/-- The Ring Controller takes the slot's frame (R21, R71). -/
def sendSlot (side : RingPort) (f : SlotFrame) (s : State) : State :=
  let own := f.src == 0
  let f' := if own then { f with seq := ringCount s.ring } else f
  let p := (liveOf s f.dst.toNat).side
  let s := s.onRing fun r => sendOn p ⟨slotToFrame f', .slot⟩ s.now (if own then advance r else r)
  slotTaken f' (setPhase side .sending (s.onRing fun r => { r with slot := none }))

/-- The head of the queue is sent on its destination's current side (R21, R23). -/
def sendHead (side : RingPort) (f : Frame) (from_ : FramePort) (s : State) : State :=
  let d := f.dst.toNat
  setPhase side .sending
    (s.onRing fun r => sendOn (liveOf s d).side ⟨f, .command d from_⟩ s.now { r with downQueue := r.downQueue.drop 1 })

/-! ## Rounds (R8, R14, R15) -/

/-- Nothing is being sent, awaited or held on the ring. -/
def ringQuiet (r : Ring) : Bool :=
  r.seqA.phase == .idle && r.seqB.phase == .idle && r.portA.tx.isEmpty && r.portB.tx.isEmpty

/-- The addresses a round polls: the Poll List entries that are not EXCLUDED. -/
def toPoll (s : State) (l : List Nat) : List Nat := l.filter fun a => (liveOf s a).state != .excluded

/-- The position requested takes effect, and sets current sides (R14). -/
def sidesAtStart (s : State) : State :=
  let old := s.ring.splitEff
  let new := s.ring.splitReq
  let t := s.mgmt.ringTables
  s.onRing fun r =>
    { r with
      splitEff := new
      nodes := r.nodes.mapIdx fun i l =>
        if new = 0 ∧ old = 0 then l else { l with side := sideFor new (pollPosition t.poll (i + 1)) (cfgIn t.nodes (i + 1)).home } }

/-- A round starts: SPLIT if one is due, SYNC on both ports (R8, R14). -/
def roundStart (s : State) : State :=
  let s := s.onRing fun r =>
    { r with
      round := (r.round + 1) % 65536, running := true, roundStart := s.now, fallenDue := false, overrun := false
      dueAt := some (s.now + s.mgmt.ringTables.interval * Config.ms) }
  let s := if s.ring.splitPending then s.onRing fun r => sendSplit s.now { r with splitPending := false } else s
  let s := ringBrokenEval (sidesAtStart s)
  let poll := s.mgmt.ringTables.poll
  let k := s.ring.splitEff
  s.onRing fun r =>
    broadcast kSync (encU16 r.round) s.now
      { r with
        seqA := ⟨.sync, toPoll s (if k = 0 then poll else poll.take (k - 1))⟩
        seqB := if k = 0 then idleSeq else ⟨.sync, toPoll s (poll.drop (k - 1))⟩ }

/-- A round that fell due while a frame or a window was in progress starts once both have ended (R8). DESIGN CHOICE, log entry 41: in split mode once
both sides are quiet. -/
def startIfDue (s : State) : State :=
  if s.ring.fallenDue && !s.ring.running && ringQuiet s.ring then roundStart s else s

/-- An opportunity ends: the sequence goes on, or a round that waited starts. -/
def endOpportunity (side : RingPort) (s : State) : State :=
  if s.ring.running then nextPoll side s else startIfDue (setPhase side .idle s)

/-- At an opportunity at most one frame is sent (R21). -/
def takeOpportunity (side : RingPort) (s : State) : State :=
  match slotReady s side, s.ring.slot with
  | true, some f => sendSlot side f s
  | _, _ =>
    let s := recheckHead s
    match headReady s side, s.ring.downQueue with
    | true, (f, p) :: _ => sendHead side f p s
    | _, _ => endOpportunity side s

/-- An opportunity exists on a side: one has arisen in a round, or no round runs and the side's port is at rest (R21). DESIGN CHOICE, log entry 41: in
split mode an idle side has one even while a round that has fallen due waits for the other side. -/
def opportunityNow (r : Ring) (side : RingPort) : Bool :=
  match (seqOf r side).phase with
  | .opportunity => true
  | .idle => !r.running && (if joined r then r.portA.tx.isEmpty && r.portB.tx.isEmpty else (portOf r side).tx.isEmpty)
  | _ => false

/-! ## Polls (R10 to R12) -/

/-- A poll ends missed (R11). -/
def pollMissed (addr : Nat) (s : State) : State :=
  let l := liveOf s addr
  let n := min 3 (l.missed + 1)
  let s := s.onRing (setLive addr fun l => { l with missed := n })
  if l.state = .inService ∧ n = 3 then nodeTo addr .silent id s else s

/-- An attempt is unanswered (R11, R15). -/
def attemptFailed (side : RingPort) (addr : Nat) (p : RingPort) (second : Bool) (s : State) : State :=
  if joined s.ring && !second then s.onRing (sendPoll side addr (other p) true s.now)
  else opportunity side (pollMissed addr s)

/-- An attempt is answered: missed becomes 0, and in a joined ring current side becomes the port of the attempt (R11, R12). DESIGN
CHOICE, log entry 71: the ring-broken flag is evaluated before the sample is handed on. -/
def attemptAnswered (addr : Nat) (p : RingPort) (s : State) : State :=
  ringBrokenEval (s.onRing (setLive addr fun l => { l with missed := 0, side := if joined s.ring then p else l.side }))

/-- The wait of a sequence, if one is open. -/
def waitOf (r : Ring) (side : RingPort) : Option (Nat × RingPort × Bool × Nat) :=
  match (seqOf r side).phase with
  | .waiting a p second since => some (a, p, second, since)
  | _ => none

/-- The side on which a reply of a node is awaited. -/
def awaitedSide (r : Ring) (addr : Nat) : Option RingPort :=
  match waitOf r .a, waitOf r .b with
  | some (a, _), some (b, _) => if a = addr then some .a else if b = addr then some .b else none
  | some (a, _), none => if a = addr then some .a else none
  | none, some (b, _) => if b = addr then some .b else none
  | none, none => none

/-- A frame whose sync byte came within a wait is still being received (R10). -/
def frameHeld (r : Ring) (limit : Nat) : Bool :=
  [r.portA, r.portB].any fun x => match x.rx.syncAt with | some t => decide (t ≤ limit) | none => false

/-- The wait of a side has run out. -/
def waitOver (s : State) (since : Nat) : Bool := ran since replyTime s.now && !frameHeld s.ring (since + replyTime)

/-- A frame received in time did not answer the wait of a side, and the 2 ms have passed: the attempt is unanswered (R10). DESIGN CHOICE, log entry 62: where
frames come in on both ports at once, the first that proves to be no reply ends the attempt. -/
def lapseSide (syncAt : Nat) (s : State) (side : RingPort) : State :=
  match waitOf s.ring side with
  | some (a, p, second, since) =>
    if waitOver s since && decide (syncAt ≤ since + replyTime) then attemptFailed side a p second s else s
  | none => s

/-- Both sides are looked at. DESIGN CHOICE, log entry 66: one frame that leaves the attempts of both sides unanswered ends the one of side A first. -/
def waitLapse (syncAt : Nat) (s : State) : State := lapseSide syncAt (lapseSide syncAt s .a) .b

/-! ## Receiving (R1, R2) -/

def countPort (p : RingPort) (f : PortCounters → PortCounters) (s : State) : State :=
  s.onRing (modPort p fun x => { x with rx := { x.rx with counters := f x.rx.counters } })

def addFragment (c : PortCounters) : PortCounters := { c with fragments := satInc c.fragments }
def addCheck (c : PortCounters) : PortCounters := { c with checkErrors := satInc c.checkErrors }
def addAddress (c : PortCounters) : PortCounters := { c with addressErrors := satInc c.addressErrors }
def addKind (c : PortCounters) : PortCounters := { c with kindErrors := satInc c.kindErrors }

/-- What becomes of a valid frame (R2). -/
inductive Screen | silently | addressError | kindError | passes
  deriving DecidableEq, Repr

def screen (s : State) (f : Frame) : Screen :=
  let a := f.src.toNat
  let st := (liveOf s a).state
  if a = 0 then .silently
  else if 40 < a ∨ f.dst ≠ 0 then .addressError
  else if f.kind ≠ kSample ∧ f.kind ≠ kSetpointAck ∧ f.kind ≠ kNodeRsp then .kindError
  else if st = .unconfigured then .addressError
  else if st = .excluded then .silently
  else if f.kind = kSetpointAck ∧ (cfgOf s a).role ≠ .conv then .kindError
  else .passes

/-- The sync byte was received: the port is open, and was when the byte came, since no frame is in progress at its opening (R26, R180, R192). DESIGN CHOICE,
log entry 78: one that comes at the very moment of the opening is received. -/
def hears (rx : Receiver) (syncAt : Nat) : Bool := rx.isOpen && decide (rx.openedAt ≤ syncAt)

/-- The sync byte was received, and its moment is one at which the frame is complete in time (R1, R168). -/
def inTime (rx : Receiver) (limit syncAt now : Nat) : Bool := hears rx syncAt && decide (syncAt ≤ now ∧ now ≤ syncAt + limit)

def ringInTime (s : State) (p : RingPort) (syncAt : Nat) : Bool := inTime (portOf s.ring p).rx Config.ms syncAt s.now

/-- The receiver is searching again. -/
def searching (p : RingPort) (s : State) : State := s.onRing (modPort p fun x => { x with rx := { x.rx with syncAt := none } })

/-- A valid frame arrives: screened, and if it passes and is of the kind of the row, given to `deliver`. -/
def ringFrame (kind : Byte) (p : RingPort) (syncAt : Nat) (f : Frame) (deliver : State → State) (s : State) : State :=
  let s := searching p s
  waitLapse syncAt
    (match screen s f with
    | .silently => s
    | .addressError => countPort p addAddress s
    | .kindError => countPort p addKind s
    | .passes => if f.kind = kind then deliver s else s)

/-- The node a check error is charged to (R1). -/
def chargedNode (r : Ring) (p : RingPort) : Option Nat := (waitOf r (sideOfPort r p)).map (·.1)

/-- A frame with a bad check (R1). -/
def checkError (p : RingPort) (s : State) : State :=
  match chargedNode s.ring p with
  | some a => s.onRing (setLive a fun l => { l with checkErrors := satInc l.checkErrors })
  | none => countPort p addCheck s

/-- A frame that is discarded: its check does not match, or the screening discards it (R1, R2). DESIGN CHOICE, log entry 4: a frame that passes the screening
is none of these, and this command only sets the receiver searching for it. -/
def ringDiscard (p : RingPort) (syncAt : Nat) (f : Frame) (check : Check) (s : State) : State :=
  if frameCheck f = check then ringFrame 0 p syncAt f id s
  else waitLapse syncAt (checkError p (searching p s))

/-- Where the search begun again inside a header finds a sync byte: the moment that byte arrived, bytes of `byteTime` following one another
(R1, R168). -/
def resync (header : List Byte) (syncAt byteTime : Nat) : Option Nat :=
  match header.idxOf? 0xA5#8 with
  | some i => some (syncAt + byteTime * (i + 1))
  | none => none

/-- A header whose length field exceeds 56. -/
def lengthError (header : List Byte) : Bool := header.length == 5 && decide (56 < (header.getD 4 0).toNat)

/-! ## The sequence check (R16) -/

/-- The successor of a count. -/
def successor (l : Nat) : Nat := if l = 63 then 1 else l + 1

/-- The gap before a count, counting around the cycle 1 to 63. -/
def gap (l c : Nat) : Nat := (c + 63 - successor l) % 63

/-- What the check finds: a duplicate, or an accepted frame with the gap before it and whether it shows a restart. -/
inductive SeqCheck
  | duplicate
  | accepted (lost : Nat) (restart : Bool)
  deriving DecidableEq, Repr

def seqCheck (last : Option Nat) (c : Nat) : SeqCheck :=
  match last with
  | none => .accepted 0 false
  | some l =>
    if c = l then .duplicate
    else if c = 0 then .accepted 0 true
    else if c = successor l then .accepted 0 false
    else .accepted (gap l c) false

/-- A node has restarted (R17). -/
def nodeRestarted (addr : Nat) (s : State) : State :=
  let role := (cfgOf s addr).role
  let s := raiseNotice (nNodeRestart role addr) s
  if role = .mod then moduleRestart addr s else s

/-- The check applied to a frame: `next` handles an accepted one. `gaps` says that its gap counts as lost samples; for a NODE_RSP that no response window
captures the counter does not change (R24). -/
def checked (gaps : Bool) (addr c : Nat) (next : State → State) (s : State) : State :=
  match seqCheck (liveOf s addr).lastCount c with
  | .duplicate => s
  | .accepted lost restart =>
    let s := s.onRing (setLive addr fun l => { l with lastCount := some c, lost := if gaps then satAdd l.lost lost else l.lost })
    next (if restart then nodeRestarted addr s else s)

/-! ## Samples (R17, R18) -/

/-- The highest set position of a mask, counted from 1; 0 when none is set. -/
def highestSet (n : Nat) (bit : Nat → Bool) : Nat := (List.range n).foldl (fun m i => if bit i then i + 1 else m) 0

/-- A reply's payload checked against the node's role (R18): what it is well-formed as. -/
inductive Payload
  | mod (d : ModuleSample) | cool (d : CoolantSample) | meter (d : MeterSample) | conv (d : ConverterSample)
  deriving DecidableEq, Repr

def payloadOf (c : NodeCfg) (p : List Byte) : Option Payload :=
  match c.role with
  | .unused => none
  | .mod =>
    match parseModule p with
    | some d =>
      if highestSet 16 c.cellMask.getLsbD ≤ d.cells.length ∧ highestSet 4 c.tempMask.getLsbD ≤ d.temps.length then some (.mod d)
      else none
    | none => none
  | .cool => (parseCoolant p).map .cool
  | .meter => (parseMeter p).map .meter
  | .conv => (parseConverter p).map .conv

/-- The aux source in use changes (R137, R92). -/
def auxTo (backup : Bool) (s : State) : State :=
  if s.seqr.auxBackup = backup then s
  else reformAll (raiseNotice (nAuxSource backup) (s.onSeqr fun q => { q with auxBackup := backup }))

/-- A METER sample replaces the meter record and is used in three places (R137). -/
def meterSample (d : MeterSample) (s : State) : State :=
  let n := s.mgmt.ringTables.grid.nominalV
  let m : MeterRec := ⟨d.v1, d.v2, d.v3, ratio d.v1 n, ratio d.v2 n, ratio d.v3 n, d.freq, d.rocof, d.power, d.backup, s.now⟩
  auxTo d.backup (healthySample m (stagesSample m (s.onSeqr fun q => { q with meter := some m })))

/-- A well-formed sample handed to its owner (R18). DESIGN CHOICE, log entry 52: the Connection Sequencer takes a CONVERTER sample before the Setpoint Gate
does. -/
def deliver (addr : Nat) (x : Payload) (s : State) : State :=
  match x with
  | .mod d => moduleSample addr d s
  | .cool d => coolantSample addr d s
  | .meter d => meterSample d s
  | .conv d => converterState d.state (converterSample d s)

/-- The mark that ON_CHANGE watches (section 10.5). -/
def markOf (s : State) (addr : Nat) : Payload → Nat
  | .mod _ => match recOf s addr with | some m => m.cond.code | none => 0
  | .cool d => d.status.toNat
  | .meter d => d.backup.toNat
  | .conv d => d.state.code

def roleIdx : Role → Nat
  | .mod => 0 | .cool => 1 | .meter => 2 | .conv => 3 | .unused => 0

/-- Whether an offered sample is forwarded (R176). -/
def forwards (p : Forward) (r : ForwardRec) (mark : Nat) : Bool :=
  match p.policy with
  | .all => true
  | .never => false
  | .onChange => r.mark != some mark || decide (p.every ≤ r.rounds)

/-- The sample is offered to the Station Link Unit (R176). -/
def offer (addr : Nat) (x : Payload) (f : Frame) (s : State) : State :=
  let p := s.link.policy.getD (roleIdx (cfgOf s addr).role) ⟨.onChange, 50⟩
  let mark := markOf s addr x
  if forwards p (s.link.records.getD (addr - 1) ⟨none, 0⟩) mark then
    passUp .station f (s.onLink fun l => { l with records := l.records.set (addr - 1) ⟨some mark, 0⟩ })
  else s

/-- A well-formed reply (R18). -/
def wellFormedReply (addr : Nat) (x : Payload) (f : Frame) (s : State) : State :=
  let st := (liveOf s addr).state
  let s := s.onRing (setLive addr fun l => { l with malformed := false })
  let s := if st = .absent ∨ st = .silent then nodeTo addr .inService id s else s
  offer addr x f (deliver addr x s)

/-- A malformed reply (R18). -/
def malformedReply (addr : Nat) (len : Nat) (s : State) : State :=
  let l := liveOf s addr
  raiseIf (!l.malformed) (nMalformed (cfgOf s addr).role addr len)
    (s.onRing (setLive addr fun l => { l with malformed := true, malformedCount := satInc l.malformedCount }))

/-- The payload of a reply is handled (R18). -/
def replyPayload (addr : Nat) (f : Frame) (s : State) : State :=
  match payloadOf (cfgOf s addr) f.payload with
  | some x => wellFormedReply addr x f s
  | none => malformedReply addr f.payload.length s

/-- An accepted SAMPLE that answers no open wait (R17). -/
def lateSample (addr : Nat) (s : State) : State := s.onRing (setLive addr fun l => { l with lost := satInc l.lost })

/-- An accepted SAMPLE: a reply ends the wait of its node, anything else is late (R10, R11, R17, R18). -/
def sampleTaken (syncAt : Nat) (f : Frame) (s : State) : State :=
  let a := f.src.toNat
  match awaitedSide s.ring a with
  | none => lateSample a s
  | some side =>
    match waitOf s.ring side with
    | some (_, p, _, since) =>
      if syncAt ≤ since + replyTime then
        opportunity side (replyPayload a f (attemptAnswered a p (setPhase side .done s)))
      else lateSample a s
    | none => lateSample a s

/-! ## Node commands (R22, R24) -/

/-- A NODE_CMD routed to the ring (R22). -/
def nodeCmdInsert (from_ : FramePort) (f : Frame) (s : State) : State :=
  let d := f.dst.toNat
  let st := (liveOf s d).state
  if d = 63 then raiseNotice (nInsertRefused d 0) s
  else if st = .unconfigured ∨ st = .excluded then raiseNotice (nInsertRefused d st.code) s
  else if 8 ≤ s.ring.downQueue.length then raiseNotice (nInsertFull d) s
  else s.onRing fun r => { r with downQueue := r.downQueue ++ [(f, from_)] }

/-- The open response window of a side. -/
def windowOf (r : Ring) (side : RingPort) : Option (Nat × RingPort × FramePort × Nat) :=
  match (seqOf r side).phase with
  | .window d p f since => some (d, p, f, since)
  | _ => none

/-- The window of a side captures a response of `addr` on `port` whose sync byte came within it (R24). -/
def captures (r : Ring) (side port : RingPort) (addr syncAt : Nat) : Option FramePort :=
  match windowOf r side with
  | some (d, p, f, since) => if d = addr ∧ p = port ∧ since ≤ syncAt ∧ syncAt ≤ since + replyTime then some f else none
  | none => none

/-- A response window is open for the frame (R24). -/
def captured (r : Ring) (port : RingPort) (syncAt : Nat) (f : Frame) : Bool :=
  (captures r (sideOfPort r port) port f.src.toNat syncAt).isSome

/-- An accepted NODE_RSP: captured by the window of its node, or discarded (R24). -/
def rspTaken (port : RingPort) (syncAt : Nat) (f : Frame) (s : State) : State :=
  let side := sideOfPort s.ring port
  match captures s.ring side port f.src.toNat syncAt with
  | some up => endOpportunity side (passUp up f s)
  | none => s

/-- The response window of a port has run out, and no frame that came within it is still being received (R24). -/
def windowOver (s : State) (port : RingPort) : Bool :=
  match windowOf s.ring (sideOfPort s.ring port) with
  | some (_, p, _, since) => p == port && ran since replyTime s.now &&
      !(match (portOf s.ring port).rx.syncAt with | some t => decide (since ≤ t ∧ t ≤ since + replyTime) | none => false)
  | none => false

/-! ## The end of a sending -/

/-- No broadcast of a round is still going out on the ports of a side. -/
def syncSent (r : Ring) (side : RingPort) : Bool :=
  if joined r then r.portA.tx.isEmpty && r.portB.tx.isEmpty else (portOf r side).tx.isEmpty

/-- The last byte of a frame has left a ring port (R10, R21, R24). -/
def ringSent (port : RingPort) (t : RingTx) (s : State) : State :=
  let s := s.onRing (modPort port fun x => { x with tx := x.tx.drop 1, txSince := s.now })
  let side := sideOfPort s.ring port
  match t.purpose with
  | .broadcast =>
    if (seqOf s.ring side).phase = .sync then (if syncSent s.ring side then opportunity side s else s) else startIfDue s
  | .poll a second =>
    if (liveOf s a).state = .excluded then opportunity side s else setPhase side (.waiting a port second s.now) s
  | .slot => endOpportunity side s
  | .command d from_ => setPhase side (.window d port from_ s.now) s

/-- The frame a ring port is sending, when its last byte has left (10 bits a byte at 1 000 000 bit/s, R1). -/
def ringTxDue (s : State) (port : RingPort) : Option RingTx :=
  let x := portOf s.ring port
  match x.tx with
  | [] => none
  | t :: _ => if ran x.txSince (10 * frameLength t.frame) s.now then some t else none

/-- The next round falls due. -/
def roundDueNow (s : State) : Bool :=
  !s.ring.fallenDue && (match s.ring.dueAt with | some t => decide (t ≤ s.now) | none => false)

/-- A round falls due (R8). -/
def roundDue (s : State) : State :=
  if s.ring.running then s.onRing fun r => { r with fallenDue := true, overrun := true }
  else if ringQuiet s.ring then roundStart s
  else s.onRing fun r => { r with fallenDue := true }

/-! ## Meanings -/

/-- RING_LENGTH_ERROR (R1). -/
def execRingLengthError (p : RingPort) (syncAt : Nat) (header : List Byte) (s : State) : Host.Outcome State Fault Refusal :=
  act s fun s =>
    whenDue (ringInTime s p syncAt && lengthError header)
      (fun s => waitLapse syncAt ((countPort p addFragment s).onRing
        (modPort p fun x => { x with rx := { x.rx with syncAt := resync header syncAt 10 } }))) s

/-- RING_FRAGMENT_TIMEOUT (R1). -/
def execRingFragmentTimeout (p : RingPort) (syncAt : Nat) (s : State) : Host.Outcome State Fault Refusal :=
  act s fun s =>
    whenDue (hears (portOf s.ring p).rx syncAt && ran syncAt Config.ms s.now)
      (fun s => waitLapse syncAt (countPort p addFragment (searching p s))) s

/-- RING_FRAME_DISCARDED (R1, R2). -/
def execRingFrameDiscarded (p : RingPort) (syncAt : Nat) (f : Frame) (check : Check) (s : State) :
    Host.Outcome State Fault Refusal :=
  act s fun s => whenDue (ringInTime s p syncAt) (ringDiscard p syncAt f check) s

/-- SAMPLE_RECEIVED (R2, R10, R16 to R18). -/
def execSampleReceived (p : RingPort) (syncAt : Nat) (f : Frame) (s : State) : Host.Outcome State Fault Refusal :=
  act s fun s =>
    whenDue (ringInTime s p syncAt)
      (ringFrame kSample p syncAt f (checked true f.src.toNat f.seq.toNat (sampleTaken syncAt f))) s

/-- NODE_RSP_RECEIVED (R2, R16, R24). -/
def execNodeRspReceived (p : RingPort) (syncAt : Nat) (f : Frame) (s : State) : Host.Outcome State Fault Refusal :=
  act s fun s =>
    whenDue (ringInTime s p syncAt)
      (ringFrame kNodeRsp p syncAt f (checked (captured s.ring p syncAt f) f.src.toNat f.seq.toNat (rspTaken p syncAt f))) s

/-- SETPOINT_ACK_RECEIVED (R25). -/
def execSetpointAckReceived (p : RingPort) (syncAt : Nat) (f : Frame) (s : State) : Host.Outcome State Fault Refusal :=
  act s fun s => whenDue (ringInTime s p syncAt) (ringFrame kSetpointAck p syncAt f (ackTaken f)) s

/-- ROUND_DUE (R8). -/
def execRoundDue (s : State) : Host.Outcome State Fault Refusal := act s fun s => whenDue (roundDueNow s) roundDue s

/-- RING_TX_DONE (R10, R21, R24). -/
def execRingTxDone (p : RingPort) (s : State) : Host.Outcome State Fault Refusal :=
  act s fun s =>
    match ringTxDue s p with
    | some t => ringSent p t s
    | none => s

/-- REPLY_TIMEOUT (R10, R11). -/
def execReplyTimeout (p : RingPort) (s : State) : Host.Outcome State Fault Refusal :=
  act s fun s =>
    match waitOf s.ring (sideOfPort s.ring p) with
    | some (a, q, second, since) =>
      whenDue (q == p && waitOver s since) (attemptFailed (sideOfPort s.ring p) a q second) s
    | none => s

/-- TRANSMISSION_OPPORTUNITY (R21, R23). -/
def execTransmissionOpportunity (p : RingPort) (s : State) : Host.Outcome State Fault Refusal :=
  act s fun s => whenDue (opportunityNow s.ring (sideOfPort s.ring p)) (takeOpportunity (sideOfPort s.ring p)) s

/-- RESPONSE_WINDOW_TIMEOUT (R24). -/
def execResponseWindowTimeout (p : RingPort) (s : State) : Host.Outcome State Fault Refusal :=
  act s fun s => whenDue (windowOver s p) (endOpportunity (sideOfPort s.ring p)) s

end Sys2Proof.Machine
end

