-- ==== Sys2Proof/Machine/InputOps.lean ====
section
/-! DEFINITION. The Line Unit (chapter 9), the part that takes events: raw changes, debounce and reports of the contact inputs, force expiry and
readback expiry. -/

namespace Sys2Proof.Machine

def inputLive (s : State) (i : Input) : InputLive := s.lines.inputs.getD (inputIdx i) (freshInput false)
def modInput (i : Input) (f : InputLive → InputLive) (l : Lines) : Lines := { l with inputs := l.inputs.modify (inputIdx i) f }

/-- BREAKER_AUX is reported (R146 to R149, R153). `first` is the first report after reset. -/
def breakerReport (first closed : Bool) (s : State) : State :=
  if closed then
    match s.seqr.state with
    | .closing => seqEnterTested .connected s
    | .precharge | .dcReady | .recloseWait => takeBay .breakerStray s
    | .open_ | .opening | .lockedOut =>
      if s.seqr.stray.isSome then s else strayStart (if first then .startupClosed else .breakerStray) s
    | .connected | .tripping => s
  else strayTest (tripTest (takeGrid .breakerOpened s))

/-- The readers of an input act on its report (R158). DESIGN CHOICE, log entry 64: on a report of ESTOP the Envelope Unit acts before the Connection
Sequencer. -/
def inputReaders (i : Input) (first on : Bool) (s : State) : State :=
  match i with
  | .breakerAux => breakerReport first on s
  | .contPosAux | .contNegAux => openingTest s
  | .estop => if on then takeBay .estop (gateOnset 3 s) else gateEnd 3 s
  | .door | .hold => fireEval false s

/-- A debounced level is reported (R158). -/
def inputReport (i : Input) (first : Bool) (s : State) : State :=
  let on := inputReads s i == some true
  refreshLines (inputReaders i first on (raiseNotice (nInputState i on) s))

/-- The raw level changes: the stability timer starts from 0 while the Line Unit watches (R157). -/
def rawChange (i : Input) (level : Bool) (s : State) : State :=
  if (inputLive s i).raw = level then s
  else s.onLines (modInput i fun x => { x with raw := level, timer := if s.lines.control then some s.now else none })

/-- The stability timer has reached 20 ms (R157). -/
def debounced (i : Input) (s : State) : State :=
  let x := inputLive s i
  let s := s.onLines (modInput i fun x => { x with timer := none, level := some x.raw })
  if x.level = some x.raw then s else inputReport i (x.level.isNone) s

/-- The force on an output has lasted 60 s (R162). -/
def forceDue (s : State) (o : Nat) : Bool :=
  match s.lines.forces.getD o none with
  | some f => ran f.since (60 * Config.second) s.now
  | none => false

/-- A disagreement without a fault has lasted 200 ms. -/
def readbackDue (r : Readback) (now : Nat) : Bool := !r.fault && ranOpt r.since (200 * Config.ms) now

/-- A disagreement has lasted 200 ms: its timer stops, the fault is set, the fault summary re-evaluated, and the fault taken as a trip cause (R163, R164).
DESIGN CHOICE, log entry 65: FAULT_SUMMARY comes before the notices of the trip. -/
def readbackExpire (c : Contactor) (s : State) : State :=
  let s := raiseNotice (nReadbackFault c true) (s.onLines fun l => setReadback c ⟨none, true⟩ l)
  refreshLines (takeBay .readback (refreshLines s))

/-! ## Meanings -/

/-- INPUT_RAW_CHANGE (R157). The level of a pin changes whether or not the Line Unit watches it. -/
def execInputRawChange (i : Input) (level : Bool) (s : State) : Host.Outcome State Fault Refusal := .next (rawChange i level s)

/-- DEBOUNCE_STABLE (R157, R158). -/
def execDebounceStable (i : Input) (s : State) : Host.Outcome State Fault Refusal :=
  act s fun s => whenDue (ranOpt (inputLive s i).timer (20 * Config.ms) s.now) (debounced i) s

/-- FORCE_EXPIRY (R162). -/
def execForceExpiry (o : Nat) (s : State) : Host.Outcome State Fault Refusal :=
  act s fun s => whenDue (forceDue s o) (fun s => refreshLines (dropForce s o)) s

/-- READBACK_TIMEOUT (R163). -/
def execReadbackTimeout (c : Contactor) (s : State) : Host.Outcome State Fault Refusal :=
  act s fun s => whenDue (readbackDue (readbackOf s.lines c) s.now) (readbackExpire c) s

end Sys2Proof.Machine
end

