-- ==== Sys2Proof/Machine/RoundEnd.lean ====
section
/-! DEFINITION. The ring round end (R20, R186): the application of the ring group with every owner's take-up, the Cell Supervisor's work, and the
reactions to the Bay Summary. -/

namespace Sys2Proof.Machine

/-! ## The Node Table (R5) -/

/-- The live fields an entry gets when its role changes (R5). -/
def nodeRenewed (side : RingPort) (st : NodeState) : NodeLive :=
  { state := st, missed := 0, lastCount := none, side := side, malformed := false, lost := 0, checkErrors := 0, malformedCount := 0 }

/-- What an application does to one entry: `moved` says that its home side or its Poll List position changed (R5). DESIGN CHOICE, log entry 40: an entry
whose role becomes NONE takes the current side of R14, as the other changed entries do. -/
def nodeTakeUp (old new : NodeCfg) (moved : Bool) (side : RingPort) (l : NodeLive) : NodeLive :=
  if old.role = new.role then (if moved then { l with side := side } else l)
  else if new.role = .unused then nodeRenewed side .unconfigured
  else if old.role ≠ .unused ∧ l.state = .excluded then nodeRenewed side .excluded
  else nodeRenewed side .absent

/-- The live fields of every entry brought into line; each changed state raises NODE_STATE (R5, R6). DESIGN CHOICE, log entry 63: the ring-broken flag is
evaluated once, after all entries (ringTakeUp). -/
def nodesTakeUp (old : RingTables) (s : State) : State :=
  let t := s.mgmt.ringTables
  ringAddrs.foldl (fun s a =>
    let moved := (cfgIn old.nodes a).home != (cfgOf s a).home || pollPosition old.poll a != pollPosition t.poll a
    let l := nodeTakeUp (cfgIn old.nodes a) (cfgOf s a) moved (sideNow s a) (liveOf s a)
    raiseIf ((liveOf s a).state != l.state) (nNodeState a l.state) (s.onRing (setLive a fun _ => l))) s

/-- The Setpoint Slot is emptied when no CONVERTER entry has its frame's destination (R5). -/
def slotTakeUp (s : State) : State :=
  match s.ring.slot with
  | some f => if roleAddr s .conv = some f.dst.toNat then s else s.onRing fun r => { r with slot := none }
  | none => s

/-- A node that changes role loses its forwarding record (R176). -/
def forwardTakeUp (old : List NodeCfg) (s : State) : State :=
  s.onLink fun l =>
    { l with records := l.records.mapIdx fun i r =>
        if (cfgIn old (i + 1)).role = (cfgOf s (i + 1)).role then r else ⟨none, 0⟩ }

/-! ## The other owners -/

/-- New Line Settings: an input whose meaning changes is reported (R156). DESIGN CHOICE, log entry 57: in the order BREAKER_AUX to HOLD, each reader seeing
every input under the new settings. -/
def lineTakeUp (old : LineCfg) (s : State) : State :=
  [Input.breakerAux, .contPosAux, .contNegAux, .estop, .door, .hold].foldl (fun s i =>
    if (inputLive s i).level.isSome && highMeans old i != highMeans s.mgmt.ringTables.line i then inputReport i false s else s) s

/-- The Link Settings are among the staged parts. -/
def writtenRate (l : List RingPart) : Bool := l.any fun p => match p with | .rate _ => true | _ => false

/-- A frame being received is discarded as a fragment. -/
def dropPartial (x : Receiver) : Receiver :=
  if x.syncAt.isSome then { x with syncAt := none, counters := addFragment x.counters } else x

/-- A bit rate is applied, be it the one in force (R185): a frame being received on the Station Link is discarded as a fragment (R167). From `rateAt` on no frame
whose sync byte came before is taken (cutByRate). Of one whose sync byte the state does not hold FRAME_PORT_FRAGMENT tells, which then needs no 250 ms
(log entry 32). -/
def rateTakeUp (written : Bool) (s : State) : State :=
  if written then s.onLink fun l => { l with rateAt := some s.now, station := dropPartial l.station } else s

/-- Running clocks of the sequencer are compared with their new limits at once (R139). -/
def gridTakeUp (s : State) : State :=
  let s := if healthyDue s then seqEnterTested .closing s else s
  if blindDue s then takeGrid .meterLost s else s

/-- The silence timer is compared with a new silence_time (R66). -/
def silenceTakeUp (s : State) : State := if silenceDue s then silenceExpire s else s

/-- The zones whose named coolant node has changed its state at the application are re-evaluated (R84). `live` are the live fields before. -/
def coolNodesTakeUp (live : List NodeLive) (s : State) : State :=
  coolSettle s (fun z =>
    match (zoneCfg s.mgmt.ringTables.cooling z).node with
    | some a => (liveIn live a).state != (liveOf s a).state
    | none => false) s

/-- Profiles among the staged parts (R29). -/
def writtenProfiles : List RingPart → List Nat
  | [] => []
  | .profile i _ :: r => i :: writtenProfiles r
  | _ :: r => writtenProfiles r

/-- Every owner takes up the new tables (R186); `old` are the tables replaced and `staged` the parts that replace them. DESIGN CHOICE, log entry 61: in
this order, the Line Unit's report of changed inputs late in it, while every reader sees the inputs under the new settings from the first. DESIGN CHOICE, log entry 77: the
fault summary is evaluated once after the changes of each owner. -/
def ringTakeUp (old : RingTables) (staged : List RingPart) (convWas : Bool) (s : State) : State :=
  let live := s.ring.nodes
  let s := ringBrokenEval (slotTakeUp (forwardTakeUp old.nodes (nodesTakeUp old s)))
  let s := modulesTakeUp old.nodes (writtenProfiles staged) s
  let s := silenceTakeUp (ratingCut s)
  let s := detBlindEval (seqNodes convWas (coolNodesTakeUp live (coolingTakeUp old.cooling s)))
  rateTakeUp (writtenRate staged) (lineTakeUp old.line (gridTakeUp s))

/-- The ring group is applied if it holds a staged part (R186). -/
def applyRingGroup (s : State) : State :=
  if s.mgmt.ringStaged = [] then s
  else
    let old := s.mgmt.ringTables
    let staged := s.mgmt.ringStaged
    let convWas := roleInService s .conv
    let s := s.onMgmt fun m => { m with ringTables := pendingRing m, ringStaged := [], ringGen := nextGen m.ringGen }
    let s := ringTakeUp old staged convWas s
    raiseNotice (nTablesApplied 1 s.mgmt.ringGen) s

/-! ## The round end (R20) -/

/-- The rounds since forwarding of every configured node increment (R176). -/
def forwardTick (s : State) : State :=
  s.onLink fun l =>
    { l with records := l.records.mapIdx fun i r =>
        if (cfgOf s (i + 1)).role = .unused then r else { r with rounds := min 255 (r.rounds + 1) } }

/-- The readers of the Bay Summary react to it. The Envelope Unit uses the bay cooling state as it stood at the publication (R50). DESIGN CHOICE, log
entry 45: the envelope first, then the cooling pass, then the evaluation of the fire state. -/
def summaryReactions (s : State) : State :=
  let b := s.cell.summary
  fireEval false (coolingPass b (envelopeCompute b s.cool.bay s))

/-- A ring round has ended: every sequence of it is done (R15, R20). -/
def roundOver (r : Ring) : Bool := r.running && r.seqA.phase == .done && (joined r || r.seqB.phase == .done)

/-- The round-end event, and the start of a round that fell due meanwhile (R8, R20). -/
def roundEnd (s : State) : State :=
  let round := s.ring.round
  let elapsed := toMs (s.now - s.ring.lastEnd.getD s.ring.roundStart)
  let duration := toMs (s.now - s.ring.roundStart)
  let s := s.onRing fun r =>
    { r with running := false, seqA := idleSeq, seqB := idleSeq, lastEnd := some s.now, lastEndRound := round }
  let s := forwardTick (summaryReactions (cellRoundEnd round elapsed (applyRingGroup s)))
  if s.ring.fallenDue then raiseIf s.ring.overrun (nRoundOverrun duration) (roundStart s) else s

/-! ## Meanings -/

/-- ROUND_END (R20). -/
def execRoundEnd (s : State) : Host.Outcome State Fault Refusal := act s fun s => whenDue (roundOver s.ring) roundEnd s

end Sys2Proof.Machine
end

