-- ==== Sys2Proof/Machine/StartUp.lean ====
section
/-! DEFINITION. The Management Unit (chapter 11), the part that keeps the store and runs resets and start-up (R187 to R192). -/

namespace Sys2Proof.Machine

/-! ## Resets (R190, R191) -/

/-- A record being written when a reset begins is left without the check that closes it (R189, R191). -/
def cutStore (st : StoreState) (x : Store) : Store :=
  match st with
  | .idle => x
  | .writingImage => { x with image := { x.image with check := none } }
  | .writingLatch => { x with latch := { x.latch with check := none } }

/-- Every block loses its volatile state: outputs inactive, ports closed, bus lines released (R191). The levels of the pins, the RST line, the
clock, the store and the queue of commands are not the part's volatile state. -/
def resetTo (ph : Phase) (s : State) : State :=
  { State.reset with
    now := s.now, phase := ph, rst := s.rst, cool := freshCooling defaultCooling s.now
    lines := freshLines (s.lines.inputs.map (·.raw)), store := cutStore s.mgmt.store s.store, pending := s.pending }

/-- The DONE response of a pending RESTART has not left yet (R190). -/
def restartOwed (l : Link) : Bool :=
  l.queue.any (·.restart) || l.fifo.any (·.restart) ||
    (match l.queueTx with | some t => t.item.restart | none => false) ||
    (match l.fifoTx with | some t => t.item.restart | none => false)

/-- The store is IDLE and nothing waits for it. -/
def storeQuiet (m : Mgmt) : Bool := m.store == .idle && m.latchWaiting.isNone && m.save.isNone

/-- The reset of an accepted RESTART can be taken (R190). -/
def restartReady (s : State) : Bool := s.mgmt.restart && !restartOwed s.link && storeQuiet s.mgmt

/-! ## Start-up (R189, R192) -/

/-- Every block takes its reset state with the tables given (step 1). -/
def loadBlocks (rt : RingTables) (lt : LoopTables) (split : Nat) (policy : List Forward) (enables : List Bool) (bad : Bool)
    (s : State) : State :=
  { s with
    phase := .running, ring := freshRing rt split, cell := freshCell rt, env := freshEnvelope rt, gate := freshGate
    cool := freshCooling rt.cooling s.now, loop := freshLoop, fire := freshFire lt, seqr := freshSequencer s.store.latch
    lines := freshLines (s.lines.inputs.map (·.raw)), link := freshLink policy enables
    mgmt := freshMgmt rt lt bad s.store.latch }

/-- Step 1: a good image is loaded, a bad one replaced by the defaults (R189). -/
def loadStore (s : State) : State :=
  let i := s.store.image
  if imageGood i then loadBlocks i.ring i.loop i.split i.policy i.enables false s
  else raiseNotice (nStoreFault true) (loadBlocks defaultRingTables defaultLoopTables 0 defaultForward defaultEnables true s)

/-- Step 2: the lines are brought under control. -/
def takeControl (s : State) : State :=
  refreshLines (s.onLines fun l =>
    { l with control := true, inputs := l.inputs.map fun x => { x with timer := some s.now } })

/-- Step 3: the ports are opened, the silence timer starts and the SPLIT frame is broadcast. -/
def openPorts (s : State) : State :=
  let rate := s.mgmt.ringTables.rate
  let s := s.onRing fun r =>
    { r with
      portA := { r.portA with rx := openReceiver s.now r.portA.rx }
      portB := { r.portB with rx := openReceiver s.now r.portB.rx } }
  let s := s.onLink fun l =>
    serviceTake s.now (stationTake s.now rate
      { l with station := openReceiver s.now l.station, service := openReceiver s.now l.service })
  let s := s.onGate fun g => { g with silenceSince := some s.now }
  s.onRing (sendSplit s.now)

/-- Steps 4 and 5: when the first rounds fall due. -/
def firstRounds (s : State) : State :=
  (s.onRing fun r => { r with dueAt := some (s.now + 10 * Config.ms) }).onLoop fun l =>
    { l with dueAt := some (s.now + 500 * Config.ms) }

/-- The start-up order (R192). -/
def startUp (s : State) : State := firstRounds (openPorts (takeControl (loadStore s)))

/-! ## The store (R187, R188) -/

/-- The image write of a SAVE ends (R187). -/
def imageDone (j : SaveJob) (s : State) : State :=
  let bad := s.mgmt.storeFault
  let s := (s.onStore fun x => { x with image := j.image }).onMgmt fun m =>
    storeStart { m with store := .idle, save := none, storeFault := false }
  let s := if bad then refreshLines (raiseNotice (nStoreFault false) s) else s
  answerAs false j.port j.src j.id 0x1D .done (encU16 j.ringGen ++ encU16 j.loopGen) s

/-- A latch record write ends (R188). -/
def latchDone (r : LatchRec) (s : State) : State :=
  (s.onStore fun x => { x with latch := r }).onMgmt fun m =>
    storeStart { m with store := .idle, latchWriting := none, lastLatch := r }

/-! ## Meanings -/

/-- POWER_ON (R191). -/
def execPowerOn (s : State) : Host.Outcome State Fault Refusal :=
  .next (if s.phase = .off then resetTo (if s.rst then .inReset else .startUpDue) s else s)

/-- RST_ASSERT (R191). -/
def execRstAssert (s : State) : Host.Outcome State Fault Refusal :=
  .next (let t := { s with rst := true }
    if s.phase = .off ∨ s.phase = .inReset then t else resetTo .inReset t)

/-- RST_RELEASE (R191). -/
def execRstRelease (s : State) : Host.Outcome State Fault Refusal :=
  .next { s with rst := false, phase := if s.phase = .inReset then .startUpDue else s.phase }

/-- RESTART_RESET_TAKEN (R190, R191). -/
def execRestartResetTaken (s : State) : Host.Outcome State Fault Refusal :=
  act s fun s => whenDue (restartReady s) (resetTo .startUpDue) s

/-- START_UP (R192). -/
def execStartUp (s : State) : Host.Outcome State Fault Refusal := .next (if s.phase = .startUpDue then startUp s else s)

/-- IMAGE_WRITE_DONE (R187). -/
def execImageWriteDone (s : State) : Host.Outcome State Fault Refusal :=
  act s fun s =>
    match s.mgmt.store, s.mgmt.save with
    | .writingImage, some j => imageDone j s
    | _, _ => s

/-- LATCH_WRITE_DONE (R188). -/
def execLatchWriteDone (s : State) : Host.Outcome State Fault Refusal :=
  act s fun s =>
    match s.mgmt.store, s.mgmt.latchWriting with
    | .writingLatch, some r => latchDone r s
    | _, _ => s

/-- POWER_LOSS (R191). -/
def execPowerLoss (s : State) : Host.Outcome State Fault Refusal :=
  .next (if s.phase = .off then s else resetTo .off s)

end Sys2Proof.Machine
end

