-- ==== Sys2Proof/Machine/LinkPorts.lean ====
section
/-! DEFINITION. The Station Link Unit (chapter 10): receiving and routing on the two frame ports, authority, and the end of a sending. -/

namespace Sys2Proof.Machine

/-! ## Receivers -/

def rxOf (l : Link) : FramePort → Receiver
  | .station => l.station | .service => l.service

def modRx (p : FramePort) (f : Receiver → Receiver) (l : Link) : Link :=
  match p with
  | .station => { l with station := f l.station }
  | .service => { l with service := f l.service }

def countLink (p : FramePort) (f : PortCounters → PortCounters) (s : State) : State :=
  s.onLink (modRx p fun x => { x with counters := f x.counters })

/-- A frame of a frame port is complete or given up, and its receiver is searching again. -/
def linkSearching (p : FramePort) (s : State) : State := s.onLink (modRx p fun x => { x with syncAt := none })

/-- Bit rate of a frame port, and the time of one byte of ten bits in microseconds (R167). -/
def rateOf (s : State) : FramePort → Nat
  | .station => s.mgmt.ringTables.rate | .service => 115200
def byteTime (rate : Nat) : Nat := 10 * Config.second / rate

/-- The sync byte of a frame on the Station Link came before a bit rate was applied: at the application the frame was discarded as a fragment (R167). -/
def cutByRate (s : State) (p : FramePort) (syncAt : Nat) : Bool :=
  p == .station && (match s.link.rateAt with | some t => decide (syncAt ≤ t) | none => false)

/-- The port was open when the sync byte came at `syncAt`, and the frame is complete in time and no fragment (R167, R168). -/
def frameInTime (s : State) (p : FramePort) (syncAt : Nat) : Bool :=
  inTime (rxOf s.link p) (250 * Config.ms) syncAt s.now && !cutByRate s p syncAt

/-- A valid frame is first reported to the silence timer of its port (R168, R172, R77). -/
def validFrame (p : FramePort) (s : State) : State :=
  match p with
  | .station => silenceFrame s
  | .service => s.onLink fun l => { l with serviceSince := if l.holder = .service then some s.now else none }

/-! ## Routing (R169) -/

/-- Addresses 41 to 62 route nowhere; a byte above 63 is no address at all, and is treated alike (log entry 9). -/
def badAddress (a : Byte) : Bool := decide (41 ≤ a.toNat ∧ a.toNat ≠ 63)

/-- Where a valid frame goes. -/
inductive Route | addressError | request | setpoint | nodeCmd | kindError
  deriving DecidableEq, Repr

def route (f : Frame) : Route :=
  let d := f.dst.toNat
  if badAddress f.src || badAddress f.dst then .addressError
  else if d = 0 ∧ f.kind = kMgmtReq then (if f.payload.length < 2 then .kindError else .request)
  else if isRingAddr d ∧ f.kind = kSetpoint then .setpoint
  else if d ≠ 0 ∧ f.kind = kNodeCmd then .nodeCmd
  else .kindError

/-- A valid frame that routes as `want`, or is discarded and counted (R168, R169). A frame that routes elsewhere is not this row's step. -/
def linkFrame (want : Route) (p : FramePort) (f : Frame) (deliver : State → State) (s : State) : State :=
  match route f with
  | .addressError => countLink p addAddress (validFrame p (linkSearching p s))
  | .kindError => countLink p addKind (validFrame p (linkSearching p s))
  | r => if r = want then deliver (validFrame p (linkSearching p s)) else s

/-- A NODE_CMD is tested against authority (R170). -/
def nodeCmdTaken (p : FramePort) (f : Frame) (s : State) : State :=
  if s.link.holder = p then nodeCmdInsert p f s else raiseNotice (nAuthorityDeniedLink f.dst.toNat p) s

/-! ## Authority (R171, R172) -/

/-- The holder changes: AUTHORITY is raised, `answered` hands back the response of the request, if one made the change, and then the forces end and the
silence timers are adjusted, in the order of section 10.8. Reason 1 is a request, 2 service silence. -/
def authorityTo (h : FramePort) (reason : Nat) (answered : State → State) (s : State) : State :=
  if s.link.holder = h then answered s
  else
    let s := s.onLink fun l => { l with holder := h, serviceSince := if h = .service then some s.now else none }
    silenceAuthority (dropAllForces (answered (raiseNotice (nAuthority reason h) s)))

/-! ## The end of a sending (R174, R175) -/

/-- The last byte of a frame has left: ten bits a byte at the rate in force when it began. -/
def upSent (t : UpTx) (now : Nat) : Bool := decide (frameLength t.item.frame * 10 * Config.second ≤ (now - t.since) * t.rate)

def upDue (tx : Option UpTx) (now : Nat) : Bool :=
  match tx with
  | some t => upSent t now
  | none => false

/-! ## Meanings -/

/-- FRAME_PORT_LENGTH_ERROR (R167, R168). -/
def execFramePortLengthError (p : FramePort) (syncAt : Nat) (header : List Byte) (s : State) : Host.Outcome State Fault Refusal :=
  act s fun s =>
    whenDue (frameInTime s p syncAt && lengthError header)
      (fun s => (countLink p addFragment s).onLink
        (modRx p fun x => { x with syncAt := resync header syncAt (byteTime (rateOf s p)) })) s

/-- A frame whose sync byte came at `syncAt` is a fragment: its 250 ms are over (R168), or a bit rate was applied to the Station Link since (R167). -/
def fragmentDue (s : State) (p : FramePort) (syncAt : Nat) : Bool :=
  ran syncAt (250 * Config.ms) s.now || cutByRate s p syncAt

/-- FRAME_PORT_FRAGMENT (R167, R168). -/
def execFramePortFragment (p : FramePort) (syncAt : Nat) (s : State) : Host.Outcome State Fault Refusal :=
  act s fun s =>
    whenDue (hears (rxOf s.link p) syncAt && fragmentDue s p syncAt) (fun s => countLink p addFragment (linkSearching p s)) s

/-- STATION_FRAME_DISCARDED (R167 to R169, R181). -/
def execStationFrameDiscarded (p : FramePort) (x : TimedFrame) (check : Check) (s : State) : Host.Outcome State Fault Refusal :=
  act s fun s =>
    whenDue (frameInTime s p x.syncAt)
      (fun s => if frameCheck x.frame = check then linkFrame .kindError p x.frame id s else countLink p addCheck (linkSearching p s)) s

/-- SETPOINT_RECEIVED (R67, R167, R169). -/
def execSetpointReceived (p : FramePort) (x : TimedFrame) (s : State) : Host.Outcome State Fault Refusal :=
  act s fun s => whenDue (frameInTime s p x.syncAt) (linkFrame .setpoint p x.frame (setpointTaken p x.frame)) s

/-- NODE_CMD_RECEIVED (R167, R169, R170). -/
def execNodeCmdReceived (p : FramePort) (x : TimedFrame) (s : State) : Host.Outcome State Fault Refusal :=
  act s fun s => whenDue (frameInTime s p x.syncAt) (linkFrame .nodeCmd p x.frame (nodeCmdTaken p x.frame)) s

/-- SERVICE_SILENCE_EXPIRY (R172). -/
def execServiceSilenceExpiry (s : State) : Host.Outcome State Fault Refusal :=
  act s fun s =>
    whenDue (s.link.holder == .service && ranOpt s.link.serviceSince (300 * Config.second) s.now) (authorityTo .station 2 id) s

/-- STATION_TX_DONE (R167, R174). -/
def execStationTxDone (s : State) : Host.Outcome State Fault Refusal :=
  act s fun s =>
    whenDue (upDue s.link.queueTx s.now)
      (fun s => s.onLink fun l => stationTake s.now s.mgmt.ringTables.rate { l with queueTx := none }) s

/-- SERVICE_TX_DONE (R175). -/
def execServiceTxDone (s : State) : Host.Outcome State Fault Refusal :=
  act s fun s =>
    whenDue (upDue s.link.fifoTx s.now) (fun s => s.onLink fun l => serviceTake s.now { l with fifoTx := none }) s

end Sys2Proof.Machine
end

