-- ==== Sys2Proof/Machine/Reports.lean ====
section
/-! DEFINITION. What software can read: the results of the reading requests as bytes (R45, R64, R80, R101, R116, R135, R154, R165, R179, R183,
R184), each field at its width of section 12.2. A result is a list of fields. -/

namespace Sys2Proof.Machine

/-! ## Fields and parts (section 12.5) -/

/-- A record that may be absent as a whole: a presence byte, and its fields, as 0 when it is absent (section 12.2). -/
def optRecord {α : Type} (o : Option α) (zero : α) (fields : α → List (List Byte)) : List (List Byte) :=
  match o with
  | some x => encU8 1 :: fields x
  | none => encU8 0 :: (fields zero).map fun b => b.map fun _ => 0

/-- Milliseconds and seconds since a moment, and milliseconds left of a span. -/
def msSince (t now : Nat) : Nat := toMs (now - t)
def secSince (t now : Nat) : Nat := (now - t) / Config.second
def msLeft (t dur now : Nat) : Nat := toMs (t + dur - now)

/-- Fields packed into parts of at most `cap` bytes, whole fields only. -/
def packInto (cap : Nat) : List (List Byte) → List Byte → List (List Byte)
  | [], acc => [acc]
  | f :: r, acc => if acc.length + f.length ≤ cap then packInto cap r (acc ++ f) else acc :: packInto cap r f


/-! ## Sections of READ_STATUS (R183) -/

def ringSection (s : State) : List (List Byte) :=
  let count := fun (st : NodeState) => encU8 (s.ring.nodes.filter fun l => l.state == st).length
  [encU16 s.ring.lastEndRound, encBool s.ring.running, encU32 s.mgmt.ringTables.interval, encU8 s.ring.splitEff,
   encU8 s.ring.splitReq, encBool s.ring.broken, count .unconfigured, count .absent, count .inService, count .silent,
   count .excluded]

def zonePartFields (z : ZoneSummary) : List (List Byte) :=
  [optS16 z.hottest, encU8 z.contributing, encBool z.runaway, encBool z.otTrip]

def optMv (o : Option Int) : List Byte := optU16 (o.map Int.toNat)

def cellSection (s : State) : List (List Byte) :=
  let b := s.cell.summary
  [encU16 b.round, encU32 b.elapsed, encU8 b.inService] ++ b.counts.map encU8 ++
  [encU8 (flagBits [b.anyOv, b.anyUv, b.anyOt, b.anyCold, b.anySf, b.anyRunaway]), optMv b.vmax, optMv b.vmin, optS16 b.tmax,
   optS16 b.tmin] ++ b.zones.flatMap zonePartFields ++ [encBool b.picture, encU16 (latchedCount s)]

/-- The active gate set, gate g in bit g − 1 of two bytes (DEDUCED, log entry 25). -/
def gateBits (gates : List Nat) : Nat := flagBits (gateCodes.map gates.contains)

def envelopeSection (s : State) : List (List Byte) :=
  let e := s.env
  let factors := match e.factors with
    | some f => [f.fvChg, f.fvDis, f.hot, f.cold, f.cool, f.sf, f.blind].map encU16
    | none => List.replicate 7 (optU16 none)
  [encU16 e.chg, encU16 e.dis, encU16 e.chgTarget, encU16 e.disTarget] ++ factors ++ [encU16 (gateBits e.gates), encU16 e.lastRound]

def setFlags (f : SetpointFlags) : List Byte := encU8 (flagBits [f.clamped, f.reissued, f.fallback])

/-- The silence timer. -/
def silenceTime (s : State) : Nat :=
  match s.gate.silenceSince with
  | some t => s.now - t
  | none => s.gate.silenceStopped

def setpointSection (s : State) : List (List Byte) :=
  let g := s.gate
  let noFlags : SetpointFlags := ⟨false, false, false⟩
  optRecord g.requested ⟨0, 0, 0, .station, false⟩
    (fun r => [encS16 r.p, encS16 r.q, encU8 r.tag, encU8 r.origin.code, encBool r.fallback]) ++
  optRecord g.forwarded ⟨0, 0, 0, noFlags, .station⟩
    (fun r => [encS16 r.p, encS16 r.q, encU8 r.tag, setFlags r.flags, encU8 r.origin.code]) ++
  optRecord g.inFlight (0, s.now) (fun r => [encU8 r.1, encU32 (msSince r.2 s.now)]) ++
  [encU8 g.ackCount] ++
  optRecord g.lastAck ⟨0, 0, 0, 0⟩ (fun a => [encU8 a.tag, encS16 a.p, encS16 a.q, [a.result]]) ++
  optRecord g.conv .stopped (fun c => [encU8 c.code]) ++
  [encU32 (silenceTime s / Config.second), encBool g.silent] ++
  optRecord s.ring.slot ⟨0, 0, 0, 0, 0, 0, noFlags⟩ (fun f => [encS16 f.p, setFlags f.flags])

def coolingSection (s : State) : List (List Byte) :=
  [encU8 s.cool.bay.code, encU8 s.seqr.auxBackup.toNat] ++
    s.cool.outs.flatMap fun x => [encU16 x.applied, encU8 x.source.code]

/-- The detector being polled, or next to be polled, while a round runs. DESIGN CHOICE, log entry 76: with none it reads as the absent value. -/
def polledNow (l : Loop) : Option Nat :=
  if l.running then
    match polledScript l with
    | some d => some d
    | none => l.rest.head?
  else none

/-- The Loop Master in READ_STATUS (R116). DESIGN CHOICE, log entry 59: while a further LOOP_RUN runs on the held bus the hold is reported in force, with the
time that was left when its timer stopped. DESIGN CHOICE, log entry 8: the mark of the manual slot is 0 for QUEUED and 1 for RUNNING. DESIGN CHOICE,
log entry 76: with no hold in force the hold time remaining reads as the absent value 0x80000000. -/
def loopSection (s : State) : List (List Byte) :=
  let l := s.loop
  [encU16 l.lastEndRound, encBool l.running, optU8 (polledNow l), encU8 l.bus.code] ++
  optRecord l.manual ⟨.station, 0, 0, [], false⟩ (fun m => [[m.id], encBool m.running]) ++
  [encBool l.hold.isSome, optU32 (l.hold.map fun h => toMs (holdLeft h s.now)), encBool l.busFault]

def fireSection (s : State) : List (List Byte) :=
  let f := s.fire
  let count := fun (st : DetState) =>
    encU8 ((List.range 24).filter fun d => (detCfg s d).supervised && (detLive s d).state == st).length
  [encU8 f.state.code] ++
  optRecord f.countdown ⟨0, none⟩ (fun c => [encU32 (toMs (countdownLeft c s.now)), encBool c.since.isNone]) ++
  [encBool f.pulse.isSome, encBool f.silenced, encBool f.picture, encU8 (flagBits f.blind), count .disabled, count .unknown,
   count .normal, count .preAlarm, count .alarm, count .fault]

/-- How long a state's step timer runs (Table 8-3). -/
def stepTime : SeqState → Nat
  | .precharge => 5 * Config.second | .closing => 500 * Config.ms | .tripping => 500 * Config.ms | .opening => 2 * Config.second
  | _ => 0

/-- A stage in READ_STATUS (R154): whether its timer runs and its time in violation, 0 while it is idle (DEDUCED, log entry 25). -/
def stageFields (s : State) (i : Nat) : List (List Byte) :=
  match s.seqr.stages.getD i none, s.seqr.meter with
  | some t, some m => [encBool true, encU32 (msSince t m.at_)]
  | some _, none => [encBool true, encU32 0]
  | none, _ => [encBool false, encU32 0]

/-- The sequencer in READ_STATUS (R154). DEDUCED, log entry 25: a clock or timer that does not run is absent, and no pending lockout reason is code 0. -/
def sequencerSection (s : State) : List (List Byte) :=
  let q := s.seqr
  [encU8 q.state.code, encU8 q.reclose, encU8 q.reason.code, encU8 (q.pendingLockout.getD .none).code] ++
  optRecord q.trip ⟨.uv1, .grid, .recloseWait⟩ (fun t => [encU8 t.cause.code, encU8 t.cls.code, encU8 t.cont.code]) ++
  [optU32 (q.stepSince.map fun t => msLeft t (stepTime q.state) s.now), optU32 (q.connectedSince.map fun t => secSince t s.now),
   encBool q.blind, optU32 (q.blindSince.map fun t => msSince t s.now), encU8 q.auxBackup.toNat] ++
  optRecord q.meter ⟨0, 0, 0, 0, 0, 0, 0, 0, 0, false, 0⟩
    (fun m => [encU16 m.v1, encU16 m.v2, encU16 m.v3, encU32 m.r1, encU32 m.r2, encU32 m.r3, encU16 m.freq, encS16 m.rocof,
               encS16 m.power, encU8 m.backup.toNat, encU32 (toMs m.at_)]) ++
  optRecord q.conv ⟨0, 0, 0, 0, .stopped, 0, 0⟩
    (fun c => [encU16 c.bus, encU16 c.string, encS16 c.p, encS16 c.q, encU8 c.state.code, [c.flags], encU32 (toMs c.at_)]) ++
  (List.range 6).flatMap (stageFields s) ++ [encU8 q.rocofRun, encBool q.healthySince.isSome,
    optU32 (q.healthySince.map fun t => msSince t s.now)] ++
  optRecord q.stray ⟨.breakerStray, 0⟩ (fun y => [encU8 y.cause.code])

/-- The outputs that may be forced (section 9.3). -/
def forceable (o : Nat) : Bool := decide (o < 22) && o != 12 && o != 13 && o != 17

def faultBits (f : FaultSummary) : Nat :=
  flagBits [f.detectorFault, f.detectionBlind, f.pumpLocked, f.lockedOut, f.readback, f.store]

/-- The disagreement time of a contactor in ms, absent in agreement. With the fault set it is the 200 ms at which the timer stopped (section 9.6, R165; log
entry 39). -/
def disagreement (r : Readback) (now : Nat) : Option Nat := if r.fault then some 200 else r.since.map fun t => msSince t now

def linesSection (s : State) : List (List Byte) :=
  let l := s.lines
  ([Input.breakerAux, .contPosAux, .contNegAux, .estop, .door, .hold].map fun i =>
    optU8 ((inputReads s i).map Bool.toNat)) ++
  ((List.range 10).flatMap fun i => [encBool (outLevel s (12 + i)), encBool (demand s (12 + i))]) ++
  (((List.range 22).filter forceable).flatMap fun o =>
    optRecord (l.forces.getD o none) ⟨0, s.now⟩ fun f =>
      [if o < 12 then encU16 f.value else encU8 f.value, encU32 (msLeft f.since (60 * Config.second) s.now)]) ++
  [encBool l.pos.fault, encBool l.neg.fault, optU32 (disagreement l.pos s.now), optU32 (disagreement l.neg s.now), encBool l.cut,
   encU8 (faultBits l.faults)]

def linkSection (s : State) : List (List Byte) :=
  let l := s.link
  let count := fun (r : Nat) => encU8 (l.queue.filter fun f => f.cls.rank == r).length
  [encU8 (holderCode l.holder), encU32 (match l.serviceSince with | some t => secSince t s.now | none => 0), count 0, count 1,
   count 2, count 3, encU8 l.fifo.length, encU32 s.mgmt.ringTables.rate] ++
  (l.policy.flatMap fun p => [encU8 p.policy.code, encU8 p.every]) ++ [encU16 (flagBits l.enables)]

def managementSection (s : State) : List (List Byte) :=
  let m := s.mgmt
  [encU16 m.ringGen, encU16 m.loopGen, encU8 m.ringStaged.length, encU8 m.loopStaged.length, encU8 m.store.code,
   encBool m.save.isSome, encBool m.storeFault, encBool m.lastLatch.flag, encU8 m.lastLatch.reason]

/-- The fields of a section by its code. -/
def sectionFields (s : State) : Nat → Option (List (List Byte))
  | 1 => some (ringSection s) | 2 => some (cellSection s) | 3 => some (envelopeSection s) | 4 => some (setpointSection s)
  | 5 => some (coolingSection s) | 6 => some (loopSection s) | 7 => some (fireSection s) | 8 => some (sequencerSection s)
  | 9 => some (linesSection s) | 10 => some (linkSection s) | 11 => some (managementSection s)
  | _ => none

/-- The results of READ_STATUS; none where the section or part does not exist. -/
def statusResults (s : State) (sec part : Nat) : Option (List Byte) :=
  match sectionFields s sec with
  | none => none
  | some fs =>
    let parts := packInto 50 fs []
    match parts[part]? with
    | some b => some (encU8 sec ++ encU8 part ++ encU8 parts.length ++ b)
    | none => none

/-! ## Other reading requests (R45, R101, R135, R184) -/

/-- READ_NODE. -/
def nodeResults (s : State) (a : Nat) : List Byte :=
  let l := liveOf s a
  let r := s.link.records.getD (a - 1) ⟨none, 0⟩
  nodeBytes (cfgOf s a) ++ encU8 l.state.code ++ encU8 l.missed ++ optU8 l.lastCount ++ encU8 (sideCode l.side) ++
    encBool l.malformed ++ encU16 l.lost ++ encU16 l.checkErrors ++ encU16 l.malformedCount ++ optU8 r.mark ++ encU8 r.rounds

def counterBytes (c : PortCounters) : List Byte :=
  encU16 c.fragments ++ encU16 c.checkErrors ++ encU16 c.addressErrors ++ encU16 c.kindErrors

/-- READ_COUNTERS, by group: RING, NODE, LINK and LOOP with the codes 0 to 3 (log entry 8). -/
def counterResults (s : State) (args : List Byte) : Option (List Byte) :=
  match args.map BitVec.toNat with
  | [0] => some (counterBytes s.ring.portA.rx.counters ++ counterBytes s.ring.portB.rx.counters)
  | [1, a] =>
    if isRingAddr a then
      some (encU16 (liveOf s a).lost ++ encU16 (liveOf s a).checkErrors ++ encU16 (liveOf s a).malformedCount)
    else none
  | [2] =>
    some (counterBytes s.link.station.counters ++ counterBytes s.link.service.counters ++ s.link.losses.flatMap encU16 ++
      encU16 s.link.fifoLoss)
  | [3] => some (encU16 s.loop.stuck)
  | _ => none

/-- One channel in READ_MODULE. A cell value is unsigned and a temperature signed. -/
def chanFields (k : ChanKind) (present : Bool) (x : Chan) : List (List Byte) :=
  [encBool present, (match k with | .cell => optMv x.value | .temp => optS16 x.value), encU8 x.cond.code, encU8 x.dwell,
   encBool x.latched]

/-- The fields of a Module Record in the order of R45. -/
def moduleFields (c : NodeCfg) (m : ModuleRec) : List (List Byte) :=
  (m.cells.mapIdx fun i x => chanFields .cell (c.cellMask.getLsbD i) x).flatten ++
    (m.temps.mapIdx fun i x => chanFields .temp (c.tempMask.getLsbD i) x).flatten ++
    [[m.status], encU16 m.balancing.toNat, optS16 m.hottest, optS16 m.coolest, encU8 m.history.length,
     optS16 m.history.getLast?, optS16 m.history.head?, encBool m.runaway, encU8 m.cond.code, encBool m.heard]

/-- READ_MODULE: the Module Record of an address whose applied role is MODULE (R45). Its fields do not fit one response of 53 bytes: part `k` carries the
`k`-th run of whole fields that does, and a part that does not exist is INVALID. DESIGN CHOICE, log entry 31. An address of any other role is INVALID too:
DESIGN CHOICE, log entry 58. -/
def moduleResults (s : State) (a k : Nat) : Option (List Byte) :=
  match recOf s a with
  | none => none
  | some m => if (cfgOf s a).role ≠ .mod then none else (packInto 53 (moduleFields (cfgOf s a) m) [])[k]?

def outFields (x : OutLive) : List Byte := encU8 x.source.code ++ encU16 x.sourceValue ++ encU16 x.shaped

/-- READ_ZONE (R101). DESIGN CHOICE, log entry 50: the remaining restart time is absent while no restart timer runs. -/
def zoneResults (s : State) (z : Nat) : List Byte :=
  let c := zoneCfg s.mgmt.ringTables.cooling z
  let x := zoneLive s z
  let pump := fun (p : Nat) =>
    outFields (outLive s p) ++ encU16 (outLive s p).applied ++ encU8 (pumpLive s p).state.code ++ encU8 (pumpLive s p).faults ++
      encU16 (faultFree (pumpLive s p) s.now / Config.second) ++
      optU16 ((pumpLive s p).restart.map fun t => msLeft t (30 * Config.second) s.now)
  optS16 x.hottest ++ encU8 x.contributing ++ encU8 x.supervised ++ encBool x.blind ++ encU16 x.demand ++ optS16 x.inlet ++
    optS16 x.outlet ++ optU16 x.flow ++ optU16 x.pressure ++ optU8 (x.status.map BitVec.toNat) ++
    encBool (outletInUse s z).isSome ++ encU8 x.state.code ++ encBool x.counted ++
    (match c.pump with | some p => encU8 1 ++ pump p | none => encU8 0 ++ List.replicate 13 0) ++
    encU8 c.fans.length ++ c.fans.flatMap fun f => outFields (outLive s (4 + f)) ++ encU16 (outLive s (4 + f)).applied

/-- READ_DETECTOR (R135). -/
def detectorResults (s : State) (d : Nat) : List Byte :=
  let l := detLive s d
  detectorBytes (detCfg s d) ++ encU8 l.state.code ++ encU8 l.noAnswer ++ encU8 l.confirm ++ optU16 l.last ++ encBool l.latched

end Sys2Proof.Machine
end

