-- ==== Sys2Proof/Machine/Requests.lean ====
section
/-! DEFINITION. The management requests (chapter 11): the checks every request passes (R182), then the request's own effect and response. -/

namespace Sys2Proof.Machine

/-! ## The checks of every request (R181, R182) -/

/-- A valid MGMT_REQ addressed to 0 is handed over, whatever becomes of it: the silence timer restarts and a bad source address is counted (R168,
R169). -/
def requestArrives (r : Request) (body : State → State) (s : State) : State :=
  let s := validFrame r.port (linkSearching r.port s)
  if badAddress r.src then countLink r.port addAddress s else body s

/-- Steps 2 and 3 of R182: BUSY while a RESTART is pending, REFUSED_AUTHORITY for a state-changing request from the other side. -/
def requestChecks (r : Request) (code : Nat) (changing : Bool) (body : State → State) (s : State) : State :=
  if s.mgmt.restart then answer r code .busy [] s
  else if changing && s.link.holder != r.port then answer r code .refusedAuthority [] s
  else body s

/-- A request is taken: received in time, checked, and given to its own body. -/
def request (r : Request) (code : Nat) (changing : Bool) (body : State → State) (s : State) : Host.Outcome State Fault Refusal :=
  act s fun s => whenDue (frameInTime s r.port r.syncAt) (requestArrives r (requestChecks r code changing body)) s

/-- Step 4 of R182: an argument block that does not read is INVALID. -/
def withArgs {α : Type} (r : Request) (code : Nat) (o : Option α) (f : α → State → State) (s : State) : State :=
  match o with
  | none => answer r code .invalid [] s
  | some x => f x s

/-- A request without arguments. -/
def noArgs (r : Request) : Option Unit := if r.args.isEmpty then some () else none

/-- A request with one 1-byte argument. -/
def oneByte (r : Request) : Option Nat := whole (getU8 r.args)

def done (r : Request) (code : Nat) (results : List Byte) (s : State) : State := answer r code .done results s

/-! ## Ring requests -/

/-- A node is excluded: its awaited poll ends, and it is polled no more in this round (R7, R10). -/
def excludeDo (a : Nat) (s : State) : State :=
  let side := awaitedSide s.ring a
  let s := nodeTo a .excluded id s
  let drop := fun (q : PollSeq) => { q with rest := q.rest.filter fun x => x != a }
  let s := s.onRing fun r => { r with seqA := drop r.seqA, seqB := drop r.seqB }
  match side with
  | some d => opportunity d s
  | none => s

def excludeBody (r : Request) (a : Nat) (s : State) : State :=
  if !isRingAddr a || (liveOf s a).state == .unconfigured then answer r 0x0B .invalid [] s
  else if (liveOf s a).state = .excluded then done r 0x0B [] s
  else done r 0x0B [] (excludeDo a s)

/-- A node is readmitted (R7). -/
def readmitDo (a : Nat) (s : State) : State :=
  let side := sideNow s a
  nodeTo a .absent (fun l => { l with missed := 0, lastCount := none, malformed := false, side := side }) s

def readmitBody (r : Request) (a : Nat) (s : State) : State :=
  if !isRingAddr a then answer r 0x0C .invalid [] s
  else if (liveOf s a).state ≠ .excluded then answer r 0x0C .refusedState [] s
  else done r 0x0C [] (readmitDo a s)

def splitBody (r : Request) (k : Nat) (s : State) : State :=
  if s.mgmt.ringTables.poll.length < k then answer r 0x0D .invalid [] s
  else done r 0x0D [] (s.onRing fun g => { g with splitReq := k, splitPending := true })

/-- EXCLUDE_NODE (R7). -/
def execExcludeNode (r : Request) (s : State) : Host.Outcome State Fault Refusal :=
  request r 0x0B true (withArgs r 0x0B (oneByte r) (excludeBody r)) s

/-- READMIT_NODE (R7). -/
def execReadmitNode (r : Request) (s : State) : Host.Outcome State Fault Refusal :=
  request r 0x0C true (withArgs r 0x0C (oneByte r) (readmitBody r)) s

/-- SET_SPLIT (R14). -/
def execSetSplit (r : Request) (s : State) : Host.Outcome State Fault Refusal :=
  request r 0x0D true (withArgs r 0x0D (oneByte r) (splitBody r)) s

/-! ## Cell, cooling -/

/-- CLEAR_TRIPS (R38). -/
def execClearTrips (r : Request) (s : State) : Host.Outcome State Fault Refusal :=
  request r 0x10 true (withArgs r 0x10 (noArgs r) fun _ s =>
    let s := clearTrips s
    done r 0x10 (encU16 (latchedCount s) ++ encU8 (runawayCount s)) s) s

/-- The address of a READ_MODULE, and the part of the record, 0 where none is named (log entry 31). -/
def moduleArgs (r : Request) : Option (Nat × Nat) :=
  match r.args.map BitVec.toNat with
  | [a] => some (a, 0)
  | [a, k] => some (a, k)
  | _ => none

/-- READ_MODULE (R45). -/
def execReadModule (r : Request) (s : State) : Host.Outcome State Fault Refusal :=
  request r 0x03 false (fun s => withArgs r 0x03 ((moduleArgs r).bind fun x => moduleResults s x.1 x.2) (done r 0x03) s) s

/-- The pumps a CLEAR_PUMP_LOCK names (R98). -/
def namedPumps (n : Nat) : Option (List Nat) := if n < 4 then some [n] else if n = 0xFF then some [0, 1, 2, 3] else none

def unlockPump (s : State) (p : Nat) : State :=
  let s := s.onCool (modPump p fun _ => freshPump)
  let s := raiseNotice (nPumpState p .stopped) s
  s.onCool (modOut p (reformOut s p))

/-- A zone whose pump is among those named. -/
def pumpNamed (s : State) (ps : List Nat) (z : Nat) : Bool :=
  match (zoneCfg s.mgmt.ringTables.cooling z).pump with
  | some p => ps.contains p
  | none => false

/-- The locked pumps among those named are unlocked, the request is answered DONE, and then the zone states are re-evaluated (R98); what follows from them
comes in the order of log entry 70. -/
def clearPumpBody (r : Request) (ps : List Nat) (s : State) : State :=
  let locked := ps.filter fun p => (pumpLive s p).state == .locked
  coolSettle s (pumpNamed s ps) (done r 0x11 (encU8 locked.length) (locked.foldl unlockPump s))

/-- CLEAR_PUMP_LOCK (R98). -/
def execClearPumpLock (r : Request) (s : State) : Host.Outcome State Fault Refusal :=
  request r 0x11 true (withArgs r 0x11 ((oneByte r).bind namedPumps) (clearPumpBody r)) s

/-- An index below a bound. -/
def below (n : Nat) (o : Option Nat) : Option Nat := o.filter fun x => x < n

/-- READ_ZONE (R101). -/
def execReadZone (r : Request) (s : State) : Host.Outcome State Fault Refusal :=
  request r 0x04 false (withArgs r 0x04 (below 4 (oneByte r)) fun z s => done r 0x04 (zoneResults s z) s) s

/-! ## Loop (R111, R114) -/

/-- A manual script: decoded, and of literals only (R111, R195). -/
def manualScript (r : Request) : Option (List ScriptStep) :=
  (decodeScript r.args).filter fun ss => ss.all fun st => match st.value with | .literal _ => true | _ => false

def loopRunBody (r : Request) (ss : List ScriptStep) (s : State) : State :=
  if walk (walkFrom s.loop) ss = none then answer r 0x17 .refusedState [] s
  else if s.fire.state ≠ .quiet then answer r 0x17 .refusedState [] s
  else if s.loop.manual.isSome then answer r 0x17 .busy [] s
  else manualAccept ⟨r.port, r.src, r.id, ss, false⟩ s

/-- LOOP_RUN (R111, R112). -/
def execLoopRun (r : Request) (s : State) : Host.Outcome State Fault Refusal :=
  request r 0x17 true (withArgs r 0x17 (manualScript r) (loopRunBody r)) s

/-- LOOP_ABORT (R114). -/
def execLoopAbort (r : Request) (s : State) : Host.Outcome State Fault Refusal :=
  request r 0x18 true (withArgs r 0x18 (noArgs r) fun _ s =>
    let x := loopClear s
    done r 0x18 (encU8 x.2) x.1) s

/-! ## Fire (R132, R133, R135) -/

/-- An accepted FIRE_RESET is answered DONE with the fire state it leads to, and its notices follow the response (R132). -/
def fireResetBody (r : Request) (s : State) : State :=
  if s.fire.state = .quiet then answer r 0x15 .refusedState (optU8 none) s
  else match resetBlocker s with
    | some d => answer r 0x15 .refusedState (encU8 d) s
    | none => fireResetDo (done r 0x15 (encU8 (fireResetDo s).fire.state.code) s)

/-- FIRE_RESET (R132). -/
def execFireReset (r : Request) (s : State) : Host.Outcome State Fault Refusal :=
  request r 0x15 true (withArgs r 0x15 (noArgs r) fun _ => fireResetBody r) s

def silenceBody (r : Request) (s : State) : State :=
  if s.fire.state = .quiet then answer r 0x16 .refusedState [] s
  else done r 0x16 [] (refreshLines (s.onFire fun f => { f with silenced := true }))

/-- SILENCE (R133). -/
def execSilence (r : Request) (s : State) : Host.Outcome State Fault Refusal :=
  request r 0x16 true (withArgs r 0x16 (noArgs r) fun _ => silenceBody r) s

/-- READ_DETECTOR (R135). -/
def execReadDetector (r : Request) (s : State) : Host.Outcome State Fault Refusal :=
  request r 0x05 false (withArgs r 0x05 (below 24 (oneByte r)) fun d s => done r 0x05 (detectorResults s d) s) s

/-! ## Connection (R144, R148, R152) -/

/-- An input has been reported since reset. -/
def reported (s : State) (i : Input) : Bool := (inputReads s i).isSome

/-- The preconditions of CONNECT in OPEN, by result code (Table 8-4): whether each holds. -/
def connectChecks (s : State) : List (Nat × Bool) :=
  let b := s.cell.summary
  [(1, s.fire.state == .quiet), (2, s.fire.picture), (3, !s.fire.blind.any id), (4, b.picture),
   (5, decide (s.mgmt.ringTables.envelope.ratings.minInService ≤ b.inService)), (6, !(b.anyOv || b.anyUv || b.anyOt)),
   (7, s.cool.bay != .failed),
   (8, reported s .breakerAux && reported s .contPosAux && reported s .contNegAux && inputReads s .estop == some false),
   (9, inputReads s .breakerAux == some false && s.seqr.stray.isNone), (10, roleInService s .meter), (11, roleInService s .conv),
   (12, !readbackFault s)]

/-- The result code of the first precondition that fails. -/
def connectRefusal (s : State) : Option Nat :=
  if s.seqr.state ≠ .open_ then some 13 else ((connectChecks s).find? fun x => !x.2).map (·.1)

def connectBody (r : Request) (s : State) : State :=
  match connectRefusal s with
  | some c => answer r 0x12 .refusedState (encU8 c) s
  | none => done r 0x12 [] (seqEnterTested .precharge s)

/-- CONNECT (R144). -/
def execConnect (r : Request) (s : State) : Host.Outcome State Fault Refusal :=
  request r 0x12 true (withArgs r 0x12 (noArgs r) fun _ => connectBody r) s

def disconnectBody (r : Request) (s : State) : State :=
  let s := takeBay .disconnect (s.onSeqr fun q => { q with reclose := 0 })
  done r 0x13 (encU8 s.seqr.state.code) s

/-- DISCONNECT (R148). -/
def execDisconnect (r : Request) (s : State) : Host.Outcome State Fault Refusal :=
  request r 0x13 true (withArgs r 0x13 (noArgs r) fun _ => disconnectBody r) s

/-- The lockout is released (R152). DESIGN CHOICE, log entry 68: the FAULT_SUMMARY that LOCKED_OUT no longer holding may raise comes before LOCKOUT. -/
def releaseDo (s : State) : State :=
  let former := s.seqr.reason
  let s := seqTo .open_ (s.onSeqr fun q => { q with reason := .none })
  (raiseNotice (nLockout former false) s).onMgmt (handLatch false .none)

/-- DESIGN CHOICE, log entry 8: a refusal carries the codes that Table 12-7 gives STATE and FIRE as results of CONNECT. -/
def releaseBody (r : Request) (s : State) : State :=
  if s.seqr.state ≠ .lockedOut then answer r 0x14 .refusedState (encU8 13) s
  else if s.fire.state ≠ .quiet then answer r 0x14 .refusedState (encU8 1) s
  else done r 0x14 [] (releaseDo s)

/-- RELEASE_LOCKOUT (R152). -/
def execReleaseLockout (r : Request) (s : State) : Host.Outcome State Fault Refusal :=
  request r 0x14 true (withArgs r 0x14 (noArgs r) fun _ => releaseBody r) s

/-! ## Forcing (R161, R162) -/

/-- The output and value of a FORCE_OUTPUT: a duty of 2 bytes for a PWM output, on or off for any other that may be forced. -/
def forceArgs (r : Request) : Option (Nat × Nat) :=
  match getU8 r.args with
  | none => none
  | some (o, b) =>
    if !forceable o then none
    else if o < 12 then (whole (getU16 b)).bind fun v => if v ≤ 1000 then some (o, v) else none
    else (whole (getBool b)).map fun v => (o, v.toNat)

/-- A contactor output (R161). -/
def isContactor (o : Nat) : Bool := o == 14 || o == 15 || o == 16

/-- A force is set or renewed (R161). DESIGN CHOICE, log entry 69: OUTPUT_FORCE comes before the notices that follow from the output's new level. -/
def forceSet (o v : Nat) (s : State) : State :=
  let s := raiseNotice (nOutputForce o v) (s.onLines fun l => { l with forces := l.forces.set o (some ⟨v, s.now⟩) })
  if o < 12 then refreshLines (reformOne o s) else refreshLines s

def forceBody (r : Request) (x : Nat × Nat) (s : State) : State :=
  if s.fire.state ≠ .quiet || (isContactor x.1 && s.seqr.state != .open_) then answer r 0x19 .refusedState [] s
  else done r 0x19 [] (forceSet x.1 x.2 s)

/-- FORCE_OUTPUT (R161). -/
def execForceOutput (r : Request) (s : State) : Host.Outcome State Fault Refusal :=
  request r 0x19 true (withArgs r 0x19 (forceArgs r) (forceBody r)) s

/-- UNFORCE_ALL (R162). -/
def execUnforceAll (r : Request) (s : State) : Host.Outcome State Fault Refusal :=
  request r 0x1A true (withArgs r 0x1A (noArgs r) fun _ s => done r 0x1A (encU8 (forceCount s)) (dropAllForces s)) s

/-! ## Requests that carry a code not in Table 11-1 -/

/-- UNKNOWN_REQUEST (R182). -/
def execUnknownRequest (code : Byte) (r : Request) (s : State) : Host.Outcome State Fault Refusal :=
  act s fun s =>
    whenDue (frameInTime s r.port r.syncAt && !requestCodes.contains code.toNat)
      (requestArrives r (answer r code.toNat .unknown [])) s

/-! ## Authority (R171) -/

def authorityAnswer (r : Request) (code : Nat) (st : Status) (s : State) : State :=
  answer r code st (encU8 (holderCode s.link.holder)) s

def takeBody (r : Request) (s : State) : State :=
  match r.port with
  | .service => authorityTo .service 1 (authorityAnswer r 0x1B .done) s
  | .station => authorityAnswer r 0x1B (if s.link.holder = .station then .done else .refusedAuthority) s

def releaseAuthBody (r : Request) (s : State) : State :=
  match r.port with
  | .service => authorityTo .station 1 (authorityAnswer r 0x1C .done) s
  | .station => authorityAnswer r 0x1C .refusedAuthority s

/-- TAKE_AUTHORITY (R171). -/
def execTakeAuthority (r : Request) (s : State) : Host.Outcome State Fault Refusal :=
  request r 0x1B false (withArgs r 0x1B (noArgs r) fun _ => takeBody r) s

/-- RELEASE_AUTHORITY (R171). -/
def execReleaseAuthority (r : Request) (s : State) : Host.Outcome State Fault Refusal :=
  request r 0x1C false (withArgs r 0x1C (noArgs r) fun _ => releaseAuthBody r) s

/-! ## Traffic policy (R176, R178) -/

/-- The role, policy and period of a SET_FORWARD. -/
def forwardArgs (r : Request) : Option (Nat × Forward) :=
  match r.args.map BitVec.toNat with
  | [a, b, c] =>
    match roleOf a, policyOf b with
    | some role, some p => if role = .unused ∨ c = 0 then none else some (roleIdx role, ⟨p, c⟩)
    | _, _ => none
  | _ => none

/-- SET_FORWARD (R176). -/
def execSetForward (r : Request) (s : State) : Host.Outcome State Fault Refusal :=
  request r 0x09 true (withArgs r 0x09 (forwardArgs r) fun x s =>
    done r 0x09 [] (s.onLink fun l => { l with policy := l.policy.set x.1 x.2 })) s

/-- The nine flags of a SET_NOTICE_ENABLE, group g in bit g − 1. The flag for FIRE is ignored: its enable is always set (R178).
DESIGN CHOICE, log entry 56: a field with one of the bits 9 to 15 set is INVALID. -/
def enableArgs (r : Request) : Option (List Bool) :=
  (whole (getU16 r.args)).bind fun n =>
    if n < 512 then some ((List.range 9).map fun i => i == 4 || n.testBit i) else none

/-- SET_NOTICE_ENABLE (R178). -/
def execSetNoticeEnable (r : Request) (s : State) : Host.Outcome State Fault Refusal :=
  request r 0x0A true (withArgs r 0x0A (enableArgs r) fun e s =>
    done r 0x0A (encU16 (flagBits e)) (s.onLink fun l => { l with enables := e })) s

/-! ## Reading requests (R183, R184) -/

/-- READ_STATUS (R183). -/
def execReadStatus (r : Request) (s : State) : Host.Outcome State Fault Refusal :=
  request r 0x01 false (fun s =>
    withArgs r 0x01 (match r.args.map BitVec.toNat with | [a, b] => statusResults s a b | _ => none) (done r 0x01) s) s

/-- READ_NODE (R184). -/
def execReadNode (r : Request) (s : State) : Host.Outcome State Fault Refusal :=
  request r 0x02 false (withArgs r 0x02 ((oneByte r).filter isRingAddr) fun a s => done r 0x02 (nodeResults s a) s) s

/-- READ_COUNTERS (R184). -/
def execReadCounters (r : Request) (s : State) : Host.Outcome State Fault Refusal :=
  request r 0x07 false (fun s => withArgs r 0x07 (counterResults s r.args) (done r 0x07) s) s

/-- The applied contents of a part and the generation of its group. -/
def appliedPart (m : Mgmt) (k : Nat × Nat) : Option (List Byte) :=
  match ringPartOf m.ringTables k, loopPartOf m.loopTables k with
  | some p, _ => some (p.bytes ++ encU16 m.ringGen)
  | none, some p => some (p.bytes ++ encU16 m.loopGen)
  | none, none => none

/-- The contents of a staged part. -/
def stagedPart (m : Mgmt) (k : Nat × Nat) : Option (List Byte) :=
  match m.ringStaged.find? fun p => p.key == k, m.loopStaged.find? fun p => p.key == k with
  | some p, _ => some p.bytes
  | none, some p => some p.bytes
  | none, none => none

/-- The table and part of a READ_TABLE, and whether the pending copy is asked for. -/
def tableArgs (s : State) (r : Request) : Option ((Nat × Nat) × Bool) :=
  match r.args.map BitVec.toNat with
  | [t, p, c] => if (appliedPart s.mgmt (t, p)).isSome ∧ c < 2 then some ((t, p), c == 1) else none
  | _ => none

def readTableBody (r : Request) (x : (Nat × Nat) × Bool) (s : State) : State :=
  if x.2 then
    match stagedPart s.mgmt x.1 with
    | some b => done r 0x06 b s
    | none => answer r 0x06 .refusedState [] s
  else done r 0x06 ((appliedPart s.mgmt x.1).getD []) s

/-- READ_TABLE (R184). -/
def execReadTable (r : Request) (s : State) : Host.Outcome State Fault Refusal :=
  request r 0x06 false (fun s => withArgs r 0x06 (tableArgs s r) (readTableBody r) s) s

/-! ## WRITE_TABLE (R185) -/

/-- The parts a ring-group write stages: an entry with role NONE also stages the Poll List without its address (R3). -/
def ringStages (m : Mgmt) (p : RingPart) : List RingPart :=
  match p with
  | .node a c => if c.role = .unused then [p, .poll ((pendingRing m).poll.filter fun x => x != a)] else [p]
  | _ => [p]

/-- A ring-group write accepted into the pending copy; none where a check fails. -/
def writeRing (m : Mgmt) (p : RingPart) : Option Mgmt :=
  let ps := ringStages m p
  let t := ps.foldl applyRing (pendingRing m)
  if ringPartOk t p then some { m with ringStaged := ps.foldl (fun l q => stageRing q l) m.ringStaged } else none

/-- A loop-group write accepted into the pending copy. -/
def writeLoop (m : Mgmt) (p : LoopPart) : Option Mgmt :=
  if loopPartOk (applyLoop (pendingLoop m) p) p then some { m with loopStaged := stageLoop p m.loopStaged } else none

/-- What a WRITE_TABLE stages, with the generation at which it takes effect; none is INVALID. -/
def writePart (m : Mgmt) (args : List Byte) : Option (Mgmt × Nat) :=
  match args with
  | t :: p :: b =>
    let k := (t.toNat, p.toNat)
    if (ringPartOf m.ringTables k).isSome then
      ((readRingPart k b).bind (writeRing m)).map fun m' => (m', nextGen m.ringGen)
    else if (loopPartOf m.loopTables k).isSome then
      ((readLoopPart k b).bind (writeLoop m)).map fun m' => (m', nextGen m.loopGen)
    else none
  | _ => none

/-- WRITE_TABLE (R185). -/
def execWriteTable (r : Request) (s : State) : Host.Outcome State Fault Refusal :=
  request r 0x08 true (fun s =>
    withArgs r 0x08 (writePart s.mgmt r.args)
      (fun x s => answer r 0x08 .pending (encU16 x.2) (s.onMgmt fun _ => x.1)) s) s

/-! ## SAVE and RESTART (R187, R190) -/

/-- The copy a SAVE takes. -/
def saveJob (r : Request) (s : State) : SaveJob :=
  { image := closeImage { ring := s.mgmt.ringTables, loop := s.mgmt.loopTables, split := s.ring.splitReq, policy := s.link.policy,
                          enables := s.link.enables, check := none }
    ringGen := s.mgmt.ringGen, loopGen := s.mgmt.loopGen, port := r.port, src := r.src, id := r.id }

def saveBody (r : Request) (s : State) : State :=
  if s.mgmt.save.isSome then answer r 0x1D .busy [] s
  else
    let j := saveJob r s
    s.onMgmt fun m => storeStart { m with save := some j }

/-- SAVE (R187). -/
def execSave (r : Request) (s : State) : Host.Outcome State Fault Refusal :=
  request r 0x1D true (withArgs r 0x1D (noArgs r) fun _ => saveBody r) s

def restartBody (r : Request) (s : State) : State :=
  if (s.seqr.state = .open_ ∨ s.seqr.state = .lockedOut) ∧ s.fire.state = .quiet then
    answerAs true r.port r.src r.id 0x1E .done [] (s.onMgmt fun m => { m with restart := true })
  else answer r 0x1E .refusedState (encU8 s.seqr.state.code ++ encU8 s.fire.state.code) s

/-- RESTART (R190). -/
def execRestart (r : Request) (s : State) : Host.Outcome State Fault Refusal :=
  request r 0x1E true (withArgs r 0x1E (noArgs r) fun _ => restartBody r) s

end Sys2Proof.Machine
end

