-- ==== Sys2Proof/Machine/Dispatch.lean ====
section
/-! DEFINITION. The meaning of every command: one arm, one direct call, for each constructor of Instr. -/

namespace Sys2Proof.Machine

def exec (i : Instr) (s : State) : Host.Outcome State Fault Refusal :=
  match i with
  | .powerOn => Sys2Proof.Machine.execPowerOn s
  | .rstAssert => Sys2Proof.Machine.execRstAssert s
  | .rstRelease => Sys2Proof.Machine.execRstRelease s
  | .restartResetTaken => Sys2Proof.Machine.execRestartResetTaken s
  | .startUp => Sys2Proof.Machine.execStartUp s
  | .ringLengthError port syncAt header => Sys2Proof.Machine.execRingLengthError port syncAt header s
  | .ringFragmentTimeout port syncAt => Sys2Proof.Machine.execRingFragmentTimeout port syncAt s
  | .ringFrameDiscarded port syncAt frame check => Sys2Proof.Machine.execRingFrameDiscarded port syncAt frame check s
  | .sampleReceived port syncAt frame => Sys2Proof.Machine.execSampleReceived port syncAt frame s
  | .nodeRspReceived port syncAt frame => Sys2Proof.Machine.execNodeRspReceived port syncAt frame s
  | .setpointAckReceived port syncAt frame => Sys2Proof.Machine.execSetpointAckReceived port syncAt frame s
  | .roundDue => Sys2Proof.Machine.execRoundDue s
  | .ringTxDone port => Sys2Proof.Machine.execRingTxDone port s
  | .replyTimeout port => Sys2Proof.Machine.execReplyTimeout port s
  | .transmissionOpportunity side => Sys2Proof.Machine.execTransmissionOpportunity side s
  | .responseWindowTimeout port => Sys2Proof.Machine.execResponseWindowTimeout port s
  | .roundEnd => Sys2Proof.Machine.execRoundEnd s
  | .excludeNode req => Sys2Proof.Machine.execExcludeNode req s
  | .readmitNode req => Sys2Proof.Machine.execReadmitNode req s
  | .setSplit req => Sys2Proof.Machine.execSetSplit req s
  | .clearTrips req => Sys2Proof.Machine.execClearTrips req s
  | .readModule req => Sys2Proof.Machine.execReadModule req s
  | .setpointReceived port frame => Sys2Proof.Machine.execSetpointReceived port frame s
  | .ackTimeout => Sys2Proof.Machine.execAckTimeout s
  | .silenceExpiry => Sys2Proof.Machine.execSilenceExpiry s
  | .pwmReferencePeriod period => Sys2Proof.Machine.execPwmReferencePeriod period s
  | .pwmPeriodStart output => Sys2Proof.Machine.execPwmPeriodStart output s
  | .pwmHighEnd output => Sys2Proof.Machine.execPwmHighEnd output s
  | .flowLossTimeout pump => Sys2Proof.Machine.execFlowLossTimeout pump s
  | .restartWaitExpiry pump => Sys2Proof.Machine.execRestartWaitExpiry pump s
  | .faultFreeExpiry pump => Sys2Proof.Machine.execFaultFreeExpiry pump s
  | .clearPumpLock req => Sys2Proof.Machine.execClearPumpLock req s
  | .readZone req => Sys2Proof.Machine.execReadZone req s
  | .loopRoundDue => Sys2Proof.Machine.execLoopRoundDue s
  | .loopRoundStart => Sys2Proof.Machine.execLoopRoundStart s
  | .loopByteDone ack data => Sys2Proof.Machine.execLoopByteDone ack data s
  | .loopLineStuck point => Sys2Proof.Machine.execLoopLineStuck point s
  | .busRecoveryDone => Sys2Proof.Machine.execBusRecoveryDone s
  | .busCloseDone => Sys2Proof.Machine.execBusCloseDone s
  | .loopRun req => Sys2Proof.Machine.execLoopRun req s
  | .holdExpiry => Sys2Proof.Machine.execHoldExpiry s
  | .loopAbort req => Sys2Proof.Machine.execLoopAbort req s
  | .countdownExpiry => Sys2Proof.Machine.execCountdownExpiry s
  | .releasePulseExpiry => Sys2Proof.Machine.execReleasePulseExpiry s
  | .sounderPhaseToggle => Sys2Proof.Machine.execSounderPhaseToggle s
  | .fireReset req => Sys2Proof.Machine.execFireReset req s
  | .silence req => Sys2Proof.Machine.execSilence req s
  | .readDetector req => Sys2Proof.Machine.execReadDetector req s
  | .prechargeTimeout => Sys2Proof.Machine.execPrechargeTimeout s
  | .healthyWaitMet => Sys2Proof.Machine.execHealthyWaitMet s
  | .closePulseEnd => Sys2Proof.Machine.execClosePulseEnd s
  | .closeTimeout => Sys2Proof.Machine.execCloseTimeout s
  | .connectedClockExpiry => Sys2Proof.Machine.execConnectedClockExpiry s
  | .meterBlindLimit => Sys2Proof.Machine.execMeterBlindLimit s
  | .tripMinPulseExpiry => Sys2Proof.Machine.execTripMinPulseExpiry s
  | .tripTimeout => Sys2Proof.Machine.execTripTimeout s
  | .openingTimeout => Sys2Proof.Machine.execOpeningTimeout s
  | .connect req => Sys2Proof.Machine.execConnect req s
  | .disconnect req => Sys2Proof.Machine.execDisconnect req s
  | .releaseLockout req => Sys2Proof.Machine.execReleaseLockout req s
  | .strayTripMinPulse => Sys2Proof.Machine.execStrayTripMinPulse s
  | .strayTripTimeout => Sys2Proof.Machine.execStrayTripTimeout s
  | .inputRawChange input level => Sys2Proof.Machine.execInputRawChange input level s
  | .debounceStable input => Sys2Proof.Machine.execDebounceStable input s
  | .forceOutput req => Sys2Proof.Machine.execForceOutput req s
  | .unforceAll req => Sys2Proof.Machine.execUnforceAll req s
  | .forceExpiry output => Sys2Proof.Machine.execForceExpiry output s
  | .readbackTimeout contactor => Sys2Proof.Machine.execReadbackTimeout contactor s
  | .framePortLengthError port syncAt header => Sys2Proof.Machine.execFramePortLengthError port syncAt header s
  | .framePortFragment port syncAt => Sys2Proof.Machine.execFramePortFragment port syncAt s
  | .stationFrameDiscarded port frame check => Sys2Proof.Machine.execStationFrameDiscarded port frame check s
  | .nodeCmdReceived port frame => Sys2Proof.Machine.execNodeCmdReceived port frame s
  | .unknownRequest code req => Sys2Proof.Machine.execUnknownRequest code req s
  | .takeAuthority req => Sys2Proof.Machine.execTakeAuthority req s
  | .releaseAuthority req => Sys2Proof.Machine.execReleaseAuthority req s
  | .serviceSilenceExpiry => Sys2Proof.Machine.execServiceSilenceExpiry s
  | .stationTxDone => Sys2Proof.Machine.execStationTxDone s
  | .serviceTxDone => Sys2Proof.Machine.execServiceTxDone s
  | .setForward req => Sys2Proof.Machine.execSetForward req s
  | .setNoticeEnable req => Sys2Proof.Machine.execSetNoticeEnable req s
  | .readStatus req => Sys2Proof.Machine.execReadStatus req s
  | .readNode req => Sys2Proof.Machine.execReadNode req s
  | .readCounters req => Sys2Proof.Machine.execReadCounters req s
  | .readTable req => Sys2Proof.Machine.execReadTable req s
  | .writeTable req => Sys2Proof.Machine.execWriteTable req s
  | .save req => Sys2Proof.Machine.execSave req s
  | .imageWriteDone => Sys2Proof.Machine.execImageWriteDone s
  | .latchWriteDone => Sys2Proof.Machine.execLatchWriteDone s
  | .restart req => Sys2Proof.Machine.execRestart req s
  | .powerLoss => Sys2Proof.Machine.execPowerLoss s

end Sys2Proof.Machine
end

