-- ==== Sys2Proof/Machine/Step.lean ====
section
/-! DEFINITION. One step: the command at the front of the queue, or a tick of the clock on an empty one. -/

namespace Sys2Proof.Machine

/-- One microsecond passes and nothing else happens (DESIGN CHOICE, log entry 1). -/
def tick (s : State) : State := { s with now := s.now + 1 }

/-- The state with one command fewer waiting. -/
def State.setPending (s : State) (q : List Instr) : State := { s with pending := q }

/-- The command that waits first is carried out on the state with the rest of the queue; on an empty queue the clock ticks. -/
def step (s : State) : Host.Outcome State Fault Refusal :=
  match s.pending with
  | [] => .next (tick s)
  | c :: q => exec c (s.setPending q)

/-- The command a word spells, put at the front of the queue; the table spells none (log entry 10). -/
def State.withFetchWord (s : State) (nbits w : Nat) : State :=
  match decodeTableWord nbits w with
  | some c => s.setPending (c :: s.pending)
  | none => s

end Sys2Proof.Machine
end

