-- ==== Sys2Proof/Safety.lean ====
section
/-! DEFINITION. What counts as a safe run. The part never stops (log entry 1), so a safe step is one that answers a next state; the rest of this
file says what every next state keeps: the limits closed by R60, the clamp of R70, the output lines that follow their composition (R159,
R160), and the sizes and ranges the manual gives. -/

namespace Sys2Proof.Machine

/-- A step answers a next state. -/
def safeStep (s : State) : Prop := ∃ t, step s = .next t

/-- The three conditions under which both published limits are 0 (R60). -/
def powerBarred (s : State) : Prop :=
  s.fire.state ≠ .quiet ∨ s.seqr.state ≠ .connected ∨ inputReads s .estop = some true

/-- R60: both published limits are 0 whenever the fire state is not QUIET, the sequencer is not CONNECTED, or ESTOP is active. -/
def limitsClosed (s : State) : Prop := powerBarred s → s.env.chg = 0 ∧ s.env.dis = 0

/-- R70: the frame in the Setpoint Slot is built from the Requested Setpoint in force and clamped to the limits in force. -/
def slotClamped (s : State) : Prop :=
  ∀ f, s.ring.slot = some f → ∃ r, s.gate.requested = some r ∧ f.p = clampP r.p s.env.chg s.env.dis

/-- R159: each relay and coil output stands at its composed level, and at inactive before the lines are under control. -/
def linesCurrent (s : State) : Prop :=
  s.lines.outs = (List.range 10).map fun i => s.lines.control && composed s (12 + i)

/-- R161: BREAKER_CLOSE, BREAKER_TRIP and RELEASE hold no force record. -/
def coilsUnforced (s : State) : Prop :=
  ∀ o, o = 12 ∨ o = 13 ∨ o = 17 → s.lines.forces.getD o none = none

/-- What R160 and R131 say of the coils: BREAKER_CLOSE and BREAKER_TRIP are never active together, BREAKER_CLOSE only in CLOSING with both
contactor aux inputs closed and ESTOP inactive, RELEASE only in RELEASED within its pulse and with the door closed. -/
def coilsSafe (s : State) : Prop :=
  (outLevel s 12 = true → outLevel s 13 = false ∧ s.seqr.state = .closing ∧ inputReads s .contPosAux = some true ∧
    inputReads s .contNegAux = some true ∧ inputReads s .estop = some false) ∧
  (outLevel s 17 = true → s.fire.state = .released ∧ s.fire.pulse.isSome = true ∧ inputReads s .door = some true)

/-- The sizes and ranges the manual gives: the queues (R22, R174, R175), the Sent Setpoint List and the ack-timeout count (Table 4-1), the
reclose counter (R150) and the two upward counts (R173). -/
def withinBounds (s : State) : Prop :=
  s.link.queue.length ≤ 64 ∧ s.link.fifo.length ≤ 8 ∧ s.ring.downQueue.length ≤ 8 ∧ s.gate.sent.length ≤ 4 ∧
    s.gate.ackCount ≤ 3 ∧ s.seqr.reclose ≤ 3 ∧ s.link.stationCount ≤ 63 ∧ s.link.serviceCount ≤ 63

/-- R59: no published limit exceeds the rating of its direction. -/
def limitsRated (s : State) : Prop :=
  s.env.chg ≤ s.mgmt.ringTables.envelope.ratings.chgRated ∧ s.env.dis ≤ s.mgmt.ringTables.envelope.ratings.disRated

/-! ## When a frame of a frame port is taken -/

/-- A frame whose sync byte came at `syncAt` is complete at a frame port of a running part that was open by then, within 250 ms of it and with no bit rate
applied to the port since (R167, R168, R180). -/
def comesIn (p : FramePort) (syncAt : Nat) (s : State) : Prop := s.phase = .running ∧ frameInTime s p syncAt = true

/-- The state once a valid frame of a frame port has been received (R168). -/
def frameReceived (p : FramePort) (s : State) : State := validFrame p (linkSearching p s)

/-! ## When a request is taken -/

/-- The state once the frame that carries a request has been received (R168). -/
def received (r : Request) (s : State) : State := frameReceived r.port s

/-- A request reaches the Management Unit: the part runs, the port was open and the frame is in time, and the source address is one that routes (R167 to
R169). -/
def reaches (r : Request) (s : State) : Prop := s.phase = .running ∧ frameInTime s r.port r.syncAt = true ∧ badAddress r.src = false

/-- It passes steps 1 and 2 of R182: no RESTART is pending. -/
def taken (r : Request) (s : State) : Prop := reaches r s ∧ s.mgmt.restart = false

/-- It passes step 3 of R182 as well: its port holds authority. -/
def held (r : Request) (s : State) : Prop := taken r s ∧ s.link.holder = r.port

/-- The request a command carries, with its code (Table 12-8) and whether it is state-changing (Table 11-1). -/
def requestOf : Instr → Option (Request × Nat × Bool)
  | .readStatus r => some (r, 0x01, false)
  | .readNode r => some (r, 0x02, false)
  | .readModule r => some (r, 0x03, false)
  | .readZone r => some (r, 0x04, false)
  | .readDetector r => some (r, 0x05, false)
  | .readTable r => some (r, 0x06, false)
  | .readCounters r => some (r, 0x07, false)
  | .writeTable r => some (r, 0x08, true)
  | .setForward r => some (r, 0x09, true)
  | .setNoticeEnable r => some (r, 0x0A, true)
  | .excludeNode r => some (r, 0x0B, true)
  | .readmitNode r => some (r, 0x0C, true)
  | .setSplit r => some (r, 0x0D, true)
  | .clearTrips r => some (r, 0x10, true)
  | .clearPumpLock r => some (r, 0x11, true)
  | .connect r => some (r, 0x12, true)
  | .disconnect r => some (r, 0x13, true)
  | .releaseLockout r => some (r, 0x14, true)
  | .fireReset r => some (r, 0x15, true)
  | .silence r => some (r, 0x16, true)
  | .loopRun r => some (r, 0x17, true)
  | .loopAbort r => some (r, 0x18, true)
  | .forceOutput r => some (r, 0x19, true)
  | .unforceAll r => some (r, 0x1A, true)
  | .takeAuthority r => some (r, 0x1B, false)
  | .releaseAuthority r => some (r, 0x1C, false)
  | .save r => some (r, 0x1D, true)
  | .restart r => some (r, 0x1E, true)
  | _ => none

/-! ## When a ring frame is taken -/

/-- No reply is awaited on either side (R10). -/
def noWait (s : State) : Prop := waitOf s.ring .a = none ∧ waitOf s.ring .b = none

/-- A frame is complete at a ring port of a running part within 1 ms of its sync byte, at which the port was open (R1, R26). -/
def arrives (p : RingPort) (syncAt : Nat) (s : State) : Prop := s.phase = .running ∧ ringInTime s p syncAt = true

/-- A node whose frames pass the screening of R2: a ring address whose entry is neither UNCONFIGURED nor EXCLUDED. -/
def admitted (s : State) (f : Frame) : Prop :=
  f.src.toNat ≠ 0 ∧ f.src.toNat ≤ 40 ∧ f.dst = 0 ∧ (liveOf s f.src.toNat).state ≠ .unconfigured ∧
    (liveOf s f.src.toNat).state ≠ .excluded

/-- The ring's receiver of a port is searching again. -/
def ringSearching (p : RingPort) (r : Ring) : Ring := modPort p (fun x => { x with rx := { x.rx with syncAt := none } }) r

/-- The address has an entry in the Node Table (section 1.2). -/
def hasEntry (s : State) (a : Nat) : Prop := 1 ≤ a ∧ a ≤ s.ring.nodes.length

/-- Every reply wait that is open has time left (R10). -/
def waitsOpen (s : State) : Prop :=
  ∀ side a p second since, waitOf s.ring side = some (a, p, second, since) → s.now < since + replyTime

/-- A SAMPLE that answers, in time, the wait of a joined ring for its node on port `q` (R10). -/
def awaits (p q : RingPort) (t0 since : Nat) (second : Bool) (f : Frame) (s : State) : Prop :=
  arrives p t0 s ∧ s.ring.splitEff = 0 ∧ s.ring.seqB.phase = .idle ∧ s.ring.seqA.phase = .waiting f.src.toNat q second since ∧
    t0 ≤ since + 2000 ∧ admitted s f ∧ f.kind = kSample

/-- The side at which a sequence of the ring stands: side A in a joined ring, either side in split mode (R15). -/
def atSide (s : State) (p : RingPort) : Prop := s.ring.splitEff = 0 → p = .a

/-- What stands in the slot, and at the head of the Downward Insert Queue, is for the other side of a ring in split mode, or nothing stands there (R21). -/
def slotElsewhere (s : State) (p : RingPort) : Prop :=
  ∀ f, s.ring.slot = some f → s.ring.splitEff ≠ 0 ∧ (liveOf s f.dst.toNat).side ≠ p
def queueElsewhere (s : State) (p : RingPort) : Prop :=
  ∀ f, s.ring.downQueue.head? = some f → s.ring.splitEff ≠ 0 ∧ (liveOf s f.1.dst.toNat).side ≠ p ∧
    (liveOf s f.1.dst.toNat).state ≠ .unconfigured ∧ (liveOf s f.1.dst.toNat).state ≠ .excluded

/-- A transmission opportunity exists on a side: it has arisen in a round, or no round runs and nothing is being sent, awaited or held there (R21). -/
def opportunityAt (s : State) (p : RingPort) : Prop :=
  (seqOf s.ring p).phase = .opportunity ∨ ((seqOf s.ring p).phase = .idle ∧ s.ring.running = false ∧ (portOf s.ring p).tx = [] ∧
    (s.ring.splitEff = 0 → (portOf s.ring .b).tx = []))

/-- `t` is `s` once the sequence of a side has gone on with its next poll, or has ended (R10, R12, R15). -/
def pollsNext (p : RingPort) (s t : State) : Prop :=
  (∀ a r, (seqOf s.ring p).rest = a :: r → t = { s with ring := (sendPoll p a
    (if s.ring.splitEff ≠ 0 then p else if s.ring.round % 10 = 0 then (cfgOf s a).home else (liveOf s a).side) false s.now
    (modSeq p (fun q => { q with rest := r }) s.ring)) }) ∧
  ((seqOf s.ring p).rest = [] → t = { s with ring := modSeq p (fun q => { q with phase := .done }) s.ring })

/-- `t` is `s` once an opportunity has arisen on a side in a round: it waits for a frame of the side, or goes on at once where there is none (R21). -/
def opportunityArises (p : RingPort) (s t : State) : Prop :=
  (slotElsewhere s p → queueElsewhere s p → pollsNext p s t) ∧
  (¬(slotElsewhere s p ∧ queueElsewhere s p) → t = { s with ring := modSeq p (fun q => { q with phase := .opportunity }) s.ring })

/-- `t` is `s` once the attempt or the frame that concerned a node is settled and the sequence of its side has gone on: an opportunity has arisen (R10, R11, R21). `r`
is the ring as it was, but for the live fields of the node, the slot and the ring-broken flag, which the readers of a reply or of a node's state may change. -/
def goesOn (side : RingPort) (a : Nat) (r : Ring) (s t : State) : Prop :=
  ∃ u : State, opportunityArises side u t ∧ (∀ c, c ≠ a → liveOf u c = liveOf s c) ∧ liveOf u a = liveOf t a ∧
    u.ring = { r with nodes := u.ring.nodes, slot := u.ring.slot, broken := u.ring.broken } ∧
    u.mgmt.ringTables = s.mgmt.ringTables ∧ u.now = s.now

/-- No frame whose sync byte came by `limit` is still being received on either ring port (R10). -/
def noneHeld (s : State) (limit : Nat) : Prop := ∀ x t1, x = s.ring.portA ∨ x = s.ring.portB → x.rx.syncAt = some t1 → limit < t1

/-- `t` is `s` once an attempt of a side has proved unanswered (R10, R11, R15): the first of a joined ring is repeated on the other port; after the second, or
the one of a side in split mode, the poll is missed, an IN_SERVICE node with three missed polls becomes SILENT, and the next opportunity arises. -/
def attemptEnds (side : RingPort) (a : Nat) (q : RingPort) (second : Bool) (s t : State) : Prop :=
  (s.ring.splitEff = 0 → second = false →
    t = { s with ring := sendPoll side a (match q with | .a => .b | .b => .a) true s.now s.ring }) ∧
  (s.ring.splitEff ≠ 0 ∨ second = true → hasEntry s a →
    (liveOf t a).missed = min 3 ((liveOf s a).missed + 1) ∧ (liveOf t a).side = (liveOf s a).side ∧
    (liveOf t a).state = (if (liveOf s a).state = .inService ∧ 2 ≤ (liveOf s a).missed then .silent else (liveOf s a).state) ∧
    goesOn side a s.ring s t ∧ waitOf t.ring side = none ∧ (∀ o, o ≠ side → seqOf t.ring o = seqOf s.ring o) ∧
    t.loop = s.loop ∧ t.store = s.store ∧ t.cell = s.cell ∧ t.now = s.now ∧ t.pending = s.pending)

/-- `t` is `s` once a frame that began at `t0` has ended and was no reply to the wait of a side (R10): the attempt ends then where the 2 ms are over, the frame
began within them and no other one that did is still being received; else the wait goes on. -/
def sideLapses (t0 : Nat) (side : RingPort) (s t : State) : Prop :=
  (waitOf s.ring side = none → t = s) ∧
  ∀ a q second since, waitOf s.ring side = some (a, q, second, since) →
    (since + 2000 ≤ s.now → t0 ≤ since + 2000 → noneHeld s (since + 2000) → attemptEnds side a q second s t) ∧
    (s.now < since + 2000 ∨ since + 2000 < t0 ∨ ¬noneHeld s (since + 2000) → t = s)

/-- The same of both sides, side A first (log entries 62 and 66). -/
def lapses (t0 : Nat) (s t : State) : Prop := ∃ v, sideLapses t0 .a s v ∧ sideLapses t0 .b v t

/-- A polled script runs: at a step, or with its bus still being closed or recovered (R109). -/
def polledRuns (l : Loop) : Prop :=
  (∃ u d, l.act = .running u ∧ u.owner = .polled d) ∨
    ∃ e d, (l.act = .closing (some e) ∨ ∃ b, l.act = .recovering (some e) b) ∧ e.owner = .polled d

/-- The bus is being closed or recovered with no script running. -/
def busBusy (l : Loop) : Prop := l.act = .closing none ∨ ∃ b, l.act = .recovering none b

/-- Its count shows neither a duplicate nor a restart: it is the first of its node to be counted, whatever it is, or it differs from the last and is not 0
(R16). -/
def newCount (f : Frame) (s : State) : Prop :=
  (liveOf s f.src.toNat).lastCount = none ∨ ((liveOf s f.src.toNat).lastCount ≠ some f.seq.toNat ∧ f.seq.toNat ≠ 0)

/-- What a reissue check leaves in the Setpoint Slot (R75), with `g` the gate's records at the check, `x` the slot before it and `y` the slot after it: the
slot stays as it is where the check does not act; where it acts it originates a frame if the Forwarded Setpoint is absent or differs, and none else. -/
def reissueLeaves (s : State) (g : Gate) (x y : Option SlotFrame) : Prop :=
  let p := fun (r : Requested) => min (max r.p (-(s.env.chg : Int))) (s.env.dis : Int)
  (g.requested = none ∨ g.inFlight ≠ none ∨ x ≠ none ∨ (∀ a, roleAddr s .conv = some a → (liveOf s a).state = .excluded) → y = x) ∧
  ∀ r a, g.requested = some r → g.inFlight = none → x = none → roleAddr s .conv = some a → (liveOf s a).state ≠ .excluded →
    ((∀ w, g.forwarded = some w → p r ≠ w.p ∨ r.q ≠ w.q ∨ r.fallback ≠ w.flags.fallback) →
      y.map (fun f => (f.dst, f.src, f.tag, f.p, f.q, f.flags)) =
        some (BitVec.ofNat 8 a, 0, r.tag, p r, r.q, ⟨decide (p r ≠ r.p), true, r.fallback⟩)) ∧
    (∀ w, g.forwarded = some w → p r = w.p → r.q = w.q → r.fallback = w.flags.fallback → y = none)

/-! ## What the statements say of records and sources -/

/-- Fields of a result: two bytes, two bytes or absent, signed two bytes or absent, and a flag (section 12.2). -/
def wordBytes (x : Nat) : List Byte := [BitVec.ofNat 8 (x / 256), BitVec.ofNat 8 (x % 256)]
def wordOr (x : Option Nat) : List Byte := x.elim [0xFF, 0xFF] wordBytes
def signedOr (x : Option Int) : List Byte := x.elim [0x80, 0x00] fun i => wordBytes (i % 65536).toNat
def flagByte (b : Bool) : Byte := if b then 1 else 0


/-- The present condition of a channel that is not latched holds against a reading (R32). -/
def staysIn (p : Profile) (r : Option Int) : Cond → Prop
  | .unknown => False
  | .normal => True
  | .ovWarn => ∀ v, r = some v → (p.ovWarn : Int) - p.vHyst ≤ v
  | .uvWarn => ∀ v, r = some v → v ≤ (p.uvWarn : Int) + p.vHyst
  | .otWarn => ∀ v, r = some v → p.otWarn - p.tHyst ≤ v
  | .coldInhibit => ∀ v, r = some v → v ≤ p.coldInhibit + p.tHyst
  | .sensorFault => r = none
  | _ => True

/-- The greatest, and the least, of the values that exist; absent where there is none. -/
def isMax (vs : Int → Prop) : Option Int → Prop
  | none => ∀ v, ¬vs v
  | some m => vs m ∧ ∀ v, vs v → v ≤ m
def isMin (vs : Int → Prop) : Option Int → Prop
  | none => ∀ v, ¬vs v
  | some m => vs m ∧ ∀ v, vs v → m ≤ v

/-- The levels of the data line at the clock pulses of some signalling, one for each half bit period with the clock released (R103). -/
def clocked (x : LoopLines) : List LineSignal → List Bool
  | [] => []
  | .half :: r => if x.clock then x.data :: clocked x r else clocked x r
  | a :: r => clocked (drive x a) r

/-- The meter record a METER sample makes now (R137). -/
def meterOf (s : State) (d : MeterSample) : MeterRec :=
  let n := s.mgmt.ringTables.grid.nominalV
  { v1 := d.v1, v2 := d.v2, v3 := d.v3, r1 := 1000 * d.v1 / n, r2 := 1000 * d.v2 / n, r3 := 1000 * d.v3 / n, freq := d.freq, rocof := d.rocof,
    power := d.power, backup := d.backup, at_ := s.now }

/-- A meter record violates a timed stage: UV1, UV2, OV1, OV2, UF, OF (R139). -/
def violates (g : GridCfg) (m : MeterRec) : Nat → Prop
  | 0 => m.r1 < g.uv1.level ∨ m.r2 < g.uv1.level ∨ m.r3 < g.uv1.level
  | 1 => m.r1 < g.uv2.level ∨ m.r2 < g.uv2.level ∨ m.r3 < g.uv2.level
  | 2 => g.ov1.level < m.r1 ∨ g.ov1.level < m.r2 ∨ g.ov1.level < m.r3
  | 3 => g.ov2.level < m.r1 ∨ g.ov2.level < m.r2 ∨ g.ov2.level < m.r3
  | 4 => m.freq < g.uf.level
  | 5 => g.of.level < m.freq
  | _ => False

/-- A timed stage trips at a sample that arrives now: it is violated, and its timer, which starts now if it is idle, has run its time (R140). -/
def stageTripped (s : State) (m : MeterRec) (i : Nat) : Prop :=
  violates s.mgmt.ringTables.grid m i ∧ (s.seqr.stages.getD i none).getD s.now + 1000 * stageTime s.mgmt.ringTables.grid i ≤ s.now

/-- The timed stages with their causes, in the order in which one of several trips is recorded (R140). -/
def tripOrder : List (Nat × Cause) := [(1, .uv2), (3, .ov2), (0, .uv1), (2, .ov1), (4, .uf), (5, .of)]

/-- The ROCOF run count after a sample, and the stage's trip (R140). -/
def rocofAfter (s : State) (m : MeterRec) : Nat := if s.mgmt.ringTables.grid.rocofLimit < m.rocof.natAbs then s.seqr.rocofRun + 1 else 0
def rocofTripped (s : State) (m : MeterRec) : Prop := 0 < rocofAfter s m ∧ s.mgmt.ringTables.grid.rocofCount ≤ rocofAfter s m

/-- A meter record is healthy: every ratio and the frequency lie within their bounds (R141). -/
def healthyRecord (g : GridCfg) (m : MeterRec) : Prop :=
  (∀ r, r = m.r1 ∨ r = m.r2 ∨ r = m.r3 → g.healthyVLow ≤ r ∧ r ≤ g.healthyVHigh) ∧ g.healthyFLow ≤ m.freq ∧ m.freq ≤ g.healthyFHigh

/-- The record of an in-service module (R42). -/
def inServiceRec (s : State) (a : Nat) : Option ModuleRec := if (liveOf s a).state = .inService then recOf s a else none

/-- How many ring addresses have a property. -/
def countNodes (f : Nat → Bool) : Nat := ((List.range 40).filter fun i => f (i + 1)).length

/-- `m'` is the record `m` after a sample (R30, R35, R41): every present channel evaluated against the reading of its position. -/
def evaluated (s : State) (a : Nat) (d : ModuleSample) (m m' : ModuleRec) : Prop :=
  m'.heard = true ∧ m'.status = d.status ∧ m'.balancing = d.balancing ∧
    m'.cells = chansEval .cell (profileOf s a) (cfgOf s a).cellMask.getLsbD (d.cells.map cellReading) m.cells ∧
    m'.temps = chansEval .temp (profileOf s a) (cfgOf s a).tempMask.getLsbD (d.temps.map tempReading) m.temps ∧
    m'.hottest = maxValue m'.temps ∧ m'.coolest = minValue m'.temps ∧ m'.cond = moduleCond m' ∧ m'.history = m.history

/-- A supervised detector in a state (R118). -/
def detIn (s : State) (d : Nat) (st : DetState) : Prop :=
  d < 24 ∧ (detCfg s d).kind ≠ .unused ∧ (detCfg s d).enabled = true ∧ (detLive s d).state = st

/-- The alarm sources and the pre-alarm sources of R127. -/
def alarmExists (s : State) : Prop :=
  ∃ d, detIn s d .alarm ∧ ((detCfg s d).kind = .callPoint ∨ (zoneSummary s (detCfg s d).zone).runaway = true ∨
    ∃ e, e ≠ d ∧ detIn s e .alarm ∧ (detCfg s e).zone = (detCfg s d).zone)
def preAlarmExists (s : State) : Prop :=
  (∃ d, detIn s d .preAlarm ∨ detIn s d .alarm) ∨ ∃ z, z < 4 ∧ ((zoneSummary s z).runaway = true ∨ (zoneSummary s z).otTrip = true)

/-- A MODULE of a zone is IN_SERVICE (R100, R125). -/
def moduleServes (s : State) (z : Nat) : Prop :=
  ∃ a, hasEntry s a ∧ (cfgOf s a).role = .mod ∧ (cfgOf s a).zone = z ∧ (liveOf s a).state = .inService

/-- The detection-blind flags of the zones are as R125 has them: a zone is blind while a MODULE of it is IN_SERVICE and no supervised detector of it is in NORMAL,
PRE_ALARM or ALARM. -/
def blindsCurrent (s : State) : Prop :=
  ∀ z, z < 4 → z < s.fire.blind.length → (s.fire.blind.getD z false = true ↔ moduleServes s z ∧
    ¬∃ d, (detCfg s d).zone = z ∧ (detIn s d .normal ∨ detIn s d .preAlarm ∨ detIn s d .alarm))

/-- The outlet of a zone is in use and stands at a limit or above it (R84, R99). -/
def outletReaches (s : State) (z : Nat) (limit : Int) : Prop :=
  ∃ a v, (zoneCfg s.mgmt.ringTables.cooling z).node = some a ∧ (cfgOf s a).role = .cool ∧ (cfgOf s a).zone = z ∧
    (liveOf s a).state = .inService ∧ (zoneLive s z).outlet = some v ∧ limit ≤ v

/-- A zone stands in the state the table of R99 gives, by the outlet thresholds in use (R83) and BLIND as the latest publication set it. -/
def zoneStands (s : State) (z : Nat) : Prop :=
  let c := zoneCfg s.mgmt.ringTables.cooling z
  let x := zoneLive s z
  let pump := fun (st : PumpState) => ∃ p, c.pump = some p ∧ (pumpLive s p).state = st
  let failed := pump .locked ∨ outletReaches s z x.trip
  let degraded := pump .restartWait ∨ x.blind = true ∨ outletReaches s z x.warn
  let runs := (∃ p, c.pump = some p ∧ 0 < (outLive s p).applied) ∨ (c.pump = none ∧ ∃ f ∈ c.fans, 0 < (outLive s (4 + f)).applied)
  (failed → x.state = .failed) ∧ (¬failed → degraded → x.state = .degraded) ∧ (¬failed → ¬degraded → runs → x.state = .running) ∧
    (¬failed → ¬degraded → ¬runs → x.state = .idle)

/-- The bay cooling state is the worst of the counted zones, IDLE with none (R100). -/
def bayStands (s : State) : Prop :=
  let has := fun (st : CoolState) => ∃ x ∈ s.cool.zones, x.counted = true ∧ x.state = st
  (has .failed → s.cool.bay = .failed) ∧ (¬has .failed → has .degraded → s.cool.bay = .degraded) ∧
    (¬has .failed → ¬has .degraded → has .running → s.cool.bay = .running) ∧
    (¬has .failed → ¬has .degraded → ¬has .running → s.cool.bay = .idle)

/-- The sequencer of `t` is that of `s` once it has taken a BAY-class cause other than FIRE (R148); in TRIPPING the record keeps the cause and class of the trip (log
entry 13). -/
def bayTaken (c : Cause) (s t : State) : Prop :=
  (s.seqr.state = .closing ∨ s.seqr.state = .connected →
    t.seqr.state = .tripping ∧ t.seqr.trip = some ⟨c, .bay, .opening⟩ ∧ t.seqr.stepSince = some s.now) ∧
  (s.seqr.state = .connected → t.env.chg = 0 ∧ t.env.dis = 0) ∧
  (s.seqr.state = .precharge ∨ s.seqr.state = .dcReady ∨ s.seqr.state = .recloseWait →
    t.seqr.state = .opening ∧ t.seqr.stepSince = some s.now) ∧
  (∀ c0 k, s.seqr.state = .tripping → s.seqr.trip = some ⟨c0, k, .recloseWait⟩ →
    t.seqr = { s.seqr with trip := some ⟨c0, k, .opening⟩ }) ∧
  (s.seqr.state = .tripping → (∀ c0 k, s.seqr.trip ≠ some ⟨c0, k, .recloseWait⟩) → t.seqr = s.seqr) ∧
  (s.seqr.state = .open_ ∨ s.seqr.state = .opening ∨ s.seqr.state = .lockedOut → t.seqr = s.seqr)

/-- `t` is `s` once an event has been seen by the zones: the bay cooling state stands as R100 has it, and FAILED, as it arises, is the cause COOLING (R100, R148). -/
def coolingSeen (s t : State) : Prop :=
  bayStands t ∧ (s.cool.bay ≠ .failed → t.cool.bay = .failed → bayTaken .cooling s t) ∧
    (s.cool.bay = .failed ∨ t.cool.bay ≠ .failed → t.seqr = s.seqr)

/-- Every zone whose pump is `p` stands in its state. -/
def zonesSee (p : Nat) (t : State) : Prop :=
  ∀ z, z < 4 → z < t.cool.zones.length → (zoneCfg t.mgmt.ringTables.cooling z).pump = some p → zoneStands t z

/-- A supervised detector whose last reading blocks a FIRE_RESET (R132). -/
def lastBlocks (s : State) (d : Nat) : Prop :=
  d < 24 ∧ (detCfg s d).kind ≠ .unused ∧ (detCfg s d).enabled = true ∧ ∃ x, (detLive s d).last = some x ∧
    (((detCfg s d).kind = .callPoint ∧ x ≠ 0) ∨ ((detCfg s d).kind ≠ .callPoint ∧ (detCfg s d).alarm ≤ x))

/-- `t` is where a completed opening leads from `s` (R151, R152): LOCKED_OUT with the pending reason, else with FIRE while the fire state is ALARM or above, each
handing its latch record for writing, else OPEN. -/
def openingEnds (s t : State) : Prop :=
  let locked := fun (r : Lockout) => t.seqr.state = .lockedOut ∧ t.seqr.reason = r ∧ t.mgmt = handLatch true r s.mgmt
  let burning := s.fire.state = .alarm ∨ s.fire.state = .releasePending ∨ s.fire.state = .released
  t.seqr.stepSince = none ∧ t.seqr.reclose = 0 ∧ (∀ r, s.seqr.pendingLockout = some r → locked r) ∧
    (s.seqr.pendingLockout = none → burning → locked .fire) ∧
    (s.seqr.pendingLockout = none → ¬burning → t.seqr.state = .open_ ∧ t.mgmt = s.mgmt)

/-- The entry with a role exists and is IN_SERVICE. -/
def serves (s : State) (r : Role) : Prop := ∃ a, roleAddr s r = some a ∧ (liveOf s a).state = .inService

/-- The preconditions of CONNECT by the code of their result (Tables 8-4, 12-7). -/
def connectPre (s : State) : Nat → Prop
  | 1 => s.fire.state = .quiet
  | 2 => s.fire.picture = true
  | 3 => ∀ b ∈ s.fire.blind, b = false
  | 4 => s.cell.summary.picture = true
  | 5 => s.mgmt.ringTables.envelope.ratings.minInService ≤ s.cell.summary.inService
  | 6 => s.cell.summary.anyOv = false ∧ s.cell.summary.anyUv = false ∧ s.cell.summary.anyOt = false
  | 7 => s.cool.bay ≠ .failed
  | 8 => inputReads s .breakerAux ≠ none ∧ inputReads s .contPosAux ≠ none ∧ inputReads s .contNegAux ≠ none ∧
      inputReads s .estop = some false
  | 9 => inputReads s .breakerAux = some false ∧ s.seqr.stray = none
  | 10 => serves s .meter
  | 11 => serves s .conv
  | 12 => s.lines.pos.fault = false ∧ s.lines.neg.fault = false
  | _ => True

end Sys2Proof.Machine
end

