-- ==== Sys2Proof/Certificates/Slice0/Obligations.lean ====
section
/-! DEFINITION. The statements for the provers. Where a statement rests on a choice of the model its docstring names the log entry. -/

open Sys2Proof Sys2Proof.Machine

/-! ## The machine and its queue -/

/-- The command at the front of the queue is carried out on the state with the rest of the queue. -/
def Obligations.StepTakesFront : Prop :=
  ∀ (c : Instr) (q : List Instr) (s : State), s.pending = c :: q → step s = exec c { s with pending := q }

/-- On an empty queue one microsecond passes and nothing else happens. The model's choice: log entry 1. -/
def Obligations.IdleStepTicks : Prop := ∀ s : State, s.pending = [] → step s = .next { s with now := s.now + 1 }

/-- What reset leaves in each block, as far as the manual gives it (sections 1.10, 2.11, 3.9, 4.11, 5.9, 6.11, 7.10, 8.17, 9.8, 10.10, 11.8).
The blank store, from which the tables are the defaults, is the model's choice: log entry 6. -/
def Obligations.ResetLeavesBlocks : Prop :=
  let s := State.reset
  (s.ring.round = 0 ∧ s.ring.running = false ∧ s.ring.broken = false ∧ s.ring.count = 0 ∧ s.ring.slot = none ∧
    s.ring.downQueue = [] ∧ s.ring.portA.rx.isOpen = false ∧ s.ring.portB.rx.isOpen = false ∧
    (∀ l ∈ s.ring.nodes, l.state = .unconfigured ∧ l.missed = 0 ∧ l.lastCount = none ∧ l.lost = 0)) ∧
  ((∀ m ∈ s.cell.recs, m = none) ∧ s.cell.summary.picture = false ∧ s.cell.summary.inService = 0) ∧
  (s.env.chg = 0 ∧ s.env.dis = 0 ∧ s.env.chgTarget = 0 ∧ s.env.disTarget = 0 ∧ s.env.gates = [2, 4, 5]) ∧
  (s.gate.requested = none ∧ s.gate.forwarded = none ∧ s.gate.inFlight = none ∧ s.gate.ackCount = 0 ∧ s.gate.sent = [] ∧
    s.gate.conv = none ∧ s.gate.silent = false) ∧
  (s.cool.bay = .idle ∧ (∀ x ∈ s.cool.outs, x.applied = 0 ∧ x.level = false) ∧ (∀ p ∈ s.cool.pumps, p.state = .stopped ∧ p.faults = 0)) ∧
  (s.loop.bus = .free ∧ s.loop.lines = ⟨true, true⟩ ∧ s.loop.running = false ∧ s.loop.manual = none ∧ s.loop.hold = none ∧ s.loop.busFault = false ∧ s.loop.stuck = 0) ∧
  (s.fire.state = .quiet ∧ s.fire.countdown = none ∧ s.fire.pulse = none ∧ s.fire.picture = false ∧
    (∀ d ∈ s.fire.dets, d.state = .disabled ∧ d.latched = false)) ∧
  (s.seqr.state = .open_ ∧ s.seqr.reclose = 0 ∧ s.seqr.reason = .none ∧ s.seqr.meter = none ∧ s.seqr.conv = none ∧ s.seqr.stray = none) ∧
  (s.lines.outs = List.replicate 10 false ∧ s.lines.forces = List.replicate 22 none ∧ s.lines.pos = ⟨none, false⟩ ∧
    s.lines.neg = ⟨none, false⟩ ∧ (∀ x ∈ s.lines.inputs, x.level = none)) ∧
  (s.link.holder = .station ∧ s.link.queue = [] ∧ s.link.fifo = [] ∧ s.link.stationCount = 0 ∧ s.link.serviceCount = 0 ∧
    s.link.losses = [0, 0, 0, 0] ∧ s.link.fifoLoss = 0) ∧
  (s.mgmt.ringStaged = [] ∧ s.mgmt.loopStaged = [] ∧ s.mgmt.ringGen = 1 ∧ s.mgmt.loopGen = 1 ∧ s.mgmt.store = .idle ∧
    s.mgmt.restart = false)

/-! ## Invariants -/

/-- The invariants below hold right after reset. -/
def Obligations.ResetMeetsInvariants : Prop :=
  limitsClosed State.reset ∧ limitsRated State.reset ∧ slotClamped State.reset ∧ linesCurrent State.reset ∧
    coilsUnforced State.reset ∧ withinBounds State.reset

/-- Every step keeps both published limits at 0 while the fire state is not QUIET, the sequencer is not CONNECTED, or ESTOP is active (R60). -/
def Obligations.LimitsClosedKept : Prop := ∀ s t : State, limitsClosed s → step s = .next t → limitsClosed t

/-- Every step keeps each published limit within the rating of its direction (R59). -/
def Obligations.LimitsRatedKept : Prop := ∀ s t : State, limitsRated s → step s = .next t → limitsRated t

/-- Every step keeps the Setpoint Slot's frame built from the Requested Setpoint in force and clamped to the limits in force (R70). -/
def Obligations.SlotClampedKept : Prop := ∀ s t : State, slotClamped s → step s = .next t → slotClamped t

/-- Every step leaves each relay and coil output at its composed level (R159), and no force on the two breaker coils or RELEASE (R161). -/
def Obligations.LinesCurrentKept : Prop :=
  ∀ s t : State, linesCurrent s → coilsUnforced s → step s = .next t → linesCurrent t ∧ coilsUnforced t

/-- After every step the coils are safe: BREAKER_CLOSE and BREAKER_TRIP are never active together, BREAKER_CLOSE is active in CLOSING alone with
both contactor aux inputs closed and ESTOP inactive, and RELEASE only within the release pulse with the door closed (R131, R160). -/
def Obligations.CoilsSafeAfterEveryStep : Prop :=
  ∀ s t : State, linesCurrent s → coilsUnforced s → step s = .next t → coilsSafe t

/-- Every step keeps the queues, counts and counters within the sizes of R22, R150, R173, R174, R175 and Table 4-1. -/
def Obligations.WithinBoundsKept : Prop := ∀ s t : State, withinBounds s → step s = .next t → withinBounds t

/-! ## Resets, start-up and the store -/

/-- POWER_ON, RST_ASSERT, RST_RELEASE, RESTART_RESET_TAKEN and POWER_LOSS: when each acts, and what a reset leaves; a record being written when the reset
begins keeps no good check, the other stays (R191). RESTART in OPEN or LOCKED_OUT with the fire state QUIET is answered DONE and becomes pending, else it is
refused with both states (R190). The model's choice: the tables in force between a reset and START_UP are the defaults whatever the store holds (log
entry 35), and the fields no chapter gives a reset value hold those of State.reset (log entry 38). -/
def Obligations.ResetsAndRestart : Prop :=
  (∀ s : State, s.phase = .off → exec .powerOn s = .next (resetTo (if s.rst then .inReset else .startUpDue) s)) ∧
  (∀ s : State, s.phase = .startUpDue ∨ s.phase = .running → exec .rstAssert s = .next (resetTo .inReset { s with rst := true })) ∧
  (∀ s : State, s.phase = .inReset → exec .rstRelease s = .next { s with rst := false, phase := .startUpDue }) ∧
  (∀ s : State, s.phase = .running → s.mgmt.restart = true → restartOwed s.link = false → s.mgmt.store = .idle →
    s.mgmt.latchWaiting = none → s.mgmt.save = none → exec .restartResetTaken s = .next (resetTo .startUpDue s)) ∧
  (∀ s : State, s.phase ≠ .off → exec .powerLoss s = .next (resetTo .off s)) ∧
  (∀ (ph : Phase) (s : State), let t := resetTo ph s
    t.phase = ph ∧ t.now = s.now ∧ t.rst = s.rst ∧ t.pending = s.pending ∧ t.ring = State.reset.ring ∧ t.cell = State.reset.cell ∧
    t.env = State.reset.env ∧ t.gate = State.reset.gate ∧ t.loop = State.reset.loop ∧ t.fire = State.reset.fire ∧
    t.link = State.reset.link ∧ t.lines.outs = List.replicate 10 false ∧ t.lines.forces = List.replicate 22 none ∧
    (∀ x ∈ t.cool.outs, x.applied = 0 ∧ x.level = false) ∧ t.lines.inputs.map (·.raw) = s.lines.inputs.map (·.raw) ∧
    (s.mgmt.store = .idle → t.store = s.store) ∧
    (s.mgmt.store = .writingImage → t.store.image.checkOk = false ∧ t.store.latch = s.store.latch) ∧
    (s.mgmt.store = .writingLatch → t.store.latch.checkOk = false ∧ t.store.image = s.store.image)) ∧
  (∀ (r : Request) (s : State), held r s → r.args = [] → (s.seqr.state = .open_ ∨ s.seqr.state = .lockedOut) → s.fire.state = .quiet →
    exec (.restart r) s = .next (answerAs true r.port r.src r.id 0x1E .done []
      { received r s with mgmt := { s.mgmt with restart := true } })) ∧
  (∀ (r : Request) (s : State), held r s → r.args = [] →
    ¬((s.seqr.state = .open_ ∨ s.seqr.state = .lockedOut) ∧ s.fire.state = .quiet) →
    exec (.restart r) s = .next (answer r 0x1E .refusedState (encU8 s.seqr.state.code ++ encU8 s.fire.state.code) (received r s)))

/-- START_UP: the tables of a good image or the defaults, the lines under control, the ports open from now on with no frame in progress (R26, R180), the silence timer running, SPLIT broadcast, and the
first rounds due after 10 ms and 500 ms (R189, R192). The sequencer starts by the latch record (R155). -/
def Obligations.StartUpOrder : Prop :=
  ∀ s : State, s.phase = .startUpDue → ∃ t : State, exec .startUp s = .next t ∧
    t.phase = .running ∧ t.now = s.now ∧ t.store = s.store ∧ t.pending = s.pending ∧
    (imageGood s.store.image = true → t.mgmt.ringTables = s.store.image.ring ∧ t.mgmt.loopTables = s.store.image.loop ∧
      t.ring.splitReq = s.store.image.split ∧ t.link.policy = s.store.image.policy ∧ t.link.enables = s.store.image.enables ∧
      t.mgmt.storeFault = false) ∧
    (imageGood s.store.image = false → t.mgmt.ringTables = defaultRingTables ∧ t.mgmt.loopTables = defaultLoopTables ∧
      t.ring.splitReq = 0 ∧ t.link.policy = defaultForward ∧ t.link.enables = defaultEnables ∧ t.mgmt.storeFault = true) ∧
    t.lines.control = true ∧ t.lines.inputs = s.lines.inputs.map (fun x => ⟨x.raw, some s.now, none⟩) ∧
    (∀ x, x = t.ring.portA.rx ∨ x = t.ring.portB.rx ∨ x = t.link.station ∨ x = t.link.service → x = ⟨true, s.now, none, ⟨0, 0, 0, 0⟩⟩) ∧
    t.gate.silenceSince = some s.now ∧
    t.ring.portA.tx.map (fun x => (x.frame.dst, x.frame.kind, x.frame.payload)) = [(63, kSplit, encU8 t.ring.splitReq)] ∧
    t.ring.portB.tx = t.ring.portA.tx ∧ t.ring.splitEff = t.ring.splitReq ∧
    t.ring.dueAt = some (s.now + 10000) ∧ t.loop.dueAt = some (s.now + 500000) ∧
    (match latchStart s.store.latch with
      | none => t.seqr.state = .open_ ∧ t.seqr.reason = .none
      | some r => t.seqr.state = .lockedOut ∧ t.seqr.reason = r)

/-- A supply lost while a record is written: after power has returned, a latch record cut short starts the sequencer LOCKED_OUT with LATCH_LOST, and an
image cut short starts the part on the defaults with the store fault set (R189, R191, R153). -/
def Obligations.CutRecordIsLost : Prop :=
  ∀ s a b : State, s.phase = .running → s.rst = false → exec .powerLoss s = .next a → exec .powerOn a = .next b →
    ∃ t : State, exec .startUp b = .next t ∧ t.phase = .running ∧
      (s.mgmt.store = .writingLatch → t.seqr.state = .lockedOut ∧ t.seqr.reason = .latchLost) ∧
      (s.mgmt.store = .writingImage → t.mgmt.storeFault = true ∧ t.mgmt.ringTables = defaultRingTables ∧
        t.mgmt.loopTables = defaultLoopTables)

/-- SAVE and the two ends of a store write (R187, R188). A SAVE copies the applied tables and the immediate settings; an idle store begins the waiting latch
write before a waiting image write; the end of the image write clears the store fault and answers DONE with both generations. An image is closed with the check of R194 formed over its bytes, whose layout is the model's choice: log entry 24. -/
def Obligations.StoreWrites : Prop :=
  (∀ i : Image, closeImage i = { i with check := some (crc16 (imageBytes i)) } ∧ (closeImage i).checkOk = true ∧
    ({ i with check := none } : Image).checkOk = false) ∧
  (∀ (r : Request) (s : State), held r s → r.args = [] → s.mgmt.save = none → ∃ t : State, exec (.save r) s = .next t ∧
    t = { received r s with mgmt := t.mgmt } ∧
    t.mgmt.save = some { image := closeImage ⟨s.mgmt.ringTables, s.mgmt.loopTables, s.ring.splitReq, s.link.policy, s.link.enables, none⟩,
                         ringGen := s.mgmt.ringGen, loopGen := s.mgmt.loopGen, port := r.port, src := r.src, id := r.id } ∧
    (s.mgmt.store = .idle → s.mgmt.latchWaiting = none → t.mgmt.store = .writingImage) ∧
    (s.mgmt.store ≠ .idle → t.mgmt.store = s.mgmt.store)) ∧
  (∀ (s : State) (j : SaveJob), s.phase = .running → s.mgmt.store = .writingImage → s.mgmt.save = some j →
    ∃ t : State, exec .imageWriteDone s = .next t ∧ t = { s with store := t.store, mgmt := t.mgmt, lines := t.lines, link := t.link } ∧
      t.store = { s.store with image := j.image } ∧ t.mgmt.save = none ∧ t.mgmt.storeFault = false ∧
      (∀ l, s.mgmt.latchWaiting = some l → t.mgmt.store = .writingLatch ∧ t.mgmt.latchWriting = some l ∧ t.mgmt.latchWaiting = none) ∧
      (s.mgmt.latchWaiting = none → t.mgmt.store = .idle) ∧
      (s.mgmt.storeFault = false → t.lines = s.lines ∧ t.link = sendUp s.now s.mgmt.ringTables.rate j.port
        ⟨.response, true, false, rspFrame j.src j.id 0x1D .done (encU16 j.ringGen ++ encU16 j.loopGen)⟩ s.link)) ∧
  (∀ (s : State) (l : LatchRec), s.phase = .running → s.mgmt.store = .writingLatch → s.mgmt.latchWriting = some l →
    ∃ t : State, exec .latchWriteDone s = .next t ∧ t = { s with store := { s.store with latch := l }, mgmt := t.mgmt } ∧
      t.mgmt.lastLatch = l ∧
      (∀ l', s.mgmt.latchWaiting = some l' → t.mgmt.store = .writingLatch ∧ t.mgmt.latchWriting = some l') ∧
      (s.mgmt.latchWaiting = none → s.mgmt.save.isSome = true → t.mgmt.store = .writingImage) ∧
      (s.mgmt.latchWaiting = none → s.mgmt.save = none → t.mgmt.store = .idle))

/-! ## The Bay Ring -/

/-- RING_LENGTH_ERROR, RING_FRAGMENT_TIMEOUT and a RING_FRAME_DISCARDED whose check does not match (R1). A check error is charged to the node whose reply is
awaited, else to the port. Nothing else changes while every open wait has time left; a wait whose 2 ms are over then ends unanswered where the frame began within
it and no other frame that did is still being received (R10). Of a frame whose sync byte came before the ports were opened nothing is received (R26). The model's
choice: that one at that very moment is received (log entry 78), the moment of the sync byte at which the search goes on inside a header, bytes following one another (log entry 32), and that one of several such frames, and side A before side B, ends the attempt (log entries 62 and 66). -/
def Obligations.RingReceiveErrors : Prop :=
  (∀ (p : RingPort) (t0 : Nat) (h : List Byte) (s : State), arrives p t0 s → h.length = 5 → 56 < (h.getD 4 0).toNat →
    let u : State := { s with ring := modPort p (fun x => { x with rx := { x.rx with
      syncAt := (h.idxOf? 0xA5#8).map fun i => t0 + 10 * (i + 1),
      counters := { x.rx.counters with fragments := min 65535 (x.rx.counters.fragments + 1) } } }) s.ring }
    ∃ t : State, exec (.ringLengthError p t0 h) s = .next t ∧ (waitsOpen s → t = u) ∧ lapses t0 u t) ∧
  (∀ (p : RingPort) (t0 : Nat) (s : State), s.phase = .running → (portOf s.ring p).rx.isOpen = true → (portOf s.ring p).rx.openedAt ≤ t0 →
    t0 + 1000 ≤ s.now →
    let u : State := { s with ring := modPort p (fun x => { x with rx := { x.rx with
      syncAt := none, counters := { x.rx.counters with fragments := min 65535 (x.rx.counters.fragments + 1) } } }) s.ring }
    ∃ t : State, exec (.ringFragmentTimeout p t0) s = .next t ∧ (waitsOpen s → t = u) ∧ lapses t0 u t) ∧
  (∀ (p : RingPort) (t0 : Nat) (f : Frame) (k : Check) (s : State), arrives p t0 s → frameCheck f ≠ k →
    (∀ a q second since, waitOf s.ring (sideOfPort s.ring p) = some (a, q, second, since) →
      let u : State := { s with ring := (setLive a (fun l => { l with checkErrors := min 65535 (l.checkErrors + 1) }) (ringSearching p s.ring)) }
      ∃ t : State, exec (.ringFrameDiscarded p t0 f k) s = .next t ∧ (waitsOpen s → t = u) ∧ lapses t0 u t) ∧
    (waitOf s.ring (sideOfPort s.ring p) = none →
      let u : State := { s with ring := modPort p (fun x => { x with rx := { x.rx with
        syncAt := none, counters := { x.rx.counters with checkErrors := min 65535 (x.rx.counters.checkErrors + 1) } } }) s.ring }
      ∃ t : State, exec (.ringFrameDiscarded p t0 f k) s = .next t ∧ (waitsOpen s → t = u) ∧ lapses t0 u t)) ∧
  (∀ (p : RingPort) (t0 : Nat) (s : State), t0 < (portOf s.ring p).rx.openedAt →
    (∀ h, exec (.ringLengthError p t0 h) s = .next s) ∧ exec (.ringFragmentTimeout p t0) s = .next s ∧
    ∀ f, (∀ k, exec (.ringFrameDiscarded p t0 f k) s = .next s) ∧ exec (.sampleReceived p t0 f) s = .next s ∧
      exec (.nodeRspReceived p t0 f) s = .next s ∧ exec (.setpointAckReceived p t0 f) s = .next s)

/-- The screening of R2 on RING_FRAME_DISCARDED with a good check, its tests in order: own frames and frames of EXCLUDED nodes leave no count, the others
count an address or a kind error of the port. A frame so discarded is no reply, and neither is a duplicate that passes: a wait whose 2 ms are over then ends
unanswered where the frame began within it and no other frame that did is still being received (R10). The model's choice: a frame that passes the screening is no
RING_FRAME_DISCARDED, and given as one it only sets the receiver searching (log entry 4), a source byte above 63 is an address error like 41 to 63 (log entry 9),
and one of several such frames, and side A before side B, ends the attempt (log entries 62 and 66). -/
def Obligations.RingScreening : Prop :=
  ∀ (p : RingPort) (t0 : Nat) (f : Frame) (s : State), arrives p t0 s →
    let a := f.src.toNat
    let st := (liveOf s a).state
    let silent : State := { s with ring := ringSearching p s.ring }
    let counted := fun (g : PortCounters → PortCounters) =>
      ({ s with ring := modPort p (fun x => { x with rx := { x.rx with syncAt := none, counters := g x.rx.counters } }) s.ring } : State)
    let address := counted fun c => { c with addressErrors := min 65535 (c.addressErrors + 1) }
    let kind := counted fun c => { c with kindErrors := min 65535 (c.kindErrors + 1) }
    let u :=
      if a = 0 then silent
      else if 40 < a ∨ f.dst ≠ 0 then address
      else if f.kind ≠ kSample ∧ f.kind ≠ kSetpointAck ∧ f.kind ≠ kNodeRsp then kind
      else if st = .unconfigured then address
      else if st = .excluded then silent
      else if f.kind = kSetpointAck ∧ (cfgOf s a).role ≠ .conv then kind
      else silent
    (∃ t : State, exec (.ringFrameDiscarded p t0 f (frameCheck f)) s = .next t ∧ (waitsOpen s → t = u) ∧ lapses t0 u t) ∧
    (admitted s f → (liveOf s a).lastCount = some f.seq.toNat →
      (f.kind = kSample → ∃ t : State, exec (.sampleReceived p t0 f) s = .next t ∧ lapses t0 silent t) ∧
      (f.kind = kNodeRsp → ∃ t : State, exec (.nodeRspReceived p t0 f) s = .next t ∧ lapses t0 silent t))

/-- The sequence check (R16) on a NODE_RSP that no window captures (none is open, it is another node's or port's, or the sync byte came before or after it), whose
count alone is recorded (R24); on one that a response window captures, whose gap is added (R16, read together with R24: log entry 28), in a joined ring and in split
mode; and on a SAMPLE that no wait awaits, or that began after its wait, whose gap and itself are added (R17). A duplicate is discarded. A restart, handled by
R17 beside the check, has no gap. A frame that is no reply then ends a wait that is over (R10, log entries 62 and 66). The
model's reading: a NODE_RSP of the window's own node on the other port is not captured (log entry 29), and a count above 63 is put through the formulas as it stands
(log entry 11). -/
def Obligations.SequenceChecks : Prop :=
  (∀ (p : RingPort) (t0 : Nat) (f : Frame) (s : State), arrives p t0 s → admitted s f → f.kind = kNodeRsp →
    (∀ d q up since, windowOf s.ring (sideOfPort s.ring p) = some (d, q, up, since) →
      d ≠ f.src.toNat ∨ q ≠ p ∨ t0 < since ∨ since + 2000 < t0) →
    let a := f.src.toNat
    let c := f.seq.toNat
    let l := liveOf s a
    let r := ringSearching p s.ring
    ∃ u t : State, exec (.nodeRspReceived p t0 f) s = .next t ∧ (noWait s → t = u) ∧ lapses t0 u t ∧
      (l.lastCount = some c → u = { s with ring := r }) ∧
      (l.lastCount ≠ some c → (l.lastCount = none ∨ c ≠ 0) → u = { s with ring := setLive a (fun x => { x with lastCount := some c }) r }) ∧
      (∀ n, l.lastCount = some n → c ≠ n → c = 0 → liveOf u a = { l with lastCount := some 0 } ∧
        u = { s with ring := setLive a (fun x => { x with lastCount := some 0 }) r, cell := u.cell, link := u.link })) ∧
  (∀ (p : RingPort) (up : FramePort) (t0 since n : Nat) (f : Frame) (s : State),
    let a := f.src.toNat
    let c := f.seq.toNat
    let succ := if n = 63 then 1 else n + 1
    let side := if s.ring.splitEff = 0 then RingPort.a else p
    arrives p t0 s → noWait s → (seqOf s.ring side).phase = .window a p up since → since ≤ t0 →
    t0 ≤ since + 2000 → admitted s f → f.kind = kNodeRsp → (liveOf s a).lastCount = some n → s.ring.running = false → s.ring.fallenDue = false →
    (c = n → exec (.nodeRspReceived p t0 f) s = .next { s with ring := ringSearching p s.ring }) ∧
    (c ≠ n → c ≠ 0 → ∃ t : State, exec (.nodeRspReceived p t0 f) s = .next t ∧ t = { s with ring := t.ring, link := t.link } ∧
      t.link = sendUp s.now s.mgmt.ringTables.rate up ⟨.forwarded, false, false, f⟩ s.link ∧ (seqOf t.ring side).phase = .idle ∧
      liveOf t a = { liveOf s a with
        lastCount := some c, lost := min 65535 ((liveOf s a).lost + (if c = succ then 0 else (c + 63 - succ) % 63)) }) ∧
    (c ≠ n → c = 0 → ∃ t : State, exec (.nodeRspReceived p t0 f) s = .next t ∧ t = { s with ring := t.ring, cell := t.cell, link := t.link } ∧
      ((cfgOf s a).role ≠ .mod → t.cell = s.cell ∧ t.link = sendUp s.now s.mgmt.ringTables.rate up ⟨.forwarded, false, false, f⟩
        (raiseNotice (nNodeRestart (cfgOf s a).role a) s).link) ∧ (seqOf t.ring side).phase = .idle ∧
      liveOf t a = { liveOf s a with lastCount := some 0, lost := min 65535 (liveOf s a).lost })) ∧
  (∀ (p : RingPort) (t0 : Nat) (f : Frame) (s : State), arrives p t0 s → admitted s f → f.kind = kSample →
    (∀ side q second since, waitOf s.ring side = some (f.src.toNat, q, second, since) → since + 2000 < t0) →
    let a := f.src.toNat
    let c := f.seq.toNat
    let l := liveOf s a
    let r := ringSearching p s.ring
    let counted := fun (lost : Nat → Nat) => setLive a (fun x => { x with lastCount := some c, lost := min 65535 (min 65535 (lost x.lost) + 1) }) r
    ∃ u t : State, exec (.sampleReceived p t0 f) s = .next t ∧ (noWait s → t = u) ∧ lapses t0 u t ∧
      (l.lastCount = some c → u = { s with ring := r }) ∧
      (l.lastCount = none → u = { s with ring := counted id }) ∧
      (∀ n, l.lastCount = some n → c ≠ n → c ≠ 0 →
        u = { s with ring := counted fun k => k + (if c = successor n then 0 else gap n c) }) ∧
      (∀ n, l.lastCount = some n → c ≠ n → c = 0 → u = { s with ring := counted id, cell := u.cell, link := u.link } ∧
        ((cfgOf s a).role ≠ .mod → u.cell = s.cell ∧ u.link = (raiseNotice (nNodeRestart (cfgOf s a).role a) s).link)))

/-- SAMPLE_RECEIVED as the awaited reply of a MODULE node. From an IN_SERVICE node in a joined ring the wait ends, missed becomes 0, the current side becomes the
port of the attempt, and every present channel is evaluated against its reading (R10, R11, R18, R30, R35, R41); the sample is forwarded exactly as the policy of its
role says (R176), and the next opportunity arises (R21). The first reply of an ABSENT or SILENT node makes it IN_SERVICE (R6, R11), which re-evaluates the
detection blind of the zones (R125). The first frame of a node that is counted may carry any count, 0
too (R16). A restart clears dwell counts and history before the evaluation (R17,
R36). A malformed reply is counted and evaluates nothing (R18). In split mode the reply ends the wait of its side, whichever port it arrives on, and leaves the
current side and the other side's sequence (R15), whose own wait it then ends where that one is over (R10, log entries 62 and 66). -/
def Obligations.ModuleReply : Prop :=
  (∀ (p q : RingPort) (t0 since : Nat) (second : Bool) (f : Frame) (d : ModuleSample) (m : ModuleRec) (s : State),
    let a := f.src.toNat
    awaits p q t0 since second f s → (liveOf s a).state = .inService → newCount f s →
    payloadOf (cfgOf s a) f.payload = some (.mod d) → recOf s a = some m →
    ∃ t : State, exec (.sampleReceived p t0 f) s = .next t ∧ t = { s with ring := t.ring, cell := t.cell, link := t.link } ∧
      (liveOf t a).missed = 0 ∧ (liveOf t a).side = q ∧ (liveOf t a).malformed = false ∧ (liveOf t a).state = .inService ∧
      goesOn .a a (modSeq .a (fun x => { x with phase := .done }) (ringSearching p s.ring)) s t ∧
      (liveOf t a).lastCount = some f.seq.toNat ∧ waitOf t.ring .a = none ∧
      ∃ m' : ModuleRec, recOf t a = some m' ∧ evaluated s a d m m' ∧
        let pol := s.link.policy.getD 0 ⟨.onChange, 50⟩
        let old := s.link.records.getD (a - 1) ⟨none, 0⟩
        let forwarded := pol.policy = .all ∨ (pol.policy = .onChange ∧ (old.mark ≠ some m'.cond.code ∨ pol.every ≤ old.rounds))
        let records := s.link.records.set (a - 1) ⟨some m'.cond.code, 0⟩
        (forwarded → t.link.records = records) ∧ (¬forwarded → t.link.records = s.link.records) ∧
        ((liveOf s a).side = q → s.ring.broken = ringBrokenNow s → m'.cond = m.cond →
          (forwarded → t.link = sendUp s.now s.mgmt.ringTables.rate .station ⟨.forwarded, false, false, f⟩ { s.link with records := records }) ∧
          (¬forwarded → t.link = s.link))) ∧
  (∀ (p q : RingPort) (t0 since : Nat) (second : Bool) (f : Frame) (d : ModuleSample) (m : ModuleRec) (s : State),
    let a := f.src.toNat
    awaits p q t0 since second f s → ((liveOf s a).state = .absent ∨ (liveOf s a).state = .silent) → newCount f s →
    payloadOf (cfgOf s a) f.payload = some (.mod d) → recOf s a = some m →
    ∃ t : State, exec (.sampleReceived p t0 f) s = .next t ∧ (liveOf t a).state = .inService ∧ (liveOf t a).missed = 0 ∧
      (liveOf t a).side = q ∧ (liveOf t a).malformed = false ∧ (liveOf t a).lastCount = some f.seq.toNat ∧
      goesOn .a a (modSeq .a (fun x => { x with phase := .done }) (ringSearching p s.ring)) s t ∧
      (∃ m' : ModuleRec, recOf t a = some m' ∧ evaluated s a d m m') ∧ blindsCurrent t ∧
      t.fire.state = s.fire.state ∧ t.loop = s.loop ∧ t.store = s.store ∧ t.now = s.now ∧ t.pending = s.pending) ∧
  (∀ (p q : RingPort) (t0 since n : Nat) (second : Bool) (f : Frame) (d : ModuleSample) (m : ModuleRec) (s : State),
    let a := f.src.toNat
    let clear := fun (x : Chan) => { x with dwell := 0, level := none }
    awaits p q t0 since second f s → (liveOf s a).state = .inService → (liveOf s a).lastCount = some n → n ≠ 0 → f.seq.toNat = 0 →
    payloadOf (cfgOf s a) f.payload = some (.mod d) → recOf s a = some m →
    ∃ t : State, exec (.sampleReceived p t0 f) s = .next t ∧ t = { s with ring := t.ring, cell := t.cell, link := t.link } ∧
      goesOn .a a (modSeq .a (fun x => { x with phase := .done }) (ringSearching p s.ring)) s t ∧
      (liveOf t a).lastCount = some 0 ∧ (liveOf t a).lost = min 65535 (liveOf s a).lost ∧ (liveOf t a).missed = 0 ∧
      ∃ m' : ModuleRec, recOf t a = some m' ∧
        evaluated s a d { m with cells := m.cells.map clear, temps := m.temps.map clear, history := [] } m') ∧
  (∀ (p q : RingPort) (t0 since : Nat) (second : Bool) (f : Frame) (s : State),
    let a := f.src.toNat
    awaits p q t0 since second f s → newCount f s → payloadOf (cfgOf s a) f.payload = none →
    ∃ t : State, exec (.sampleReceived p t0 f) s = .next t ∧ t = { s with ring := t.ring, link := t.link } ∧
      (liveOf t a).state = (liveOf s a).state ∧ (liveOf t a).missed = 0 ∧ (liveOf t a).side = q ∧ (liveOf t a).malformed = true ∧
      (liveOf t a).malformedCount = min 65535 ((liveOf s a).malformedCount + 1) ∧ (liveOf t a).lastCount = some f.seq.toNat ∧
      waitOf t.ring .a = none ∧
      goesOn .a a (modSeq .a (fun x => { x with phase := .done }) (ringSearching p s.ring)) s t ∧
      ((liveOf s a).side = q → s.ring.broken = ringBrokenNow s →
        t.link = if (liveOf s a).malformed then s.link else (raiseNotice (nMalformed (cfgOf s a).role a f.payload.length) s).link)) ∧
  (∀ (p q : RingPort) (t0 since : Nat) (second : Bool) (f : Frame) (d : ModuleSample) (m : ModuleRec) (s : State),
    let a := f.src.toNat
    let o := match q with | .a => RingPort.b | .b => .a
    arrives p t0 s → s.ring.splitEff ≠ 0 → (seqOf s.ring q).phase = .waiting a q second since →
    (∀ q' second' since', waitOf s.ring o ≠ some (a, q', second', since')) → t0 ≤ since + 2000 →
    admitted s f → f.kind = kSample → (liveOf s a).state = .inService → newCount f s → payloadOf (cfgOf s a) f.payload = some (.mod d) →
    recOf s a = some m →
    ∃ u t : State, exec (.sampleReceived p t0 f) s = .next t ∧ (waitOf s.ring o = none → t = u) ∧ lapses t0 u t ∧
      u = { s with ring := u.ring, cell := u.cell, link := u.link } ∧
      goesOn q a (modSeq q (fun x => { x with phase := .done }) (ringSearching p s.ring)) s u ∧
      (liveOf u a).missed = 0 ∧ (liveOf u a).side = (liveOf s a).side ∧ (liveOf u a).malformed = false ∧ (liveOf u a).state = .inService ∧
      (liveOf u a).lastCount = some f.seq.toNat ∧ waitOf u.ring q = none ∧ seqOf u.ring o = seqOf s.ring o ∧
      ∃ m' : ModuleRec, recOf u a = some m' ∧ evaluated s a d m m')

/-- SAMPLE_RECEIVED as the awaited reply of a METER, COOLANT or CONVERTER node. The first reply of an ABSENT or SILENT METER node makes it IN_SERVICE (R6, R11), and
the meter record is replaced with the ratios floor(1000 V / nominal) and the moment of arrival (R137). A COOLANT sample replaces the readings of its zone (R84) and
starts, keeps or clears the flow-loss timer of the zone's pump (R96). A CONVERTER sample replaces the converter record (R138, R76), meets the precharge condition
(R145), and in OPENING meets the discharge part of the weld check, which completes the opening where both aux inputs read open (R151); that this part stays met is
the model's reading: log entry 15. After each the next opportunity arises (R21). Every clause holds of a restart too, whose count is 0 after another (R17). -/
def Obligations.MeterReply : Prop :=
  (∀ (p q : RingPort) (t0 since : Nat) (second : Bool) (f : Frame) (d : MeterSample) (s : State),
    let a := f.src.toNat
    awaits p q t0 since second f s → (liveOf s a).state = .absent ∨ (liveOf s a).state = .silent ∨ (liveOf s a).state = .inService →
    (liveOf s a).lastCount ≠ some f.seq.toNat → payloadOf (cfgOf s a) f.payload = some (.meter d) →
    ∃ t : State, exec (.sampleReceived p t0 f) s = .next t ∧ (liveOf t a).state = .inService ∧ (liveOf t a).missed = 0 ∧
      goesOn .a a (modSeq .a (fun x => { x with phase := .done }) (ringSearching p s.ring)) s t ∧
      (liveOf t a).lastCount = some f.seq.toNat ∧ t.seqr.meter = some (meterOf s d) ∧
      t.seqr.auxBackup = d.backup ∧ t.fire.state = s.fire.state ∧ t.loop = s.loop ∧ t.store = s.store ∧ t.now = s.now ∧ t.pending = s.pending) ∧
  (∀ (p q : RingPort) (t0 since : Nat) (second : Bool) (f : Frame) (d : MeterSample) (s : State),
    let a := f.src.toNat
    let g := s.mgmt.ringTables.grid
    let m := meterOf s d
    awaits p q t0 since second f s → (liveOf s a).state = .inService → (liveOf s a).lastCount ≠ some f.seq.toNat → payloadOf (cfgOf s a) f.payload = some (.meter d) →
    s.seqr.auxBackup = d.backup →
    ∃ t : State, exec (.sampleReceived p t0 f) s = .next t ∧ t.fire = s.fire ∧ t.cell = s.cell ∧ t.loop = s.loop ∧ t.cool = s.cool ∧
      goesOn .a a (modSeq .a (fun x => { x with phase := .done }) (ringSearching p s.ring)) s t ∧
      t.mgmt = s.mgmt ∧ t.store = s.store ∧ t.now = s.now ∧ t.pending = s.pending ∧
      (s.seqr.state = .connected → s.seqr.blind = false →
        ((∀ i, ¬stageTripped s m i) → ¬rocofTripped s m → t.seqr = { s.seqr with meter := some m, stages := t.seqr.stages, rocofRun := rocofAfter s m } ∧
          ∀ i, i < 6 → (violates g m i → t.seqr.stages.getD i none = some ((s.seqr.stages.getD i none).getD s.now)) ∧
            (¬violates g m i → t.seqr.stages.getD i none = none)) ∧
        (∀ (k : Nat) (c : Nat × Cause), tripOrder[k]? = some c → stageTripped s m c.1 →
          (∀ (j : Nat) (b : Nat × Cause), j < k → tripOrder[j]? = some b → ¬stageTripped s m b.1) →
          t.seqr.state = .tripping ∧ t.seqr.trip = some ⟨c.2, .grid, .recloseWait⟩ ∧ t.env.chg = 0 ∧ t.env.dis = 0) ∧
        ((∀ i, ¬stageTripped s m i) → rocofTripped s m →
          t.seqr.state = .tripping ∧ t.seqr.trip = some ⟨.rocof, .grid, .recloseWait⟩ ∧ t.env.chg = 0 ∧ t.env.dis = 0)) ∧
      (s.seqr.state = .dcReady ∨ s.seqr.state = .recloseWait →
        t.seqr = { s.seqr with meter := some m, healthySince := t.seqr.healthySince } ∧
        (healthyRecord g m → t.seqr.healthySince = some (s.seqr.healthySince.getD s.now)) ∧
        (¬healthyRecord g m → t.seqr.healthySince = none)) ∧
      (s.seqr.state ≠ .connected → s.seqr.state ≠ .dcReady → s.seqr.state ≠ .recloseWait → t.seqr = { s.seqr with meter := some m })) ∧
  (∀ (p q : RingPort) (t0 since z : Nat) (second : Bool) (f : Frame) (d : CoolantSample) (s : State),
    let a := f.src.toNat
    let temp := fun (x : Int) => if x = 0x7FFF ∨ x < -400 ∨ 1250 < x then none else some x
    awaits p q t0 since second f s → (liveOf s a).state = .inService → (liveOf s a).lastCount ≠ some f.seq.toNat →
    payloadOf (cfgOf s a) f.payload = some (.cool d) → z < 4 → z < s.cool.zones.length →
    (zoneCfg s.mgmt.ringTables.cooling z).node = some a → (cfgOf s a).zone = z →
    ∃ t : State, exec (.sampleReceived p t0 f) s = .next t ∧
      zoneLive t z = { zoneLive s z with
        inlet := temp d.inlet, outlet := temp d.outlet, flow := some d.flow, pressure := some d.pressure, status := some d.status,
        state := (zoneLive t z).state } ∧
      (∀ k, k ≠ z → zoneLive t k = { zoneLive s k with state := (zoneLive t k).state }) ∧
      (∀ k, pumpZone s.mgmt.ringTables.cooling k = some z → k < 4 → k < s.cool.pumps.length → (pumpLive s k).state = .running →
        300 ≤ (outLive s k).applied →
        (pumpLive t k).flowLoss = (if d.flow < minFlow s.mgmt.ringTables.cooling k then some ((pumpLive s k).flowLoss.getD s.now) else none)) ∧
      (liveOf t a).missed = 0 ∧ (liveOf t a).state = .inService ∧ (liveOf t a).lastCount = some f.seq.toNat ∧
      goesOn .a a (modSeq .a (fun x => { x with phase := .done }) (ringSearching p s.ring)) s t ∧
      t.fire = s.fire ∧ t.cell = s.cell ∧ t.loop = s.loop ∧ t.store = s.store ∧ t.now = s.now ∧ t.pending = s.pending) ∧
  (∀ (p q : RingPort) (t0 since : Nat) (second : Bool) (f : Frame) (d : ConverterSample) (s : State),
    let a := f.src.toNat
    awaits p q t0 since second f s → (liveOf s a).state = .inService → (liveOf s a).lastCount ≠ some f.seq.toNat →
    payloadOf (cfgOf s a) f.payload = some (.conv d) →
    ∃ t : State, exec (.sampleReceived p t0 f) s = .next t ∧
      t.seqr.conv = some { bus := d.bus, string := d.string, p := d.p, q := d.q, state := d.state, flags := d.flags, at_ := s.now } ∧
      t.gate.conv = some d.state ∧
      (s.seqr.state = .precharge → 0 < d.string → 950 * d.string ≤ 1000 * d.bus → bayCondition s .dcReady = none →
        t.seqr.state = .dcReady ∧ t.seqr.stepSince = none) ∧
      (s.seqr.state = .precharge → ¬(0 < d.string ∧ 950 * d.string ≤ 1000 * d.bus) → t.seqr = { s.seqr with conv := t.seqr.conv }) ∧
      (s.seqr.state = .opening →
        let met := s.seqr.discharged = true ∨ 1000 * d.bus < 100 * d.string
        let open_ := inputReads s .contPosAux = some false ∧ inputReads s .contNegAux = some false
        (met ∧ open_ → openingEnds s t) ∧
        (¬(met ∧ open_) → (t.seqr.discharged = true ↔ met) ∧
          t.seqr = { s.seqr with conv := t.seqr.conv, discharged := t.seqr.discharged })) ∧
      (s.seqr.state ≠ .precharge → s.seqr.state ≠ .opening → t.seqr = { s.seqr with conv := t.seqr.conv }) ∧
      (liveOf t a).missed = 0 ∧ (liveOf t a).state = .inService ∧ (liveOf t a).lastCount = some f.seq.toNat ∧
      goesOn .a a (modSeq .a (fun x => { x with phase := .done }) (ringSearching p s.ring)) s t ∧
      t.fire = s.fire ∧ t.cell = s.cell ∧ t.loop = s.loop ∧ t.store = s.store ∧ t.now = s.now ∧ t.pending = s.pending)

/-- NODE_RSP_RECEIVED within the response window of its node is handed up unchanged on the port of the command, and the window closes at once;
RESPONSE_WINDOW_TIMEOUT closes it 2 ms after the NODE_CMD left. Outside a round the ring is quiet again, in a round the next node is polled (R24). -/
def Obligations.ResponseWindow : Prop :=
  (∀ (p : RingPort) (up : FramePort) (t0 since : Nat) (f : Frame) (s : State),
    let a := f.src.toNat
    arrives p t0 s → s.ring.splitEff = 0 → s.ring.seqB.phase = .idle → s.ring.seqA.phase = .window a p up since → since ≤ t0 →
    t0 ≤ since + 2000 → admitted s f → f.kind = kNodeRsp → (liveOf s a).lastCount = none → s.ring.running = false → s.ring.fallenDue = false →
    ∃ t : State, exec (.nodeRspReceived p t0 f) s = .next t ∧ t = { s with ring := t.ring, link := t.link } ∧
      t.link = sendUp s.now s.mgmt.ringTables.rate up ⟨.forwarded, false, false, f⟩ s.link ∧
      t.ring.seqA.phase = .idle ∧ (liveOf t a).lastCount = some f.seq.toNat ∧ (liveOf t a).lost = min 65535 (liveOf s a).lost) ∧
  (∀ (p : RingPort) (up : FramePort) (d since : Nat) (s : State), s.phase = .running → s.ring.splitEff = 0 →
    s.ring.seqA.phase = .window d p up since → since + 2000 ≤ s.now → (portOf s.ring p).rx.syncAt = none → s.ring.running = false →
    s.ring.fallenDue = false → exec (.responseWindowTimeout p) s = .next { s with ring := modSeq .a (fun q => { q with phase := .idle }) s.ring }) ∧
  (∀ (p : RingPort) (up : FramePort) (d since a : Nat) (r : List Nat) (s : State), s.phase = .running → s.ring.splitEff = 0 →
    s.ring.seqA.phase = .window d p up since → since + 2000 ≤ s.now → (portOf s.ring p).rx.syncAt = none → s.ring.running = true →
    s.ring.seqA.rest = a :: r → exec (.responseWindowTimeout p) s = .next { s with ring := (sendPoll .a a
      (if s.ring.round % 10 = 0 then (cfgOf s a).home else (liveOf s a).side) false s.now
      (modSeq .a (fun q => { q with rest := r }) s.ring)) })

/-- SETPOINT_ACK_RECEIVED (R25, R72, R73). One that reads is passed up to the port of the oldest list entry with its tag, which it removes, and to the Station Link
where no entry has the tag. With the tag in flight the wait ends: a REJECTED one raises SETPOINT_REJECTED with the Forwarded Setpoint's P, after
CONVERTER_UNRESPONSIVE 0 where three timeouts came before it, and the reissue check follows (R75). One that does not match changes nothing else; one that is not six
bytes long is only passed up the Station Link. No acknowledgement is a reply, and a wait that is over then ends (R10, log entries 62 and 66). The model's choice:
the value 0 of SETPOINT_REJECTED where no Forwarded Setpoint exists (log entry 46), and that a result byte of 3 to 255 is taken and is no rejection (log entry
47). -/
def Obligations.AckEndsTheWait : Prop :=
  ∀ (p : RingPort) (t0 : Nat) (f : Frame) (s : State),
    arrives p t0 s → admitted s f → f.kind = kSetpointAck → (cfgOf s f.src.toNat).role = .conv → s.gate.ackCount ≤ 3 →
    let toPort := fun (q : FramePort) => sendUp s.now s.mgmt.ringTables.rate q ⟨.forwarded, false, false, f⟩ s.link
    (parseAck f.payload = none ↔ f.payload.length ≠ 6) ∧
    ∃ u t : State, exec (.setpointAckReceived p t0 f) s = .next t ∧ (noWait s → t = u) ∧ lapses t0 u t ∧
      (parseAck f.payload = none → u = { s with ring := ringSearching p s.ring, link := toPort .station }) ∧
      (∀ k, parseAck f.payload = some k →
        let oldest := s.gate.sent.find? fun e => e.1 == k.tag
        let sent := s.gate.sent.eraseP fun e => e.1 == k.tag
        let up : Link := toPort (if oldest.map (·.2) = some .service then .service else .station)
        let back : Link := if s.gate.ackCount = 3 then (raiseNotice (nUnresponsive false) { s with link := up }).link else up
        ((∀ tag0, s.gate.inFlight ≠ some (k.tag, tag0)) →
          u = { s with ring := ringSearching p s.ring, gate := { s.gate with sent := sent }, link := up }) ∧
        (∀ tag0, s.gate.inFlight = some (k.tag, tag0) →
          u = { s with ring := u.ring, gate := u.gate, link := u.link } ∧
          u.gate = { s.gate with inFlight := none, ackCount := 0, lastAck := some k, sent := sent } ∧
          u.ring = { ringSearching p s.ring with slot := u.ring.slot } ∧ reissueLeaves s u.gate s.ring.slot u.ring.slot ∧
          (k.result ≠ 2 → u.link = back) ∧
          (∀ w, s.gate.forwarded = some w → k.result = 2 → u.link = (raiseNotice (nRejected k.tag w.p) { s with link := back }).link) ∧
          (s.gate.forwarded = none → k.result = 2 → u.link = (raiseNotice (nRejected k.tag 0) { s with link := back }).link)))

/-- ROUND_DUE (R8, R14): on a quiet ring a round starts with SYNC on both ports and the poll of the list; while a round runs it has fallen due and overrun. -/
def Obligations.RoundDueStartsARound : Prop :=
  (∀ (s : State) (d : Nat), s.phase = .running → s.ring.dueAt = some d → d ≤ s.now → s.ring.fallenDue = false → s.ring.running = false →
    ringQuiet s.ring = true → ∃ t : State, exec .roundDue s = .next t ∧ t = { s with ring := t.ring, link := t.link } ∧
      t.ring.round = (s.ring.round + 1) % 65536 ∧ t.ring.running = true ∧ t.ring.roundStart = s.now ∧
      t.ring.dueAt = some (s.now + s.mgmt.ringTables.interval * 1000) ∧ t.ring.fallenDue = false ∧ t.ring.splitEff = s.ring.splitReq ∧
      t.ring.splitPending = false ∧ t.ring.slot = s.ring.slot ∧ t.ring.downQueue = s.ring.downQueue ∧
      (t.ring.portA.tx.map (·.frame)).getLast? = some ⟨63, 0, kSync, BitVec.ofNat 8 (if s.ring.splitPending then nextCount s.ring.count
        else s.ring.count), encU16 t.ring.round⟩ ∧
      t.ring.portA.tx.length = (if s.ring.splitPending then 2 else 1) ∧ t.ring.portB.tx = t.ring.portA.tx ∧
      t.ring.seqA.phase = .sync ∧
      (s.ring.splitReq = 0 → t.ring.seqA.rest = (s.mgmt.ringTables.poll.filter fun a => (liveOf s a).state != .excluded) ∧
        t.ring.seqB = ⟨.idle, []⟩) ∧
      (s.ring.splitReq ≠ 0 → t.ring.seqB.phase = .sync ∧
        t.ring.seqA.rest = ((s.mgmt.ringTables.poll.take (s.ring.splitReq - 1)).filter fun a => (liveOf s a).state != .excluded) ∧
        t.ring.seqB.rest = ((s.mgmt.ringTables.poll.drop (s.ring.splitReq - 1)).filter fun a => (liveOf s a).state != .excluded))) ∧
  (∀ (s : State) (d : Nat), s.phase = .running → s.ring.dueAt = some d → d ≤ s.now → s.ring.fallenDue = false → s.ring.running = true →
    exec .roundDue s = .next { s with ring := { s.ring with fallenDue := true, overrun := true } }) ∧
  (∀ (s : State) (d : Nat), s.phase = .running → s.ring.dueAt = some d → d ≤ s.now → s.ring.fallenDue = false → s.ring.running = false →
    ringQuiet s.ring = false → exec .roundDue s = .next { s with ring := { s.ring with fallenDue := true } })

/-- RING_TX_DONE once ten bits a byte have passed (R1, R10, R21, R24). After a POLL the reply wait opens, or the opportunity arises where the node has been
EXCLUDED meanwhile; after a NODE_CMD the response window opens. After the SYNC of a round, on every port of the side, the opportunity arises; SPLIT before it, or
one of two ports, changes nothing but the port. After the slot's frame the opportunity has ended: in a round the sequence goes on, outside a round the side is
idle and a round that has fallen due starts on a quiet ring (R8). That in split mode such a round waits for the other side too is the model's choice: log
entry 41. -/
def Obligations.RingSendingEnds : Prop :=
  ∀ (p : RingPort) (x : RingTx) (r : List RingTx) (s : State), s.phase = .running → (portOf s.ring p).tx = x :: r →
    (portOf s.ring p).txSince + 10 * (8 + x.frame.payload.length) ≤ s.now →
    let side := if s.ring.splitEff = 0 then .a else p
    let rest := modPort p (fun y => { y with tx := r, txSince := s.now }) s.ring
    let sent : State := { s with ring := rest }
    let idle : State := { s with ring := modSeq side (fun q => { q with phase := .idle }) rest }
    let syncOut := if s.ring.splitEff = 0 then rest.portA.tx = [] ∧ rest.portB.tx = [] else r = []
    (∀ a second, x.purpose = .poll a second → (liveOf s a).state ≠ .excluded →
      exec (.ringTxDone p) s = .next { s with ring := modSeq side (fun q => { q with phase := .waiting a p second s.now }) rest }) ∧
    (∀ a second, x.purpose = .poll a second → (liveOf s a).state = .excluded →
      ∃ t : State, exec (.ringTxDone p) s = .next t ∧ opportunityArises side sent t) ∧
    (∀ d up, x.purpose = .command d up →
      exec (.ringTxDone p) s = .next { s with ring := modSeq side (fun q => { q with phase := .window d p up s.now }) rest }) ∧
    (x.purpose = .broadcast → (seqOf s.ring side).phase = .sync →
      (¬syncOut → exec (.ringTxDone p) s = .next sent) ∧
      (syncOut → ∃ t : State, exec (.ringTxDone p) s = .next t ∧ opportunityArises side sent t)) ∧
    (x.purpose = .slot → s.ring.running = true → ∃ t : State, exec (.ringTxDone p) s = .next t ∧ pollsNext side sent t) ∧
    (x.purpose = .slot → s.ring.running = false →
      (s.ring.fallenDue = false ∨ ringQuiet idle.ring = false → exec (.ringTxDone p) s = .next idle) ∧
      (s.ring.fallenDue = true → ringQuiet idle.ring = true → ∃ t : State, exec (.ringTxDone p) s = .next t ∧
        t = { s with ring := t.ring, link := t.link } ∧ t.ring.running = true ∧ t.ring.round = (s.ring.round + 1) % 65536 ∧
        t.ring.roundStart = s.now ∧ t.ring.fallenDue = false ∧ t.ring.seqA.phase = .sync))

/-- REPLY_TIMEOUT 2 ms after the POLL left, with no frame still being received (R10, R11): the first attempt of a joined ring is repeated on the other port;
after the second, or the one attempt of a side in split mode (R15), the poll is missed, an IN_SERVICE node with three missed polls becomes SILENT, which
re-evaluates the detection blind of the zones (R125), and the next opportunity arises (R21). -/
def Obligations.ReplyTimeoutFollowsUp : Prop :=
  (∀ (a since : Nat) (p : RingPort) (s : State), s.phase = .running → s.ring.splitEff = 0 → s.ring.seqA.phase = .waiting a p false since →
    since + 2000 ≤ s.now → s.ring.portA.rx.syncAt = none → s.ring.portB.rx.syncAt = none →
    exec (.replyTimeout p) s = .next { s with ring := sendPoll .a a (match p with | .a => .b | .b => .a) true s.now s.ring }) ∧
  (∀ (a since : Nat) (p side : RingPort) (second : Bool) (s : State), s.phase = .running →
    (if s.ring.splitEff = 0 then side = .a ∧ second = true else side = p) → (seqOf s.ring side).phase = .waiting a p second since →
    since + 2000 ≤ s.now → s.ring.portA.rx.syncAt = none → s.ring.portB.rx.syncAt = none → hasEntry s a →
    ∃ t : State, exec (.replyTimeout p) s = .next t ∧ attemptEnds side a p second s t ∧
      ((liveOf s a).state = .inService → 2 ≤ (liveOf s a).missed → blindsCurrent t))

/-- TRANSMISSION_OPPORTUNITY (R21, R71), of a joined ring or of one side in split mode, at an opportunity of a round or while no round runs: the slot's frame goes
first, to the destination's side, and is in flight, with the ring's own count where the S48 originated it (R9); then the head of the Downward Insert Queue, after
the removal of heads whose node is UNCONFIGURED or EXCLUDED, each with INSERT_REFUSED (R23); with neither, in split mode with neither for this side, the next poll,
or the end of the sequence, or outside a round nothing. That in split mode an idle side still sends while a round that has fallen due waits for the other side is
the model's choice: log entry 41. -/
def Obligations.OpportunitySendsOne : Prop :=
  (∀ (p : RingPort) (s : State) (f : SlotFrame), s.phase = .running → atSide s p → opportunityAt s p → s.ring.slot = some f →
    (s.ring.splitEff ≠ 0 → (liveOf s f.dst.toNat).side = p) →
    ∃ t : State, exec (.transmissionOpportunity p) s = .next t ∧ t = { s with ring := t.ring, gate := t.gate } ∧
      (f.src ≠ 0 → t.ring = modSeq p (fun q => { q with phase := .sending })
        (sendOn (liveOf s f.dst.toNat).side ⟨slotToFrame f, .slot⟩ s.now { s.ring with slot := none })) ∧
      (f.src = 0 → t.ring = modSeq p (fun q => { q with phase := .sending })
        (sendOn (liveOf s f.dst.toNat).side ⟨slotToFrame { f with seq := BitVec.ofNat 8 s.ring.count }, .slot⟩ s.now
          { s.ring with slot := none, count := if s.ring.count = 63 then 1 else s.ring.count + 1 })) ∧
      t.gate.inFlight = some (f.tag, s.now) ∧ (t.gate.forwarded.map fun w => (w.p, w.q, w.tag, w.flags)) = some (f.p, f.q, f.tag, f.flags) ∧
      t.gate.requested = s.gate.requested ∧ t.gate.ackCount = s.gate.ackCount ∧ (t.gate.sent.getLast?.map (·.1)) = some f.tag) ∧
  (∀ (p : RingPort) (s : State) (f : Frame) (up : FramePort) (r : List (Frame × FramePort)), s.phase = .running → atSide s p →
    opportunityAt s p → slotElsewhere s p → s.ring.downQueue = (f, up) :: r →
    (s.ring.splitEff ≠ 0 → (liveOf s f.dst.toNat).side = p) →
    (liveOf s f.dst.toNat).state ≠ .unconfigured → (liveOf s f.dst.toNat).state ≠ .excluded →
    exec (.transmissionOpportunity p) s = .next { s with ring := (modSeq p (fun q => { q with phase := .sending })
      (sendOn (liveOf s f.dst.toNat).side ⟨f, .command f.dst.toNat up⟩ s.now { s.ring with downQueue := r })) }) ∧
  (∀ (p : RingPort) (s : State) (f : Frame) (up : FramePort) (r : List (Frame × FramePort)), s.phase = .running → atSide s p →
    opportunityAt s p → slotElsewhere s p → s.ring.downQueue = (f, up) :: r →
    ((liveOf s f.dst.toNat).state = .unconfigured ∨ (liveOf s f.dst.toNat).state = .excluded) →
    exec (.transmissionOpportunity p) s = exec (.transmissionOpportunity p)
      (raiseNotice (nInsertRefused f.dst.toNat (liveOf s f.dst.toNat).state.code) { s with ring := { s.ring with downQueue := r } })) ∧
  (∀ (p : RingPort) (s : State), s.phase = .running → atSide s p → opportunityAt s p → slotElsewhere s p → queueElsewhere s p →
    s.ring.running = true → ∃ t : State, exec (.transmissionOpportunity p) s = .next t ∧ pollsNext p s t) ∧
  (∀ (p : RingPort) (s : State), s.phase = .running → atSide s p → opportunityAt s p → slotElsewhere s p → queueElsewhere s p →
    s.ring.running = false → s.ring.fallenDue = false →
    exec (.transmissionOpportunity p) s = .next { s with ring := modSeq p (fun q => { q with phase := .idle }) s.ring })

/-- ROUND_END (R15, R20, R186): the round is over, in split mode once both sequences have ended, and the ring group is applied if a part is staged.
The Bay Summary of the round is published and computed on: it counts, and takes the extremes, flags and zone parts, over the in-service modules (R42,
R43), channels that are not present being UNKNOWN without a value (R28); the cell picture becomes valid once every MODULE of the Poll List has been
heard or is SILENT (R44). With no part staged every history takes up its module's hottest and RUNAWAY is set by the rise (R39, R40). A bit rate that
is applied is marked with its moment (R167). The outlet thresholds of the tables then in force are in use (R83). Where the next round has fallen due
it starts at once, with SYNC and its poll lists, and after an overrun ROUND_OVERRUN tells how long the round was (R8). The model's order: the owners take up
the tables in that of log entry 61, the readers of the summary act in that of log entry 45, the rounds of the forwarding records are counted last (R176, log
entry 36), and ROUND_OVERRUN follows the start of the next round (log entry 12). -/
def Obligations.RoundEndPublishes : Prop :=
  ∀ s : State, s.phase = .running → s.ring.running = true → s.ring.seqA.phase = .done → (s.ring.splitEff ≠ 0 → s.ring.seqB.phase = .done) →
    let ended : Ring := { s.ring with
      running := false, seqA := ⟨.idle, []⟩, seqB := ⟨.idle, []⟩, lastEnd := some s.now, lastEndRound := s.ring.round }
    let t := forwardTick (summaryReactions (cellRoundEnd s.ring.round ((s.now - s.ring.lastEnd.getD s.ring.roundStart) / 1000)
      (applyRingGroup { s with ring := ended })))
    ∃ n : State, exec .roundEnd s = .next n ∧ (s.ring.fallenDue = false → n = t) ∧
      (s.ring.fallenDue = true → n = { t with ring := n.ring, link := n.link } ∧
        n.ring.round = (s.ring.round + 1) % 65536 ∧ n.ring.running = true ∧ n.ring.roundStart = s.now ∧ n.ring.fallenDue = false ∧
        n.ring.overrun = false ∧ n.ring.dueAt = some (s.now + t.mgmt.ringTables.interval * 1000) ∧ n.ring.lastEnd = some s.now ∧
        n.ring.lastEndRound = s.ring.round ∧ n.ring.slot = t.ring.slot ∧ n.ring.downQueue = t.ring.downQueue ∧
        n.ring.splitEff = t.ring.splitReq ∧ n.ring.splitPending = false ∧
        (∀ x, x = n.ring.portA ∨ x = n.ring.portB → (x.tx.map (·.frame)).getLast? = some ⟨63, 0, kSync,
          BitVec.ofNat 8 (if t.ring.splitPending then nextCount t.ring.count else t.ring.count), encU16 n.ring.round⟩) ∧
        n.ring.seqA.phase = .sync ∧
        (n.ring.splitEff = 0 → n.ring.seqA.rest = (t.mgmt.ringTables.poll.filter fun a => (liveOf t a).state != .excluded) ∧
          n.ring.seqB = ⟨.idle, []⟩) ∧
        (n.ring.splitEff ≠ 0 → n.ring.seqB.phase = .sync ∧
          n.ring.seqA.rest = ((t.mgmt.ringTables.poll.take (n.ring.splitEff - 1)).filter fun a => (liveOf t a).state != .excluded) ∧
          n.ring.seqB.rest = ((t.mgmt.ringTables.poll.drop (n.ring.splitEff - 1)).filter fun a => (liveOf t a).state != .excluded)) ∧
        (n.ring.broken = true ↔ n.ring.splitEff = 0 ∧
          ∃ a, 1 ≤ a ∧ a ≤ 40 ∧ (liveOf n a).state = .inService ∧ (liveOf n a).side ≠ (cfgOf n a).home) ∧
        (let told : Link := if n.ring.broken = t.ring.broken then t.link else
          (raiseNotice (nRingBroken n.ring.broken) { t with ring := n.ring }).link
         n.link = if s.ring.overrun = true then
          (raiseNotice (nRoundOverrun ((s.now - s.ring.roundStart) / 1000)) { t with ring := n.ring, link := told }).link else told)) ∧
      t.ring = { ended with nodes := t.ring.nodes, slot := t.ring.slot, broken := t.ring.broken } ∧
      t.now = s.now ∧ t.phase = s.phase ∧ t.store = s.store ∧ t.pending = s.pending ∧
      t.ring.running = false ∧ t.ring.round = s.ring.round ∧ t.ring.lastEnd = some s.now ∧ t.ring.lastEndRound = s.ring.round ∧
      t.ring.seqA = ⟨.idle, []⟩ ∧ t.ring.seqB = ⟨.idle, []⟩ ∧ t.cell.summary.round = s.ring.round ∧
      t.cell.summary.elapsed = (s.now - s.ring.lastEnd.getD s.ring.roundStart) / 1000 ∧ t.env.lastRound = s.ring.round ∧
      (s.mgmt.ringStaged = [] → t.mgmt.ringTables = s.mgmt.ringTables ∧ t.mgmt.ringGen = s.mgmt.ringGen) ∧
      (s.mgmt.ringStaged ≠ [] → t.mgmt.ringTables = s.mgmt.ringStaged.foldl applyRing s.mgmt.ringTables ∧ t.mgmt.ringStaged = [] ∧
        t.mgmt.ringGen = (if 65535 ≤ s.mgmt.ringGen then 1 else s.mgmt.ringGen + 1)) ∧
      (∀ z, z < 4 → z < s.cool.zones.length → (zoneLive t z).warn = (zoneCfg t.mgmt.ringTables.cooling z).outletWarn ∧
        (zoneLive t z).trip = (zoneCfg t.mgmt.ringTables.cooling z).outletTrip) ∧
      ((∃ r, RingPart.rate r ∈ s.mgmt.ringStaged) → t.link.rateAt = some s.now) ∧
      ((∀ r, RingPart.rate r ∉ s.mgmt.ringStaged) → t.link.rateAt = s.link.rateAt) ∧
      (let b := t.cell.summary
       let present := fun (m : ModuleRec) => ∃ a, a ≤ 40 ∧ inServiceRec t a = some m
       let zoned := fun (z : Nat) (m : ModuleRec) => ∃ a, a ≤ 40 ∧ inServiceRec t a = some m ∧ (cfgOf t a).zone = z
       b.inService = countNodes (fun a => (inServiceRec t a).isSome) ∧
       (∀ c, c < 7 → b.counts.getD c 0 = countNodes fun a => (inServiceRec t a).any fun m => m.cond.code == c) ∧
       isMax (fun v => ∃ m x, present m ∧ x ∈ m.cells ∧ x.value = some v) b.vmax ∧
       isMin (fun v => ∃ m x, present m ∧ x ∈ m.cells ∧ x.value = some v) b.vmin ∧
       isMax (fun v => ∃ m x, present m ∧ x ∈ m.temps ∧ x.value = some v) b.tmax ∧
       isMin (fun v => ∃ m x, present m ∧ x ∈ m.temps ∧ x.value = some v) b.tmin ∧
       (b.anyOv = true ↔ ∃ m x, present m ∧ x ∈ m.cells ++ m.temps ∧ x.cond = .ovTrip) ∧
       (b.anyUv = true ↔ ∃ m x, present m ∧ x ∈ m.cells ++ m.temps ∧ x.cond = .uvTrip) ∧
       (b.anyOt = true ↔ ∃ m x, present m ∧ x ∈ m.cells ++ m.temps ∧ x.cond = .otTrip) ∧
       (b.anyCold = true ↔ ∃ m x, present m ∧ x ∈ m.cells ++ m.temps ∧ x.cond = .coldInhibit) ∧
       (b.anySf = true ↔ ∃ m x, present m ∧ x ∈ m.cells ++ m.temps ∧ x.cond = .sensorFault) ∧
       (b.anyRunaway = true ↔ ∃ m, present m ∧ m.runaway = true) ∧
       (∀ z, z < 4 → let p := b.zones.getD z freshZoneSummary
         isMax (fun v => ∃ m, zoned z m ∧ m.hottest = some v) p.hottest ∧
         p.contributing = countNodes (fun a => (inServiceRec t a).any fun m => (cfgOf t a).zone == z && m.hottest.isSome) ∧
         (p.runaway = true ↔ ∃ m, zoned z m ∧ m.runaway = true) ∧
         (p.otTrip = true ↔ ∃ m x, zoned z m ∧ x ∈ m.temps ∧ x.cond = .otTrip)) ∧
       (b.picture = true ↔ s.cell.summary.picture = true ∨ ∀ a ∈ t.mgmt.ringTables.poll, (cfgOf t a).role = .mod →
         (liveOf t a).state = .excluded ∨ (liveOf t a).state = .silent ∨ ∃ m, recOf t a = some m ∧ m.heard = true) ∧
       (s.mgmt.ringStaged = [] → ∀ a m, 1 ≤ a → a ≤ 40 → recOf s a = some m → ∃ m', recOf t a = some m' ∧
         m'.cells = m.cells ∧ m'.temps = m.temps ∧ m'.hottest = m.hottest ∧ m'.heard = m.heard ∧ m'.cond = moduleCond m' ∧
         ((liveOf s a).state ≠ .inService ∨ m.hottest = none → m'.history = [] ∧ m'.runaway = m.runaway) ∧
         (∀ h, (liveOf s a).state = .inService → m.hottest = some h →
           m'.history = (m.history ++ [h]).drop (m.history.length + 1 - (profileOf s a).riseWindow) ∧
           (m'.runaway = true ↔ m.runaway = true ∨ (2 ≤ m'.history.length ∧ (profileOf s a).otWarn ≤ h ∧
             ∃ o, m'.history.head? = some o ∧ (profileOf s a).riseLimit ≤ h - o)))))

/-- EXCLUDE_NODE, READMIT_NODE and SET_SPLIT from the authority holder (R7, R14). That an excluded node is taken from what is left of the running round is the
model's reading: log entry 30. While a reply of the node is awaited the poll ends at once, no retry is sent, and the next opportunity arises (R7, R10, R21), before the
answer (log entry 12). An address that has no entry to act on is INVALID, READMIT_NODE of a node that is not EXCLUDED is REFUSED_STATE, and a split beyond the Poll
List is INVALID. -/
def Obligations.NodeRequests : Prop :=
  (∀ (r : Request) (b : Byte) (s : State), held r s → r.args = [b] → hasEntry s b.toNat → b.toNat ≤ 40 →
    (liveOf s b.toNat).state ≠ .unconfigured → (liveOf s b.toNat).state ≠ .excluded → awaitedSide s.ring b.toNat = none →
    ∃ t : State, exec (.excludeNode r) s = .next t ∧ (liveOf t b.toNat) = { liveOf s b.toNat with state := .excluded } ∧
      t.ring.seqA = { s.ring.seqA with rest := s.ring.seqA.rest.filter (· ≠ b.toNat) } ∧
      t.ring.seqB = { s.ring.seqB with rest := s.ring.seqB.rest.filter (· ≠ b.toNat) } ∧
      t.cell = s.cell ∧ t.loop = s.loop ∧ t.store = s.store ∧ t.now = s.now ∧ t.pending = s.pending) ∧
  (∀ (r : Request) (b : Byte) (side : RingPort) (s : State), held r s → r.args = [b] → hasEntry s b.toNat → b.toNat ≤ 40 →
    (liveOf s b.toNat).state ≠ .unconfigured → (liveOf s b.toNat).state ≠ .excluded → awaitedSide s.ring b.toNat = some side →
    let left := fun (q : PollSeq) => { q with rest := q.rest.filter (· ≠ b.toNat) }
    ∃ u t : State, exec (.excludeNode r) s = .next (answer r 0x0B .done [] t) ∧ opportunityArises side u t ∧
      liveOf u b.toNat = { liveOf s b.toNat with state := .excluded } ∧ (∀ c, c ≠ b.toNat → liveOf u c = liveOf s c) ∧
      u.ring = { s.ring with nodes := u.ring.nodes, slot := u.ring.slot, broken := u.ring.broken, seqA := left s.ring.seqA, seqB := left s.ring.seqB } ∧
      u.cell = s.cell ∧ u.loop = s.loop ∧ u.store = s.store ∧ u.now = s.now ∧ u.pending = s.pending) ∧
  (∀ (r : Request) (b : Byte) (s : State), held r s → r.args = [b] →
    (b.toNat = 0 ∨ 40 < b.toNat ∨ (liveOf s b.toNat).state = .unconfigured →
      exec (.excludeNode r) s = .next (answer r 0x0B .invalid [] (received r s))) ∧
    (1 ≤ b.toNat → b.toNat ≤ 40 → (liveOf s b.toNat).state = .excluded →
      exec (.excludeNode r) s = .next (answer r 0x0B .done [] (received r s))) ∧
    (b.toNat = 0 ∨ 40 < b.toNat → exec (.readmitNode r) s = .next (answer r 0x0C .invalid [] (received r s))) ∧
    (1 ≤ b.toNat → b.toNat ≤ 40 → (liveOf s b.toNat).state ≠ .excluded →
      exec (.readmitNode r) s = .next (answer r 0x0C .refusedState [] (received r s))) ∧
    (s.mgmt.ringTables.poll.length < b.toNat → exec (.setSplit r) s = .next (answer r 0x0D .invalid [] (received r s)))) ∧
  (∀ (r : Request) (b : Byte) (s : State), held r s → r.args = [b] → hasEntry s b.toNat → b.toNat ≤ 40 →
    (liveOf s b.toNat).state = .excluded →
    ∃ t : State, exec (.readmitNode r) s = .next t ∧ (liveOf t b.toNat).state = .absent ∧ (liveOf t b.toNat).missed = 0 ∧
      (liveOf t b.toNat).lastCount = none ∧ (liveOf t b.toNat).malformed = false ∧ (liveOf t b.toNat).lost = (liveOf s b.toNat).lost ∧
      t.cell = s.cell ∧ t.loop = s.loop ∧ t.store = s.store ∧ t.now = s.now ∧ t.pending = s.pending) ∧
  (∀ (r : Request) (b : Byte) (s : State), held r s → r.args = [b] → b.toNat ≤ s.mgmt.ringTables.poll.length →
    exec (.setSplit r) s = .next (answer r 0x0D .done []
      { received r s with ring := { s.ring with splitReq := b.toNat, splitPending := true } }))

/-! ## Cells -/

/-- One evaluation of a channel that is not latched: its condition is kept while it holds, or falls at once to the warning level of the candidate or to NORMAL (R32);
then a candidate that ranks higher counts toward a raise to the least severe level of its run, and a trip latches (R33, R34). Over a run: a condition that ranks
higher is taken after dwell samples in a row and not before, and it is the least severe of the run. While a channel is latched, evaluated samples update its value
and leave its condition at the trip, whatever they read (R34). -/
def Obligations.DwellAndLatch : Prop :=
  (∀ (k : ChanKind) (p : Profile) (x : Chan) (r : Option Int), x.latched = false → x.cond.isTrip = false →
    let c := candidate k p r
    let y := chanEval k p r x
    let raised := fun (b : Cond) (dwell : Nat) (level : Option Cond) =>
      (c.rank ≤ b.rank → y = { x with value := r, cond := b, dwell := 0, level := none }) ∧
      (b.rank < c.rank → ∃ l, (level = none → l = c) ∧
        (∀ l0, level = some l0 → l = if c.rank < l0.rank ∨ (c.rank = l0.rank ∧ c ≠ l0) then c else l0) ∧
        y = if p.dwell ≤ dwell + 1 then { x with value := r, cond := l, dwell := 0, level := none, latched := l.isTrip }
          else { x with value := r, cond := b, dwell := dwell + 1, level := some l })
    (staysIn p r x.cond → raised x.cond x.dwell x.level) ∧
    (¬staysIn p r x.cond → raised (if x.cond ≠ .unknown ∧ c.warning.rank < x.cond.rank then c.warning else .normal) 0 none)) ∧
  (∀ (k : ChanKind) (p : Profile) (x : Chan) (rs : List (Option Int)),
    x.cond.isTrip = false → x.latched = false → x.dwell = 0 → x.level = none → 1 ≤ p.dwell → rs.length = p.dwell →
    (∀ r ∈ rs, staysIn p r x.cond ∧ x.cond.rank < (candidate k p r).rank) →
    let y := rs.foldl (fun x r => chanEval k p r x) x
    (∃ r ∈ rs, y.cond = candidate k p r) ∧ (∀ r ∈ rs, y.cond.rank ≤ (candidate k p r).rank) ∧ y.latched = y.cond.isTrip ∧
      y.dwell = 0 ∧ y.level = none) ∧
  (∀ (k : ChanKind) (p : Profile) (c : Cond) (x : Chan) (rs : List (Option Int)),
    x.cond = .normal → x.latched = false → x.dwell = 0 → x.level = none → 1 ≤ p.dwell → 1 < c.rank →
    (∀ r ∈ rs, candidate k p r = c) → rs.length ≤ p.dwell →
    let y := rs.foldl (fun x r => chanEval k p r x) x
    (rs.length < p.dwell → y.cond = .normal ∧ y.latched = false ∧ y.dwell = rs.length) ∧
    (rs.length = p.dwell → y.cond = c ∧ y.latched = c.isTrip ∧ y.dwell = 0 ∧ y.level = none)) ∧
  (∀ (k : ChanKind) (p : Profile) (x : Chan) (rs : List (Option Int)) (r : Option Int), x.latched = true →
    (rs ++ [r]).foldl (fun x r => chanEval k p r x) x = { x with value := r, dwell := 0, level := none })

/-- CLEAR_TRIPS (R38): in every Module Record a latched channel whose value lies beyond its threshold by the hysteresis takes the candidate of its value;
RUNAWAY falls below the over-temperature warning; the response counts the channels still latched and the modules with RUNAWAY still set. -/
def Obligations.ClearTripsRequest : Prop :=
  (∀ (r : Request) (s : State), held r s → r.args = [] → ∃ t : State, exec (.clearTrips r) s = .next t ∧
    (∃ l, t = answer r 0x10 .done (encU16 (t.cell.recs.map fun o => match o with
        | some m => ((m.cells ++ m.temps).filter (·.latched)).length
        | none => 0).sum ++ encU8 (t.cell.recs.filter fun o => o.any (·.runaway)).length) { received r s with cell := t.cell, link := l }) ∧
    ∀ (a : Nat) (m : ModuleRec), 1 ≤ a → a ≤ 40 → recOf s a = some m → ∃ m' : ModuleRec, recOf t a = some m' ∧
      m'.cells = m.cells.map (chanClear .cell (profileOf s a)) ∧ m'.temps = m.temps.map (chanClear .temp (profileOf s a)) ∧
      m'.runaway = (m.runaway && !(match m.hottest with | some x => decide (x < (profileOf s a).otWarn) | none => false)) ∧
      m'.cond = moduleCond m') ∧
  (∀ (p : Profile) (x : Chan) (v : Int), x.latched = true → x.cond = .ovTrip → x.value = some v →
    (v < p.ovTrip - p.vHyst → chanClear .cell p x = { x with
      cond := candidate .cell p (some v), latched := (candidate .cell p (some v)).isTrip, dwell := 0, level := none }) ∧
    (p.ovTrip - p.vHyst ≤ v → chanClear .cell p x = x)) ∧
  (∀ (p : Profile) (x : Chan) (v : Int), x.latched = true → x.cond = .uvTrip → x.value = some v →
    (p.uvTrip + p.vHyst < v → chanClear .cell p x = { x with
      cond := candidate .cell p (some v), latched := (candidate .cell p (some v)).isTrip, dwell := 0, level := none }) ∧
    (v ≤ p.uvTrip + p.vHyst → chanClear .cell p x = x)) ∧
  (∀ (p : Profile) (x : Chan) (v : Int), x.latched = true → x.cond = .otTrip → x.value = some v →
    (v < p.otTrip - p.tHyst → chanClear .temp p x = { x with
      cond := candidate .temp p (some v), latched := (candidate .temp p (some v)).isTrip, dwell := 0, level := none }) ∧
    (p.otTrip - p.tHyst ≤ v → chanClear .temp p x = x)) ∧
  (∀ (k : ChanKind) (p : Profile) (x : Chan), x.latched = false ∨ x.value = none → chanClear k p x = x)

/-- READ_MODULE, READ_ZONE, READ_DETECTOR, READ_STATUS, READ_NODE, READ_COUNTERS and READ_TABLE are taken on any port, are answered DONE with what
they read, and change nothing but the receiver, the silence timer and what waits to be sent (R45, R101, R135, R183, R184). Two of them field by field: READ_ZONE
(R101) and the ENVELOPE section of READ_STATUS (R64), with the widths and absent values of section 12.2. The model's choice: the parts of a Module Record (log entry
31), the codes of output sources (log entry 8), the presence byte of the pump and the gate set's bits (log entry 25), and the absent value of a restart time that does
not run (log entry 50). -/
def Obligations.ReadingRequests : Prop :=
  ∀ (r : Request) (s : State), taken r s →
    (∀ b res, r.args = [b] → moduleResults (received r s) b.toNat 0 = some res →
      exec (.readModule r) s = .next (answer r 0x03 .done res (received r s))) ∧
    (∀ b k res, r.args = [b, k] → moduleResults (received r s) b.toNat k.toNat = some res →
      exec (.readModule r) s = .next (answer r 0x03 .done res (received r s))) ∧
    (∀ b, r.args = [b] → b.toNat < 4 →
      exec (.readZone r) s = .next (answer r 0x04 .done (zoneResults (received r s) b.toNat) (received r s))) ∧
    (∀ b, r.args = [b] → b.toNat < 24 →
      exec (.readDetector r) s = .next (answer r 0x05 .done (detectorResults (received r s) b.toNat) (received r s))) ∧
    (∀ a b res, r.args = [a, b] → statusResults (received r s) a.toNat b.toNat = some res →
      exec (.readStatus r) s = .next (answer r 0x01 .done res (received r s))) ∧
    (∀ b, r.args = [b] → 1 ≤ b.toNat → b.toNat ≤ 40 →
      exec (.readNode r) s = .next (answer r 0x02 .done (nodeResults (received r s) b.toNat) (received r s))) ∧
    (∀ res, counterResults (received r s) r.args = some res →
      exec (.readCounters r) s = .next (answer r 0x07 .done res (received r s))) ∧
    (∀ (b : Byte) (inUse : Bool), r.args = [b] → b.toNat < 4 →
      let z := zoneLive s b.toNat
      let c := zoneCfg s.mgmt.ringTables.cooling b.toNat
      let out := fun (o : Nat) => BitVec.ofNat 8 (outLive s o).source.code :: (wordBytes (outLive s o).sourceValue ++
        wordBytes (outLive s o).shaped ++ wordBytes (outLive s o).applied)
      (inUse = true ↔ z.outlet ≠ none ∧ ∃ a, c.node = some a ∧ (cfgOf s a).role = .cool ∧ (cfgOf s a).zone = b.toNat ∧
        (liveOf s a).state = .inService) →
      exec (.readZone r) s = .next (answer r 0x04 .done (
        signedOr z.hottest ++ [BitVec.ofNat 8 z.contributing, BitVec.ofNat 8 z.supervised, flagByte z.blind] ++ wordBytes z.demand ++
        signedOr z.inlet ++ signedOr z.outlet ++ wordOr z.flow ++ wordOr z.pressure ++
        [z.status.getD 0xFF, flagByte inUse, BitVec.ofNat 8 z.state.code, flagByte z.counted] ++
        c.pump.elim (List.replicate 14 0) (fun p => 1 :: (out p ++ [BitVec.ofNat 8 (pumpLive s p).state.code, BitVec.ofNat 8 (pumpLive s p).faults] ++
          wordBytes (((pumpLive s p).clock + (pumpLive s p).clockSince.elim 0 (s.now - ·)) / 1000000) ++
          wordOr ((pumpLive s p).restart.map fun t => (t + 30000000 - s.now) / 1000))) ++
        BitVec.ofNat 8 c.fans.length :: c.fans.flatMap fun f => out (4 + f)) (received r s))) ∧
    (r.args = [3, 0] → exec (.readStatus r) s = .next (answer r 0x01 .done ([3, 0, 1] ++ wordBytes s.env.chg ++ wordBytes s.env.dis ++
      wordBytes s.env.chgTarget ++ wordBytes s.env.disTarget ++
      s.env.factors.elim (List.replicate 14 0xFF) (fun f => [f.fvChg, f.fvDis, f.hot, f.cold, f.cool, f.sf, f.blind].flatMap wordBytes) ++
      wordBytes (((List.range 9).filter fun i => s.env.gates.contains (i + 1)).map (2 ^ ·)).sum ++ wordBytes s.env.lastRound) (received r s))) ∧
    (∀ t p res, r.args = [t, p, 0] → appliedPart s.mgmt (t.toNat, p.toNat) = some res →
      exec (.readTable r) s = .next (answer r 0x06 .done res (received r s))) ∧
    (received r s).mgmt = s.mgmt ∧ (received r s).ring = s.ring ∧ (received r s).cell = s.cell ∧ (received r s).lines = s.lines ∧
    (received r s).seqr = s.seqr ∧ (received r s).fire = s.fire ∧ (received r s).cool = s.cool ∧ (received r s).loop = s.loop ∧
    (received r s).env = s.env ∧ (received r s).store = s.store

/-! ## The power envelope -/

/-- The voltage factors (R51), for a taper whose starts and ends lie as R47 demands. -/
def Obligations.VoltageFactors : Prop :=
  ∀ c : Taper, c.vcStart < c.vcEnd → c.vdEnd < c.vdStart →
    fvChg c none = 1000 ∧ fvDis c none = 1000 ∧
    ∀ v : Int,
      (v ≤ c.vcStart → fvChg c (some v) = 1000) ∧ (c.vcEnd ≤ v → fvChg c (some v) = 0) ∧
      (c.vcStart < v → v < c.vcEnd → (fvChg c (some v) : Int) = ⌊(1000 * ((c.vcEnd : ℚ) - v)) / ((c.vcEnd : ℚ) - c.vcStart)⌋) ∧
      (c.vdStart ≤ v → fvDis c (some v) = 1000) ∧ (v ≤ c.vdEnd → fvDis c (some v) = 0) ∧
      (c.vdEnd < v → v < c.vdStart → (fvDis c (some v) : Int) = ⌊(1000 * ((v : ℚ) - c.vdEnd)) / ((c.vdStart : ℚ) - c.vdEnd)⌋)

/-- The value of a curve with rising temperatures (R86; R52 and R53 say the same of the envelope curves): the end values outside, the point values on the
points, and between them the exact interpolation rounded toward minus infinity. -/
def Obligations.CurveValue : Prop :=
  ∀ (ps : List (Int × Nat)) (t : Int), ps.Pairwise (fun x y => x.1 < y.1) → (∀ x ∈ ps, x.2 ≤ 1000) →
    (∀ x, ps.head? = some x → t < x.1 → curveAt ps t = x.2) ∧
    (∀ x, ps.getLast? = some x → x.1 ≤ t → curveAt ps t = x.2) ∧
    (∀ x ∈ ps, t = x.1 → curveAt ps t = x.2) ∧
    (∀ i x y, ps[i]? = some x → ps[i + 1]? = some y → x.1 < t → t < y.1 →
      (curveAt ps t : Int) = x.2 + ⌊(((y.2 : ℚ) - x.2) * ((t : ℚ) - x.1)) / ((y.1 : ℚ) - x.1)⌋) ∧
    curveAt ps t ≤ 1000

/-- The slope steps (R58): max(1, floor(slope × e / 1000)) with e capped at 2000 ms; a limit that is not gated moves by at most twice its slope in one
computation, and by at least 1 kW toward a target that differs. -/
def Obligations.SlopeSteps : Prop :=
  (∀ slope elapsed : Nat, (stepOf slope elapsed : Int) =
    max 1 ⌊((slope : ℚ) * (if 2000 < elapsed then 2000 else elapsed : Nat)) / 1000⌋) ∧
  ∀ target published up down elapsed : Nat, 1 ≤ up → 1 ≤ down →
    let new := moveLimit false target published (stepOf up elapsed) (stepOf down elapsed)
    new ≤ published + 2 * up ∧ published ≤ new + 2 * down ∧ (published < target → published + 1 ≤ new) ∧
    (target < published → new + 1 ≤ published)

/-- One computation (R52, R54 to R59): the curve factors at the greatest and the least temperature, the FACTORS entry of the bay cooling state, F_sf and F_blind
where their flags are set and 1000 elsewhere; the gates of Table 3-4 that hold, the two targets, and the two published limits moved by the slope steps. -/
def Obligations.EnvelopeComputation : Prop :=
  ∀ (b : BaySummary) (bay : CoolState) (s : State),
    let t := envelopeCompute b bay s
    let f := factorsOf s.mgmt.ringTables.envelope b bay s.seqr.blind
    let r := s.mgmt.ringTables.envelope.ratings
    let least := min f.hot (min f.cool (min f.sf f.blind))
    t = { s with env := t.env, ring := { s.ring with slot := t.ring.slot }, link := t.link } ∧
    (let c := s.mgmt.ringTables.envelope
     f.fvChg = fvChg c.taper b.vmax ∧ f.fvDis = fvDis c.taper b.vmin ∧
     (b.tmax = none → f.hot = 1000) ∧ (∀ x, b.tmax = some x → f.hot = curveAt c.hot x) ∧
     (b.tmin = none → f.cold = 1000) ∧ (∀ x, b.tmin = some x → f.cold = curveAt c.cold x) ∧
     (bay = .idle → f.cool = c.factors.coolIdle) ∧ (bay = .running → f.cool = c.factors.coolRunning) ∧
     (bay = .degraded → f.cool = c.factors.coolDegraded) ∧ (bay = .failed → f.cool = c.factors.coolFailed) ∧
     f.sf = (if b.anySf = true then c.factors.sf else 1000) ∧ f.blind = (if s.seqr.blind = true then c.factors.blind else 1000)) ∧
    (∀ g ∈ t.env.gates, 1 ≤ g ∧ g ≤ 9) ∧ (1 ∈ t.env.gates ↔ s.fire.state ≠ .quiet) ∧ (2 ∈ t.env.gates ↔ s.seqr.state ≠ .connected) ∧
    (3 ∈ t.env.gates ↔ inputReads s .estop = some true) ∧ (4 ∈ t.env.gates ↔ b.inService < r.minInService) ∧
    (5 ∈ t.env.gates ↔ b.picture = false) ∧ (6 ∈ t.env.gates ↔ b.anyOv = true) ∧ (7 ∈ t.env.gates ↔ b.anyUv = true) ∧
    (8 ∈ t.env.gates ↔ b.anyOt = true) ∧ (9 ∈ t.env.gates ↔ b.anyCold = true) ∧ t.env.lastRound = b.round ∧ t.env.factors = some f ∧
    ((t.env.chgTarget : Int) = if ∃ g ∈ t.env.gates, g ≠ 7 then 0
      else ⌊((r.chgRated : ℚ) * (min f.fvChg (min f.cold least) : Nat)) / 1000⌋) ∧
    ((t.env.disTarget : Int) = if ∃ g ∈ t.env.gates, g ≠ 6 ∧ g ≠ 9 then 0
      else ⌊((r.disRated : ℚ) * (min f.fvDis least : Nat)) / 1000⌋) ∧
    t.env.chg = (if ∃ g ∈ t.env.gates, g ≠ 7 then 0
      else if s.env.chg < t.env.chgTarget then min t.env.chgTarget (s.env.chg + stepOf r.upSlope b.elapsed)
      else max t.env.chgTarget (s.env.chg - stepOf r.downSlope b.elapsed)) ∧
    t.env.dis = (if ∃ g ∈ t.env.gates, g ≠ 6 ∧ g ≠ 9 then 0
      else if s.env.dis < t.env.disTarget then min t.env.disTarget (s.env.dis + stepOf r.upSlope b.elapsed)
      else max t.env.disTarget (s.env.dis - stepOf r.downSlope b.elapsed))

/-! ## The setpoint path -/

/-- SETPOINT_RECEIVED (R67, R68, R69): accepted from the authority holder for the CONVERTER entry, it replaces the Requested Setpoint and is clamped into the
slot; otherwise the first of the four tests that fails drops it with its notice. -/
def Obligations.SetpointScreened : Prop :=
  ∀ (p : FramePort) (x : TimedFrame) (s : State), comesIn p x.syncAt s → route x.frame = .setpoint →
    let f := x.frame
    let u := frameReceived p s
    (∀ tag pw q, parseSetpoint f.payload = some (tag, pw, q) → roleAddr s .conv = some f.dst.toNat →
      (liveOf s f.dst.toNat).state ≠ .excluded → s.link.holder = p →
      exec (.setpointReceived p x) s = .next { u with
        gate := { u.gate with requested := some ⟨pw, q, tag, match p with | .station => .station | .service => .service, false⟩ },
        ring := { s.ring with slot := some ⟨f.dst, f.src, f.seq, tag, min (max pw (-(s.env.chg : Int))) s.env.dis, q,
          ⟨decide (min (max pw (-(s.env.chg : Int))) s.env.dis ≠ pw), false, false⟩⟩ } }) ∧
    (∀ tag b, f.payload = tag :: b → parseSetpoint f.payload = none →
      exec (.setpointReceived p x) s = .next (raiseNotice (nSetpointDropped tag.toNat 1) u)) ∧
    (∀ tag pw q, parseSetpoint f.payload = some (tag, pw, q) → roleAddr s .conv ≠ some f.dst.toNat →
      exec (.setpointReceived p x) s = .next (raiseNotice (nSetpointDropped tag 2) u)) ∧
    (∀ tag pw q, parseSetpoint f.payload = some (tag, pw, q) → roleAddr s .conv = some f.dst.toNat →
      (liveOf s f.dst.toNat).state = .excluded →
      exec (.setpointReceived p x) s = .next (raiseNotice (nSetpointDropped tag 3) u)) ∧
    (∀ tag pw q, parseSetpoint f.payload = some (tag, pw, q) → roleAddr s .conv = some f.dst.toNat →
      (liveOf s f.dst.toNat).state ≠ .excluded → s.link.holder ≠ p →
      exec (.setpointReceived p x) s = .next (raiseNotice (nAuthorityDeniedSetpoint tag p) u))

/-- ACK_TIMEOUT 500 ms after the setpoint was taken (R74), and SILENCE_EXPIRY at silence_time (R77, R78): the setpoint in flight is given up and counted; the
fallback replaces the Requested Setpoint and is written into the slot where a reissue is possible. Each is followed by the reissue check (R75): a frame is originated
where the Forwarded Setpoint is absent, or the clamp, Q or FALLBACK differs from it, and none where nothing differs. -/
def Obligations.GateTimersExpire : Prop :=
  (∀ (s : State) (tag t0 : Nat), s.phase = .running → s.gate.inFlight = some (tag, t0) → t0 + 500000 ≤ s.now →
    ∃ t : State, exec .ackTimeout s = .next t ∧ t = { s with ring := { s.ring with slot := t.ring.slot }, gate := t.gate, link := t.link } ∧
      t.gate = { s.gate with inFlight := none, ackCount := min 3 (s.gate.ackCount + 1) } ∧
      reissueLeaves s t.gate s.ring.slot t.ring.slot) ∧
  (∀ (s : State) (t0 : Nat), s.phase = .running → s.gate.silent = false → s.link.holder = .station → s.gate.silenceSince = some t0 →
    t0 + s.mgmt.ringTables.setpoint.silenceTime * 1000000 ≤ s.now →
    ∃ t : State, exec .silenceExpiry s = .next t ∧ t = { s with ring := { s.ring with slot := t.ring.slot }, gate := t.gate, link := t.link } ∧
      t.gate.silent = true ∧ t.gate.silenceSince = none ∧ t.gate.forwarded = s.gate.forwarded ∧ t.gate.inFlight = s.gate.inFlight ∧
      t.gate.requested = some ⟨s.mgmt.ringTables.setpoint.fallbackP, 0, (match s.gate.requested with | some r => r.tag | none => 0), .s48, true⟩ ∧
      reissueLeaves s t.gate none t.ring.slot ∧
      (∀ a, s.gate.inFlight = none → s.gate.forwarded = none → roleAddr s .conv = some a → (liveOf s a).state ≠ .excluded →
        t.ring.slot.map (fun f => (f.dst, f.src, f.p, f.q, f.flags.reissued, f.flags.fallback)) = some (BitVec.ofNat 8 a, 0,
          min (max s.mgmt.ringTables.setpoint.fallbackP (-(s.env.chg : Int))) s.env.dis, 0, true, true)))

/-! ## Cooling -/

/-- The minimum stage (R89): an output at rest starts at min_duty + 50, one that runs keeps running down to min_duty, and a source value below min_duty gives
0. -/
def Obligations.MinimumStage : Prop :=
  ∀ (sh : Shaping) (v a : Nat),
    (0 < a → minStage sh v a = if v < sh.minDuty then 0 else v) ∧
    (a = 0 → minStage sh v a = if v < sh.minDuty + 50 then 0 else v) ∧
    (a = 0 → 0 < minStage sh v a → sh.minDuty + 50 ≤ v) ∧ (0 < a → 0 < sh.minDuty → sh.minDuty ≤ v → 0 < minStage sh v a) ∧
    (v < sh.minDuty → minStage sh v a = 0)

/-- At each publication every output's applied duty is moved by the table of R91, v being the shaped value just formed. -/
def Obligations.DutyMovesBySlope : Prop :=
  ∀ (b : BaySummary) (s : State) (o : Nat), o < s.cool.outs.length →
    let t := coolingPass b s
    let sh := s.mgmt.ringTables.cooling.shaping
    let e := if 2000 < b.elapsed then 2000 else b.elapsed
    let step := max 1 (sh.dutySlope * e / 1000)
    let a := (outLive s o).applied
    let v := (outLive t o).shaped
    (outLive t o).applied =
      if o < 4 ∧ ((pumpLive s o).state = .restartWait ∨ (pumpLive s o).state = .locked) then 0
      else if (outLive t o).source = .override then v
      else if a < v ∧ 0 < a then min v (a + step)
      else if a < v ∧ a = 0 then min v (max step sh.minDuty)
      else if v < a ∧ 0 < v then max v (a - step)
      else if v = 0 ∧ 0 < a then (if a - step < sh.minDuty then 0 else a - step)
      else a

/-- Over each run of 8 periods the high time is 8q + L counts (R93), with the dither index starting anywhere. -/
def Obligations.DitherSum : Prop :=
  ∀ d n k : Nat, let q := d * n / 1000
    (((List.range 8).map fun i => highTime d n ((k + i) % 8)).sum = 8 * q + 8 * (d * n - 1000 * q) / 1000)

/-- PWM_REFERENCE_PERIOD, PWM_PERIOD_START and PWM_HIGH_END (R93, R94): the outputs of the period take their phase offset; an output begins its own period with the
next dither index and goes active for its high time, whatever is left of the high time before it being cut off; it ends. With a new period or offset the period in
progress runs on to the new offset, where the next own period begins. The i-th of k active fan outputs of period n has offset floor(i n / k), every other output 0. A
high time that fills its period goes over into the next one. The model's choice: the index advances before it is used (log entry 16), a line
of duty 1000 stays active to the new offset (log entry 17), and an output counts with its configured period (log entry 49). -/
def Obligations.PwmCommands : Prop :=
  (∀ (s : State) (i n : Nat), s.phase = .running → [250, 500, 1000][i]? = some n → (s.now - s.cool.refBase) % n = 0 →
    s.cool.refTaken.getD i none ≠ some s.now → s.cool.outs.length = 12 →
    ∃ t : State, exec (.pwmReferencePeriod n) s = .next t ∧ t = { s with cool := { s.cool with outs := t.cool.outs, refTaken := t.cool.refTaken } } ∧
      t.cool.refTaken = s.cool.refTaken.set i (some s.now) ∧
      ∀ o, o < 12 → outLive t o = if cfgPeriod s.mgmt.ringTables.cooling o ≠ n then outLive s o
        else if (outLive s o).period = n ∧ (outLive s o).offset = phaseOffset s n o then outLive s o
        else { outLive s o with period := n, offset := phaseOffset s n o, nextStart := s.now + phaseOffset s n o }) ∧
  (∀ (s : State) (o i r : Nat), s.phase = .running → o < 12 → (outLive s o).nextStart ≤ s.now → [250, 500, 1000][i]? = some (outLive s o).period →
    s.cool.refTaken.getD i none = some r → s.now < r + (outLive s o).period → o < s.cool.outs.length →
    let x := outLive s o
    let k := (x.dither + 1) % 8
    let h := highTime x.applied x.period k
    exec (.pwmPeriodStart o) s = .next { s with cool := { s.cool with outs := (s.cool.outs.set o
      { x with dither := k, nextStart := x.nextStart + x.period, level := decide (0 < h),
               highEnd := if 0 < h ∧ x.applied < 1000 then some (s.now + h) else none }) } }) ∧
  (∀ (s : State) (o e : Nat), s.phase = .running → (outLive s o).level = true → (outLive s o).highEnd = some e → e ≤ s.now →
    e < (outLive s o).nextStart →
    exec (.pwmHighEnd o) s = .next { s with cool := { s.cool with outs := (s.cool.outs.set o
      { outLive s o with level := false, highEnd := none }) } }) ∧
  (∀ (s : State) (o e : Nat), s.phase = .running → (outLive s o).highEnd = some e → (outLive s o).nextStart ≤ e → exec (.pwmHighEnd o) s = .next s) ∧
  (∀ (s : State) (n o : Nat), o < 12 →
    let active := (List.range 12).filter fun x => decide (4 ≤ x) && cfgPeriod s.mgmt.ringTables.cooling x == n && decide (0 < (outLive s x).applied)
    (o ∈ active → phaseOffset s n o = (active.filter fun x => decide (x < o)).length * n / active.length) ∧
    (o ∉ active → phaseOffset s n o = 0))

/-- FLOW_LOSS_TIMEOUT, RESTART_WAIT_EXPIRY, FAULT_FREE_EXPIRY and CLEAR_PUMP_LOCK (R96, R97, R98): the third fault locks the pump and every fault takes its
duty to 0; the restart starts at min_duty or leaves the pump stopped; a fault-free run clears the fault count; a LOCKED pump that is named is unlocked and another
stays locked; the code 0xFF names all four. At each of these, at a publication, at a COOLANT sample and at a change of the coolant node's state the zones concerned
stand in the state the table of R99 gives, the bay cooling state is the worst of the counted ones (R100), and FAILED, as it arises, is the BAY-class cause COOLING
(R148). With min_duty 0 the restart leaves the pump STOPPED at duty 0, which is the model's choice: log entry 18. So is that a trip in progress keeps its cause (log
entry 13), that the bay is evaluated once after all zones (log entry 22), and that a sample or node state evaluates a zone before the first publication too (log
entry 67). -/
def Obligations.PumpSupervision : Prop :=
  (∀ (s : State) (p t0 : Nat), s.phase = .running → p < 4 → p < s.cool.pumps.length → p < s.cool.outs.length →
    (pumpLive s p).flowLoss = some t0 → t0 + 10000000 ≤ s.now →
    ∃ t : State, exec (.flowLossTimeout p) s = .next t ∧ (outLive t p).applied = 0 ∧
      ((pumpLive s p).state = .running → zonesSee p t) ∧ coolingSeen s t ∧
      pumpLive t p = (let n := (pumpLive s p).faults + 1
        { state := if n < 3 then .restartWait else .locked, faults := n, clock := 0, clockSince := none, flowLoss := none,
          restart := if n < 3 then some s.now else none }) ∧
      t.fire = s.fire ∧ t.loop = s.loop ∧ t.cell = s.cell ∧ t.now = s.now ∧ t.store = s.store ∧ t.pending = s.pending) ∧
  (∀ (s : State) (p t0 : Nat), s.phase = .running → p < 4 → p < s.cool.pumps.length → p < s.cool.outs.length →
    (pumpLive s p).state = .restartWait → (pumpLive s p).restart = some t0 → t0 + 30000000 ≤ s.now →
    ∃ t : State, exec (.restartWaitExpiry p) s = .next t ∧
      (let v := (outLive t p).shaped
       (outLive t p).applied = if v = 0 then 0 else if (outLive t p).source = .override then v
         else s.mgmt.ringTables.cooling.shaping.minDuty) ∧
      (pumpLive t p).state = (if 0 < (outLive t p).applied then .running else .stopped) ∧ (pumpLive t p).restart = none ∧
      (pumpLive t p).faults = (pumpLive s p).faults ∧ zonesSee p t ∧ coolingSeen s t ∧
      t.fire = s.fire ∧ t.loop = s.loop ∧ t.cell = s.cell ∧ t.now = s.now ∧ t.store = s.store ∧ t.pending = s.pending) ∧
  (∀ (s : State) (p t0 : Nat), s.phase = .running → (pumpLive s p).clockSince = some t0 → 300000000 ≤ (pumpLive s p).clock + (s.now - t0) →
    exec (.faultFreeExpiry p) s = .next { s with cool := { s.cool with pumps := (s.cool.pumps.set p
      { pumpLive s p with faults := 0, clock := 0, clockSince := some s.now }) } }) ∧
  (∀ (r : Request) (b : Byte) (s : State), held r s → r.args = [b] → b.toNat < 4 → b.toNat < s.cool.pumps.length →
    b.toNat < s.cool.outs.length → (pumpLive s b.toNat).state = .locked →
    ∃ t : State, exec (.clearPumpLock r) s = .next t ∧ (pumpLive t b.toNat).faults = 0 ∧ (pumpLive t b.toNat).restart = none ∧
      (pumpLive t b.toNat).state = (if 0 < (outLive t b.toNat).applied then .running else .stopped) ∧
      (∀ p, p < 4 → p ≠ b.toNat → (pumpLive s p).state = .locked → (pumpLive t p).state = .locked) ∧
      zonesSee b.toNat t ∧ coolingSeen s t ∧
      t.fire = s.fire ∧ t.loop = s.loop ∧ t.cell = s.cell ∧ t.now = s.now ∧ t.store = s.store ∧ t.pending = s.pending) ∧
  (∀ (r : Request) (s : State), held r s → r.args = [0xFF] → s.cool.pumps.length = 4 → s.cool.outs.length = 12 →
    ∃ t : State, exec (.clearPumpLock r) s = .next t ∧
      (∀ p, p < 4 → (pumpLive t p).state ≠ .locked ∧
        ((pumpLive s p).state = .locked → (pumpLive t p).faults = 0 ∧ (pumpLive t p).restart = none ∧
          (pumpLive t p).state = (if 0 < (outLive t p).applied then .running else .stopped))) ∧
      (∀ p, p < 4 → zonesSee p t) ∧ coolingSeen s t ∧
      t.fire = s.fire ∧ t.loop = s.loop ∧ t.cell = s.cell ∧ t.now = s.now ∧ t.store = s.store ∧ t.pending = s.pending) ∧
  (∀ (b : BaySummary) (s : State), let t := coolingPass b s
    (∀ z, z < 4 → z < t.cool.zones.length → zoneStands t z ∧ ((zoneLive t z).counted = true ↔ moduleServes t z)) ∧ coolingSeen s t) ∧
  (∀ (a z : Nat) (s : State), let t := coolNode a s
    z < 4 → z < t.cool.zones.length → (zoneCfg s.mgmt.ringTables.cooling z).node = some a → (cfgOf s a).role = .cool → (cfgOf s a).zone = z →
    zoneStands t z ∧ coolingSeen s t) ∧
  (∀ (p q : RingPort) (t0 since z : Nat) (second : Bool) (f : Frame) (d : CoolantSample) (s : State),
    let a := f.src.toNat
    awaits p q t0 since second f s → (liveOf s a).state = .inService → (liveOf s a).lastCount ≠ some f.seq.toNat →
    payloadOf (cfgOf s a) f.payload = some (.cool d) → z < 4 → z < s.cool.zones.length →
    (zoneCfg s.mgmt.ringTables.cooling z).node = some a → (cfgOf s a).zone = z →
    ∃ t : State, exec (.sampleReceived p t0 f) s = .next t ∧ zoneStands t z ∧ coolingSeen s t)

/-! ## The detector loop -/

/-- LOOP_ROUND_DUE and LOOP_ROUND_START (R108, R110): a due round waits for an idle Loop Master, then polls the supervised detectors in table order; with none it
ends at once, with the time in ms since the previous round end or its own start. -/
def Obligations.LoopRounds : Prop :=
  (∀ (s : State) (d : Nat), s.phase = .running → s.loop.fallenDue = false → s.loop.dueAt = some d → d ≤ s.now →
    exec .loopRoundDue s = .next { s with loop := { s.loop with fallenDue := true } }) ∧
  (∀ (s : State) (d : Nat) (ds : List Nat) (st : ScriptStep) (r : List ScriptStep), s.phase = .running → s.loop.fallenDue = true →
    loopIdle s.loop = true → (List.range 24).filter (fun d => (detCfg s d).supervised) = d :: ds →
    s.mgmt.loopTables.scripts.getD (detCfg s d).script [] = st :: r → st.lead ≠ .release →
    exec .loopRoundStart s = .next { s with loop := { s.loop with
      round := (s.loop.round + 1) % 65536, running := true, roundStart := s.now, fallenDue := false, rest := ds, polled := [d],
      dueAt := some (s.now + s.mgmt.loopTables.interval * 1000), act := .running ⟨.polled d, st :: r, []⟩, actSince := s.now,
      signals := stepSignals (.polled d) st } }) ∧
  (∀ (s : State), s.phase = .running → s.loop.fallenDue = true → loopIdle s.loop = true →
    (List.range 24).filter (fun d => (detCfg s d).supervised) = [] →
    ∃ t : State, exec .loopRoundStart s = .next t ∧ t.loop.round = (s.loop.round + 1) % 65536 ∧ t.loop.running = false ∧
      t.loop.lastEnd = some s.now ∧ t.loop.lastEndRound = t.loop.round ∧
      t.loop.lastElapsed = (s.now - s.loop.lastEnd.getD s.now) / 1000 ∧ t.loop.polled = [] ∧ t.fire.picture = true ∧
      t.loop.dueAt = some (s.now + s.mgmt.loopTables.interval * 1000) ∧ t.now = s.now ∧ t.store = s.store)

/-- LOOP_BYTE_DONE (R103, R106, R107). The signalling of a written byte shows its bits, most significant first, and then the released data line at the clock
pulses; that of a step takes nine bit periods of 10 µs and leaves the lines as the next bus state has them. Once they have passed, the bus state follows the step, its
result is recorded and the next step goes to the bus. A byte of a polled script that is not acknowledged ends the script NO_ANSWER with the bus FREE, and the next
detector is polled. The last byte of a polled script gives its detector the reading, of one byte or of two with the high byte first, which R121, R122 and R123 evaluate, and the
detection blind of the zones is re-evaluated with its detector (R125). That conditions add no bit period
is the model's choice: log entry 34. -/
def Obligations.LoopBytes : Prop :=
  (∀ b : Byte, clocked ⟨false, true⟩ (writeSignals b) = (List.range 8).map (fun i => b.getMsbD i) ++ [true]) ∧
  (∀ (o : ScriptOwner) (st : ScriptStep) (x : LoopLines), st.lead ≠ .release → signalTime (stepSignals o st) = 90 ∧
    ((stepSignals o st).body ++ (stepSignals o st).tail).foldl drive x = restLines (busAfter st) ∧
    (st.read = false → ((stepSignals o st).body ++ (stepSignals o st).ifNotAck).foldl drive x = ⟨true, true⟩)) ∧
  (∀ (ack : Bool) (x : Byte) (r : ScriptRun) (st nx : ScriptStep) (s : State), s.phase = .running → s.loop.act = .running r →
    r.steps[r.results.length]? = some st → r.steps[r.results.length + 1]? = some nx → nx.lead ≠ .release → (st.read = true ∨ ack = true) →
    s.loop.actSince + signalTime s.loop.signals ≤ s.now →
    ∃ t : State, exec (.loopByteDone ack x) s = .next t ∧ t = { s with loop := t.loop, link := t.link } ∧
      t.loop = { s.loop with bus := busAfter st, lines := restLines (busAfter st), actSince := s.now, signals := stepSignals r.owner nx,
                             busFault := if st.lead = .openBus then false else s.loop.busFault,
                             act := .running { r with results := r.results ++ [if st.read then .byte x else .ack] } }) ∧
  (∀ (x : Byte) (r : ScriptRun) (st nx : ScriptStep) (d e : Nat) (es : List Nat) (ns : List ScriptStep) (s : State), s.phase = .running →
    s.loop.act = .running r → r.owner = .polled d → r.steps[r.results.length]? = some st → st.read = false → s.loop.running = true →
    s.loop.rest = e :: es → s.loop.manual = none → s.loop.hold = none → d < s.fire.dets.length →
    s.mgmt.loopTables.scripts.getD (detCfg s e).script [] = nx :: ns → nx.lead ≠ .release →
    s.loop.actSince + signalTime s.loop.signals ≤ s.now →
    ∃ t : State, exec (.loopByteDone false x) s = .next t ∧ t.loop.bus = .free ∧ t.loop.act = .running ⟨.polled e, nx :: ns, []⟩ ∧
      t.loop.lines = ⟨true, true⟩ ∧ t.loop.signals = stepSignals (.polled e) nx ∧
      t.loop.rest = es ∧ blindsCurrent t ∧ (detLive t d).noAnswer = min 3 ((detLive s d).noAnswer + 1) ∧
      (detLive t d).state = (if 2 ≤ (detLive s d).noAnswer ∧ (detLive s d).latched = false then .fault else (detLive s d).state)) ∧
  (∀ (ack : Bool) (y b lo : Byte) (r : ScriptRun) (st : ScriptStep) (d x : Nat) (s : State),
    let c := detCfg s d
    let l := detLive s d
    let res := r.results ++ [if st.read then .byte y else .ack]
    s.phase = .running → s.loop.act = .running r → r.owner = .polled d → r.steps[r.results.length]? = some st →
    r.steps.length = r.results.length + 1 → st.lead ≠ .release → st.tail = .lastStop → (st.read = true ∨ ack = true) →
    s.loop.running = true → s.loop.rest = [] → s.loop.manual = none → s.loop.hold = none → s.mgmt.loopStaged = [] →
    d < s.fire.dets.length → res[c.readingStep - 1]? = some (.byte b) →
    (c.width = 1 ∧ x = b.toNat) ∨ (c.width = 2 ∧ 1 ≤ c.readingStep ∧ res[c.readingStep]? = some (.byte lo) ∧ x = 256 * b.toNat + lo.toNat) →
    s.loop.actSince + signalTime s.loop.signals ≤ s.now →
    ∃ t : State, exec (.loopByteDone ack y) s = .next t ∧ t.loop.bus = .free ∧ t.loop.running = false ∧ t.loop.act = .idle ∧
      t.loop.lastEnd = some s.now ∧ blindsCurrent t ∧ detLive t d =
        if x = (if c.width = 1 then 0xFF else 0xFFFF) then { l with noAnswer := 0, last := none, confirm := 0, state := if l.latched then l.state else .fault }
        else if l.latched = true then { l with noAnswer := 0, last := some x, confirm := 0 }
        else if c.kind = .callPoint then { l with
          noAnswer := 0, last := some x, state := if x = 0 then .normal else .alarm, latched := decide (x ≠ 0) }
        else if c.alarm ≤ x ∧ 1 ≤ l.confirm then { l with noAnswer := 0, last := some x, confirm := 0, state := .alarm, latched := true }
        else if c.alarm ≤ x then { l with noAnswer := 0, last := some x, confirm := 1, state := .preAlarm }
        else { l with noAnswer := 0, last := some x, confirm := 0, state :=
          if c.preAlarm ≤ x ∨ (l.state = .preAlarm ∧ c.preAlarm ≤ x + c.hysteresis) then .preAlarm else .normal })

/-- LOOP_LINE_STUCK, BUS_RECOVERY_DONE and BUS_CLOSE_DONE (R104, R105, R109): a line low for more than 25 ms at any of the four points of a running script ends it
BUS_STUCK, counts it and begins a recovery; a closing that meets a stuck line is followed by a recovery and keeps the result of its script; in a recovery a second
stuck line leaves the bus FREE. At the end of a recovery or a closing a polled script that waited for it is handed over, BUS_STUCK or COMPLETE (R120), and the next
detector is polled or a queued LOOP_RUN starts; a manual script that waited is answered. After one with nothing waiting the bus is FREE with both lines released. That the result of the script is held
back until the recovery ends is the model's choice (log entry 19), and so are the level of the clock line while a repeated start waits for the data line (log entry 34),
and that a RELEASE whose closing meets a stuck line, or a WRITE not acknowledged whose stop does, ends BUS_STUCK with its step not run (log entry 21). -/
def Obligations.BusRecovery : Prop :=
  (∀ (p : LinePoint) (since : Nat) (r : ScriptRun) (st : ScriptStep) (s : State), s.phase = .running → s.loop.act = .running r →
    r.steps[r.results.length]? = some st → (p = .beforeStart → st.lead = .openBus) → (p = .repeatedStart → st.lead = .reopen) →
    (p = .stopData → st.tail = .lastStop ∨ st.read = false) → s.loop.actSince ≤ since → since + 25000 < s.now →
    ∃ t : State, exec (.loopLineStuck ⟨p, since⟩) s = .next t ∧ t = { s with loop := t.loop, link := t.link } ∧
      t.loop = { s.loop with stuck := min 65535 (s.loop.stuck + 1), busFault := true, actSince := s.now,
                             signals := recoverySignals, lines := ⟨p != .repeatedStart, true⟩,
                             act := .recovering (some ⟨r.owner, .busStuck, r.results ++
                               List.replicate (r.steps.length - r.results.length) .notRun⟩) false }) ∧
  (∀ (p : LinePoint) (since : Nat) (e : Option ScriptEnd) (s : State), s.phase = .running → s.loop.act = .closing e →
    (∀ x ∈ e, .released ∉ x.results) → p = .clockRelease ∨ p = .stopData → s.loop.actSince ≤ since → since + 25000 < s.now →
    ∃ t : State, exec (.loopLineStuck ⟨p, since⟩) s = .next t ∧ t = { s with loop := t.loop, link := t.link } ∧
      t.loop = { s.loop with stuck := min 65535 (s.loop.stuck + 1), busFault := true, actSince := s.now,
                             signals := recoverySignals, lines := ⟨true, true⟩, act := .recovering e false }) ∧
  (∀ (p : LinePoint) (since : Nat) (e : ScriptEnd) (s : State), s.phase = .running → s.loop.act = .closing (some e) →
    .released ∈ e.results → p = .clockRelease ∨ p = .stopData → s.loop.actSince ≤ since → since + 25000 < s.now →
    ∃ t : State, exec (.loopLineStuck ⟨p, since⟩) s = .next t ∧ t = { s with loop := t.loop, link := t.link } ∧
      t.loop = { s.loop with stuck := min 65535 (s.loop.stuck + 1), busFault := true, actSince := s.now,
                             signals := recoverySignals, lines := ⟨true, true⟩, act := .recovering (some ⟨e.owner, .busStuck,
                               e.results.map fun x => if x = .released then .notRun else x⟩) false }) ∧
  (∀ (p : LinePoint) (since : Nat) (b : Bool) (s : State), s.phase = .running → s.loop.act = .recovering none b →
    s.loop.manual = none → s.loop.running = false → p = .clockRelease ∨ p = .stopData → s.loop.actSince ≤ since → since + 25000 < s.now →
    ∃ t : State, exec (.loopLineStuck ⟨p, since⟩) s = .next t ∧ t = { s with loop := t.loop, link := t.link } ∧
      t.loop = { s.loop with stuck := if b then min 65535 (s.loop.stuck + 1) else s.loop.stuck, busFault := s.loop.busFault || b,
                             bus := .free, lines := ⟨true, true⟩, act := .idle, actSince := s.now, signals := ⟨[], [], []⟩ }) ∧
  (∀ (d e : Nat) (es : List Nat) (nx : ScriptStep) (ns : List ScriptStep) (res : List StepResult) (b : Bool) (s : State), s.phase = .running →
    s.loop.running = true → s.loop.rest = e :: es → s.loop.manual = none → s.loop.hold = none → d < s.fire.dets.length →
    s.mgmt.loopTables.scripts.getD (detCfg s e).script [] = nx :: ns → nx.lead ≠ .release →
    s.loop.actSince + signalTime s.loop.signals ≤ s.now →
    let polls := fun (t : State) => t.loop.bus = .free ∧ t.loop.lines = ⟨true, true⟩ ∧ t.loop.act = .running ⟨.polled e, nx :: ns, []⟩ ∧
      t.loop.signals = stepSignals (.polled e) nx ∧ t.loop.rest = es ∧ t.loop.stuck = s.loop.stuck
    (s.loop.act = .recovering (some ⟨.polled d, .busStuck, res⟩) b → ∃ t : State, exec .busRecoveryDone s = .next t ∧ polls t ∧
      (detLive t d).noAnswer = min 3 ((detLive s d).noAnswer + 1) ∧ (detLive t d).last = (detLive s d).last ∧
      (detLive t d).state = (if 2 ≤ (detLive s d).noAnswer ∧ (detLive s d).latched = false then .fault else (detLive s d).state)) ∧
    (∀ x : Byte, (detCfg s d).width = 1 → res[(detCfg s d).readingStep - 1]? = some (.byte x) →
      let read := fun (t : State) => (detLive t d).noAnswer = 0 ∧ (detLive t d).last = if x = 0xFF then none else some x.toNat
      (s.loop.act = .closing (some ⟨.polled d, .complete, res⟩) → ∃ t : State, exec .busCloseDone s = .next t ∧ polls t ∧ read t) ∧
      (s.loop.act = .recovering (some ⟨.polled d, .complete, res⟩) b → ∃ t : State, exec .busRecoveryDone s = .next t ∧ polls t ∧ read t))) ∧
  (∀ (d : Nat) (res : List StepResult) (m : Manual) (st : ScriptStep) (ss : List ScriptStep) (b : Bool) (s : State), s.phase = .running →
    s.loop.act = .recovering (some ⟨.polled d, .busStuck, res⟩) b → s.loop.rest ≠ [] → s.loop.manual = some m → m.steps = st :: ss →
    st.lead ≠ .release → s.loop.hold = none → s.fire.state = .quiet → ¬preAlarmExists s →
    s.loop.actSince + signalTime s.loop.signals ≤ s.now →
    ∃ t : State, exec .busRecoveryDone s = .next t ∧ t.loop.bus = .free ∧ t.loop.act = .running ⟨.manual, st :: ss, []⟩ ∧
      t.loop.manual = some { m with running := true } ∧ t.loop.rest = s.loop.rest) ∧
  (∀ (m : Manual) (e : ScriptEnd) (b : Bool) (s : State), s.phase = .running → e.owner = .manual → s.loop.manual = some m →
    s.loop.running = false → s.loop.actSince + signalTime s.loop.signals ≤ s.now →
    let answered : State := { s with
      loop := { s.loop with bus := .free, lines := ⟨true, true⟩, act := .idle, actSince := s.now, signals := ⟨[], [], []⟩,
                            manual := none, hold := none }
      link := sendUp s.now s.mgmt.ringTables.rate m.port ⟨.response, true, false, rspFrame m.src m.id 0x17 .done
        (encU8 (match e.result with | .complete => 0 | .noAnswer => 1 | .busStuck => 2 | .aborted => 3) ++ encU8 e.results.length ++
          e.results.flatMap StepResult.bytes)⟩ s.link }
    (s.loop.act = .recovering (some e) b → exec .busRecoveryDone s = .next answered) ∧
    (s.loop.act = .closing (some e) → exec .busCloseDone s = .next answered)) ∧
  (∀ (b : Bool) (s : State), s.phase = .running → s.loop.act = .recovering none b → s.loop.manual = none → s.loop.running = false →
    s.loop.actSince + signalTime s.loop.signals ≤ s.now → exec .busRecoveryDone s = .next { s with loop := { s.loop with
      bus := .free, lines := ⟨true, true⟩, act := .idle, actSince := s.now, signals := ⟨[], [], []⟩ } }) ∧
  (∀ (s : State), s.phase = .running → s.loop.act = .closing none → s.loop.manual = none → s.loop.running = false →
    s.loop.actSince + signalTime s.loop.signals ≤ s.now → exec .busCloseDone s = .next { s with loop := { s.loop with
      bus := .free, lines := ⟨true, true⟩, act := .idle, actSince := s.now, signals := ⟨[], [], []⟩ } })

/-- LOOP_RUN, LOOP_ABORT and HOLD_EXPIRY (R111 to R114): a script whose steps follow one another is taken on a quiet Loop Master, walked from the bus state of a hold
in force, and waits for its answer. It is refused INVALID where it does not read, REFUSED_STATE where a step is not allowed or the fire state is not QUIET, and BUSY
where the slot is taken; behind a polled script it is QUEUED and starts when that script has ended, and while the bus is being closed or recovered otherwise it is
RUNNING at once and starts when the bus is FREE (log entry 20). Its last byte answers it, and a hold of 2 s begins where the bus is left held. An abort answers a queued or running script
ABORTED, closes a held bus, or finds nothing; an expired hold closes the bus. The model's choice: a recovery which an abort begins finds the clock line low (log
entry 34), and LOOP_HOLD_EXPIRED is raised, and the hold ends, at the expiry, before the closing has run (log entry 75). -/
def Obligations.ManualTransactions : Prop :=
  (∀ (r : Request) (s : State), held r s → manualScript r = none → exec (.loopRun r) s = .next (answer r 0x17 .invalid [] (received r s))) ∧
  (∀ (r : Request) (ss : List ScriptStep) (s : State), held r s → manualScript r = some ss →
    let from_ : BusState := match s.loop.hold with | some h => h.busState | none => .free
    (walk from_ ss = none ∨ s.fire.state ≠ .quiet → exec (.loopRun r) s = .next (answer r 0x17 .refusedState [] (received r s))) ∧
    (walk from_ ss ≠ none → s.fire.state = .quiet → s.loop.manual ≠ none →
      exec (.loopRun r) s = .next (answer r 0x17 .busy [] (received r s))) ∧
    (walk from_ ss ≠ none → s.fire.state = .quiet → s.loop.manual = none → polledRuns s.loop →
      exec (.loopRun r) s = .next { received r s with loop := { s.loop with manual := some ⟨r.port, r.src, r.id, ss, false⟩ } }) ∧
    (walk from_ ss ≠ none → s.fire.state = .quiet → s.loop.manual = none → busBusy s.loop →
      exec (.loopRun r) s = .next { received r s with loop := { s.loop with manual := some ⟨r.port, r.src, r.id, ss, true⟩ } })) ∧
  (∀ (m : Manual) (st : ScriptStep) (ss : List ScriptStep) (s : State), s.phase = .running → s.loop.manual = some m → m.steps = st :: ss →
    st.lead ≠ .release → s.loop.hold = none → s.loop.actSince + signalTime s.loop.signals ≤ s.now →
    let starts : State := { s with loop := { s.loop with bus := .free, lines := ⟨true, true⟩, act := .running ⟨.manual, st :: ss, []⟩,
                                                         actSince := s.now, signals := stepSignals .manual st,
                                                         manual := some { m with running := true } } }
    (s.loop.act = .closing none → exec .busCloseDone s = .next starts) ∧
    (∀ b, s.loop.act = .recovering none b → exec .busRecoveryDone s = .next starts)) ∧
  (∀ (x : Byte) (r : ScriptRun) (st nx : ScriptStep) (d : Nat) (m : Manual) (ns : List ScriptStep) (s : State), s.phase = .running →
    s.loop.act = .running r → r.owner = .polled d → r.steps[r.results.length]? = some st → st.read = false → s.loop.rest ≠ [] →
    s.loop.manual = some m → m.steps = nx :: ns → nx.lead ≠ .release → s.loop.hold = none → s.fire.state = .quiet → ¬preAlarmExists s →
    s.loop.actSince + signalTime s.loop.signals ≤ s.now →
    ∃ t : State, exec (.loopByteDone false x) s = .next t ∧ t.loop.bus = .free ∧ t.loop.act = .running ⟨.manual, nx :: ns, []⟩ ∧
      t.loop.manual = some { m with running := true } ∧ t.loop.rest = s.loop.rest) ∧
  (∀ (r : Request) (st : ScriptStep) (ss : List ScriptStep) (s : State), held r s → manualScript r = some (st :: ss) → st.lead ≠ .release →
    walk (match s.loop.hold with | some h => h.busState | none => .free) (st :: ss) ≠ none → s.fire.state = .quiet → s.loop.manual = none →
    s.loop.act = .idle → exec (.loopRun r) s = .next { received r s with loop := { s.loop with
      act := .running ⟨.manual, st :: ss, []⟩, actSince := s.now, signals := stepSignals .manual st,
      hold := s.loop.hold.map fun h => ⟨h.busState, (match h.since with | some t => h.left - (s.now - t) | none => h.left), none⟩,
      manual := some ⟨r.port, r.src, r.id, st :: ss, true⟩ } }) ∧
  (∀ (ack : Bool) (x : Byte) (r : ScriptRun) (st : ScriptStep) (m : Manual) (s : State), s.phase = .running → s.loop.act = .running r →
    r.owner = .manual → r.steps[r.results.length]? = some st → r.steps.length = r.results.length + 1 → st.lead ≠ .release →
    (st.read = true ∨ ack = true) → st.tail ≠ .lastStop → s.loop.manual = some m → s.loop.busFault = false →
    s.loop.actSince + signalTime s.loop.signals ≤ s.now →
    let res := r.results ++ [if st.read then .byte x else .ack]
    exec (.loopByteDone ack x) s = .next { s with
      loop := { s.loop with bus := busAfter st, lines := restLines (busAfter st), act := .idle, signals := ⟨[], [], []⟩,
                            manual := none, hold := some ⟨busAfter st, 2000000, some s.now⟩ }
      link := sendUp s.now s.mgmt.ringTables.rate m.port ⟨.response, true, false, rspFrame m.src m.id 0x17 .done
        (encU8 0 ++ encU8 res.length ++ res.flatMap StepResult.bytes)⟩ s.link }) ∧
  (∀ (r : Request) (s : State), held r s → r.args = [] → s.loop.manual = none → s.loop.hold = none →
    exec (.loopAbort r) s = .next (answer r 0x18 .done [0] (received r s))) ∧
  (∀ (r : Request) (m : Manual) (s : State), held r s → r.args = [] → s.loop.manual = some m → m.running = false →
    exec (.loopAbort r) s = .next (answer r 0x18 .done [1] (answerAs false m.port m.src m.id 0x17 .done
      (encU8 3 ++ encU8 m.steps.length ++ (m.steps.flatMap fun _ => [4, 0])) { received r s with loop := { s.loop with manual := none } }))) ∧
  (∀ (r : Request) (m : Manual) (u : ScriptRun) (s : State), held r s → r.args = [] → s.loop.manual = some m → m.running = true →
    s.loop.act = .running u →
    let res := u.results ++ List.replicate (m.steps.length - u.results.length) .notRun
    exec (.loopAbort r) s = .next (answer r 0x18 .done [2] (answerAs false m.port m.src m.id 0x17 .done
      (encU8 3 ++ encU8 res.length ++ res.flatMap StepResult.bytes) { received r s with loop := { s.loop with
        manual := none, hold := none, act := .recovering none true, actSince := s.now, signals := recoverySignals,
        lines := ⟨false, true⟩ } }))) ∧
  (∀ (r : Request) (m : Manual) (s : State), held r s → r.args = [] → s.loop.manual = some m → m.running = true →
    let ended := fun (l : Loop) => answer r 0x18 .done [2] (answerAs false m.port m.src m.id 0x17 .done
      (encU8 3 ++ encU8 m.steps.length ++ (m.steps.flatMap fun _ => [4, 0])) { received r s with loop := { l with manual := none, hold := none } })
    (s.loop.act = .closing none → exec (.loopAbort r) s = .next (ended { s.loop with
      act := .recovering none true, actSince := s.now, signals := recoverySignals, lines := ⟨false, true⟩ })) ∧
    (∀ b, s.loop.act = .recovering none b → exec (.loopAbort r) s = .next (ended s.loop))) ∧
  (∀ (r : Request) (s : State), held r s → r.args = [] → s.loop.manual = none → s.loop.hold.isSome = true →
    exec (.loopAbort r) s = .next (answer r 0x18 .done [3] { received r s with loop := { s.loop with
      hold := none, act := .closing none, actSince := s.now, signals := closeSignals s.loop.bus } })) ∧
  (∀ (b : BusState) (left t0 : Nat) (s : State), s.phase = .running → s.loop.hold = some ⟨b, left, some t0⟩ → t0 + left ≤ s.now →
    let closing : Loop := { s.loop with hold := none, act := .closing none, actSince := s.now, signals := closeSignals s.loop.bus }
    exec .holdExpiry s = .next (raiseNotice (nLoopHoldExpired s.loop.bus) { s with loop := closing }))

/-! ## Fire -/

/-- COUNTDOWN_EXPIRY, RELEASE_PULSE_EXPIRY and SOUNDER_PHASE_TOGGLE (R130, R131, R134): RELEASED with the door closed starts the pulse and drives RELEASE; the pulse
ends after 2 s; the sounder phase of PRE_ALARM turns over each second, while silenced too (the model's choice: log entry 74). One evaluation of the fire state, which follows each hand-over, publication, loop-group
application and change of DOOR or HOLD (R127, R128, R129, R130): in RELEASE_PENDING the countdown freezes with what is left of it when HOLD becomes active, and runs on
when HOLD becomes inactive. The model's choice: HOLD counts as inactive before its first report (log entry 54), and a release_delay of 0 with HOLD inactive
releases within the same evaluation (log entry 33). -/
def Obligations.FireTimersExpire : Prop :=
  (∀ (s : State) (left t0 : Nat), s.phase = .running → s.fire.state = .releasePending → s.fire.countdown = some ⟨left, some t0⟩ →
    t0 + left ≤ s.now → inputReads s .door = some true →
    ∃ t : State, exec .countdownExpiry s = .next t ∧
      t.fire = { s.fire with state := .released, countdown := none, pulse := some s.now, silenced := false, sounder := false, sounderSince := s.now } ∧
      (s.lines.control = true → s.lines.cut = false → outLevel t 17 = true) ∧
      t.loop = s.loop ∧ t.cell = s.cell ∧ t.store = s.store ∧ t.now = s.now ∧ t.pending = s.pending) ∧
  (∀ (s : State) (t0 : Nat), s.phase = .running → s.fire.pulse = some t0 → t0 + 2000000 ≤ s.now →
    ∃ t : State, exec .releasePulseExpiry s = .next t ∧ t = { s with fire := { s.fire with pulse := none }, lines := t.lines, link := t.link } ∧
      t.lines.inputs = s.lines.inputs ∧ t.lines.forces = s.lines.forces ∧
      (s.lines.control = true → coilsUnforced s → outLevel t 17 = false)) ∧
  (∀ (s : State), s.phase = .running → s.fire.state = .preAlarm → s.fire.sounderSince + 1000000 ≤ s.now →
    ∃ t : State, exec .sounderPhaseToggle s = .next t ∧ t = { s with lines := t.lines, link := t.link, fire := { s.fire with
        sounder := !s.fire.sounder, sounderSince := s.fire.sounderSince + 1000000 } } ∧
      t.lines.inputs = s.lines.inputs ∧ t.lines.forces = s.lines.forces) ∧
  (∀ (announce : Bool) (s : State),
    let t := fireEval announce s
    let c := s.mgmt.loopTables.fire
    let armed := c.releaseEnabled = true ∧ inputReads s .door = some true
    let held := inputReads s .hold = some true
    t.fire.dets = s.fire.dets ∧ t.now = s.now ∧ t.cell = s.cell ∧ t.store = s.store ∧
    (s.fire.state = .quiet ∨ s.fire.state = .preAlarm → ¬alarmExists s → ¬preAlarmExists s → t.fire.state = .quiet) ∧
    (s.fire.state = .quiet ∨ s.fire.state = .preAlarm → ¬alarmExists s → preAlarmExists s → t.fire.state = .preAlarm) ∧
    (((s.fire.state = .quiet ∨ s.fire.state = .preAlarm) ∧ alarmExists s) ∨ s.fire.state = .alarm →
      (¬armed → t.fire.state = .alarm) ∧
      (s.fire.state = .alarm → ¬armed → t = if announce = true ∧ c.releaseEnabled = true then raiseNotice nReleaseInhibited s else s) ∧
      (armed → c.releaseDelay = 0 → ¬held → t.fire.state = .released ∧ t.fire.countdown = none ∧ t.fire.pulse = some s.now) ∧
      (armed → c.releaseDelay ≠ 0 ∨ held → t.fire.state = .releasePending ∧
        t.fire.countdown = some ⟨c.releaseDelay * 1000000, if inputReads s .hold = some true then none else some s.now⟩)) ∧
    (s.fire.state = .releasePending → ¬armed → t.fire.state = .alarm ∧ t.fire.countdown = none) ∧
    (s.fire.state = .releasePending → armed → ∀ left since, s.fire.countdown = some ⟨left, since⟩ →
      (∀ t0, held → since = some t0 → t.fire = { s.fire with countdown := some ⟨left - (s.now - t0), none⟩ }) ∧
      (¬held → since = none → left ≠ 0 → t.fire = { s.fire with countdown := some ⟨left, some s.now⟩ }) ∧
      (¬held → since = none → left = 0 → t.fire.state = .released ∧ t.fire.countdown = none ∧ t.fire.pulse = some s.now) ∧
      ((held ↔ since = none) → t = s)) ∧
    (s.fire.state = .released → t = s))

/-- FIRE_RESET and SILENCE (R132, R133): an accepted reset ends the countdown, the pulse and every latch, re-evaluates the detection blind of the zones (R125) and returns to PRE_ALARM where a pre-alarm source is left, and to QUIET where
none is; SILENCE silences the
sounder until the state rises. In QUIET both are refused, and a detector that still reads its alarm refuses the reset by its index: the first in table order that
is no call point, else the first call point. The byte of a refusal in QUIET, and the first of several call points, are the model's choice: log entry 26. -/
def Obligations.FireRequests : Prop :=
  (∀ (r : Request) (s : State), held r s → r.args = [] → s.fire.state ≠ .quiet → (∀ d, ¬lastBlocks s d) →
    ∃ t : State, exec (.fireReset r) s = .next t ∧ (preAlarmExists t → t.fire.state = .preAlarm) ∧ (¬preAlarmExists t → t.fire.state = .quiet) ∧
      t.fire.countdown = none ∧
      t.fire.pulse = none ∧ t.fire.silenced = false ∧ blindsCurrent t ∧
      (∀ d, d < 24 → (detLive t d).latched = false ∧ (detLive t d).confirm = 0 ∧ (detLive t d).last = (detLive s d).last ∧
        ((detLive s d).latched = false → (detLive t d).state = (detLive s d).state) ∧
        (d < s.fire.dets.length → (detLive s d).latched = true → (detLive t d).state =
          if (detLive s d).noAnswer = 3 ∨ (detLive s d).last = none then .fault
          else if (detCfg s d).kind ≠ .callPoint ∧ ∃ x ∈ (detLive s d).last, (detCfg s d).preAlarm ≤ x then .preAlarm else .normal)) ∧
      t.cell = s.cell ∧ t.store = s.store ∧ t.now = s.now ∧ t.pending = s.pending) ∧
  (∀ (r : Request) (d : Nat) (s : State), held r s → r.args = [] → s.fire.state ≠ .quiet → lastBlocks s d →
    ((detCfg s d).kind ≠ .callPoint ∧ ∀ e, e < d → lastBlocks s e → (detCfg s e).kind = .callPoint) ∨
      ((detCfg s d).kind = .callPoint ∧ ∀ e, lastBlocks s e → (detCfg s e).kind = .callPoint ∧ d ≤ e) →
    exec (.fireReset r) s = .next (answer r 0x15 .refusedState (encU8 d) (received r s))) ∧
  (∀ (r : Request) (s : State), held r s → r.args = [] → s.fire.state = .quiet →
    exec (.fireReset r) s = .next (answer r 0x15 .refusedState [0xFF] (received r s))) ∧
  (∀ (r : Request) (s : State), held r s → r.args = [] → s.fire.state ≠ .quiet →
    ∃ t : State, exec (.silence r) s = .next t ∧ t = { received r s with fire := { s.fire with silenced := true }, lines := t.lines, link := t.link } ∧
      t.lines.inputs = s.lines.inputs ∧ t.lines.forces = s.lines.forces ∧
      (s.lines.control = true → s.lines.forces.getD 18 none = none → outLevel t 18 = false)) ∧
  (∀ (r : Request) (s : State), held r s → r.args = [] → s.fire.state = .quiet →
    exec (.silence r) s = .next (answer r 0x16 .refusedState [] (received r s)))

/-! ## The grid connection -/

/-- The step timers of the sequencer, the healthy wait and the blind limit (R141, R142, R145, R146, R149, R151): the state each leads to, what it records, and the
lockout each failure ends in. The onset of metering blind, also as the METER node becomes SILENT in CONNECTED, makes the stage timers idle and the ROCOF run count 0
and starts the blind timer; its end, also as the node is IN_SERVICE again, clears flag and timer (R142). -/
def Obligations.SequencerTimersExpire : Prop :=
  (∀ (s : State) (t0 : Nat), s.phase = .running → s.seqr.state = .precharge → s.seqr.stepSince = some t0 → t0 + 5000000 ≤ s.now →
    ∃ t : State, exec .prechargeTimeout s = .next t ∧ t.seqr.state = .opening ∧ t.seqr.stepSince = some s.now ∧
      t = { s with seqr := t.seqr, lines := t.lines, link := t.link }) ∧
  (∀ (s : State) (t0 : Nat), s.phase = .running → (s.seqr.state = .dcReady ∨ s.seqr.state = .recloseWait) → s.seqr.healthySince = some t0 →
    t0 + s.mgmt.ringTables.grid.returnDelay * 1000000 ≤ s.now → bayCondition s .closing = none →
    ∃ t : State, exec .healthyWaitMet s = .next t ∧ t.seqr.state = .closing ∧ t.seqr.closePulse = true ∧ t.seqr.stepSince = some s.now ∧
      t = { s with seqr := t.seqr, lines := t.lines, link := t.link }) ∧
  (∀ (s : State) (t0 : Nat), s.phase = .running → s.seqr.state = .closing → inputReads s .breakerAux ≠ some true →
    s.seqr.stepSince = some t0 → t0 + 500000 ≤ s.now →
    ∃ t : State, exec .closeTimeout s = .next t ∧ t.seqr.state = .tripping ∧ t.seqr.trip = some ⟨.closeFail, .grid, .recloseWait⟩ ∧
      t.seqr.stepSince = some s.now ∧ t.seqr.closePulse = false ∧ t.seqr.reclose = s.seqr.reclose ∧
      t = { s with seqr := t.seqr, lines := t.lines, link := t.link }) ∧
  (∀ (s : State) (t0 : Nat), s.phase = .running → s.seqr.state = .connected → s.seqr.blind = true → s.seqr.blindSince = some t0 →
    t0 + s.mgmt.ringTables.grid.blindLimit * 1000000 ≤ s.now →
    ∃ t : State, exec .meterBlindLimit s = .next t ∧ t.seqr.state = .tripping ∧ t.seqr.trip = some ⟨.meterLost, .grid, .recloseWait⟩ ∧
      t.seqr.blind = false ∧ t.seqr.blindSince = none ∧ t.seqr.connectedSince = none ∧ t.env.chg = 0 ∧ t.env.dis = 0 ∧ 2 ∈ t.env.gates ∧
      t = { s with env := t.env, ring := { s.ring with slot := t.ring.slot }, seqr := t.seqr, lines := t.lines, link := t.link }) ∧
  (∀ (s : State) (t0 : Nat), s.phase = .running → s.seqr.state = .tripping → inputReads s .breakerAux ≠ some false →
    s.seqr.stepSince = some t0 → t0 + 500000 ≤ s.now →
    ∃ t : State, exec .tripTimeout s = .next t ∧ t.seqr.state = .lockedOut ∧ t.seqr.reason = .breakerFail ∧ t.seqr.reclose = 0 ∧
      t = { s with seqr := t.seqr, lines := t.lines, link := t.link, mgmt := handLatch true .breakerFail s.mgmt }) ∧
  (∀ (s : State) (t0 : Nat), s.phase = .running → s.seqr.state = .opening → s.seqr.stepSince = some t0 → t0 + 2000000 ≤ s.now →
    ∃ t : State, exec .openingTimeout s = .next t ∧ t.seqr.state = .lockedOut ∧ t.seqr.reason = .welded ∧ t.seqr.reclose = 0 ∧
      t = { s with seqr := t.seqr, lines := t.lines, link := t.link, mgmt := handLatch true .welded s.mgmt }) ∧
  (∀ s : State, let blind := s.seqr.state = .connected ∧ ¬serves s .meter
    (blind → s.seqr.blind = false → blindEval s = raiseNotice (nMeterBlind true) { s with seqr := { s.seqr with
      blind := true, blindSince := some s.now, stages := List.replicate 6 none, rocofRun := 0 } }) ∧
    (¬blind → s.seqr.blind = true → blindEval s = raiseNotice (nMeterBlind false) { s with seqr := { s.seqr with
      blind := false, blindSince := none } }) ∧
    ((blind ↔ s.seqr.blind = true) → blindEval s = s)) ∧
  (∀ (a since : Nat) (p : RingPort) (s : State), s.phase = .running → s.ring.splitEff = 0 → s.ring.seqA.phase = .waiting a p true since →
    since + 2000 ≤ s.now → s.ring.portA.rx.syncAt = none → s.ring.portB.rx.syncAt = none → hasEntry s a → roleAddr s .meter = some a →
    (liveOf s a).state = .inService → 2 ≤ (liveOf s a).missed → s.seqr.state = .connected → s.seqr.blind = false →
    ∃ t : State, exec (.replyTimeout p) s = .next t ∧ (liveOf t a).state = .silent ∧
      (t.seqr.state = .connected → t.seqr = { s.seqr with
        blind := true, blindSince := some s.now, stages := List.replicate 6 none, rocofRun := 0, healthySince := none }) ∧
      (s.cool.bay = .failed ∨ t.cool.bay ≠ .failed → t.seqr.state = .connected)) ∧
  (∀ (p q : RingPort) (t0 since : Nat) (second : Bool) (f : Frame) (d : MeterSample) (s : State),
    let a := f.src.toNat
    awaits p q t0 since second f s → (liveOf s a).state = .silent → (liveOf s a).lastCount ≠ some f.seq.toNat →
    payloadOf (cfgOf s a) f.payload = some (.meter d) → roleAddr s .meter = some a → s.seqr.blind = true →
    ∃ t : State, exec (.sampleReceived p t0 f) s = .next t ∧ (liveOf t a).state = .inService ∧ t.seqr.blind = false ∧
      t.seqr.blindSince = none)

/-- The pulses and clocks of the sequencer (R146, R147, R149, R150, R153): the close pulse ends, 900 s connected clear the reclose counter, a trip goes on to its
continuation once BREAKER_AUX reads open, and a stray trip ends or fails. That no further stray
trip starts after a failed one is the model's choice: log entry 73. -/
def Obligations.SequencerPulsesEnd : Prop :=
  (∀ (s : State) (t0 : Nat), s.phase = .running → s.seqr.state = .closing → s.seqr.closePulse = true → s.seqr.stepSince = some t0 →
    t0 + 200000 ≤ s.now → ∃ t : State, exec .closePulseEnd s = .next t ∧
      t = { s with seqr := { s.seqr with closePulse := false }, lines := t.lines, link := t.link } ∧
      (s.lines.control = true → coilsUnforced s → outLevel t 12 = false)) ∧
  (∀ (s : State) (t0 : Nat), s.phase = .running → s.seqr.state = .connected → s.seqr.connectedSince = some t0 → t0 + 900000000 ≤ s.now →
    exec .connectedClockExpiry s = .next { s with seqr := { s.seqr with reclose := 0 } }) ∧
  (∀ (s : State) (t0 : Nat) (c : Cause) (k : CauseClass), s.phase = .running → s.seqr.state = .tripping → s.seqr.stepSince = some t0 →
    t0 + 200000 ≤ s.now → inputReads s .breakerAux = some false →
    (s.seqr.trip = some ⟨c, k, .opening⟩ → ∃ t : State, exec .tripMinPulseExpiry s = .next t ∧ t.seqr.state = .opening ∧
      t.seqr.pendingLockout = s.seqr.pendingLockout ∧ t = { s with seqr := t.seqr, lines := t.lines, link := t.link }) ∧
    (s.seqr.trip = some ⟨c, k, .recloseWait⟩ → s.seqr.reclose < 3 → bayCondition s .recloseWait = none →
      ∃ t : State, exec .tripMinPulseExpiry s = .next t ∧ t.seqr.state = .recloseWait ∧ t.seqr.reclose = s.seqr.reclose + 1 ∧
        t = { s with seqr := t.seqr, lines := t.lines, link := t.link }) ∧
    (s.seqr.trip = some ⟨c, k, .recloseWait⟩ → 3 ≤ s.seqr.reclose →
      ∃ t : State, exec .tripMinPulseExpiry s = .next t ∧ t.seqr.state = .opening ∧ t.seqr.pendingLockout = some .recloseLimit ∧
        t = { s with seqr := t.seqr, lines := t.lines, link := t.link })) ∧
  (∀ (s : State) (t0 : Nat) (c : Cause), s.phase = .running → s.seqr.stray = some ⟨c, t0⟩ → t0 + 200000 ≤ s.now →
    inputReads s .breakerAux = some false → ∃ t : State, exec .strayTripMinPulse s = .next t ∧
      t = { s with seqr := { s.seqr with stray := none }, lines := t.lines, link := t.link }) ∧
  (∀ (s : State) (t0 : Nat) (c : Cause), s.phase = .running → s.seqr.stray = some ⟨c, t0⟩ → t0 + 500000 ≤ s.now →
    inputReads s .breakerAux ≠ some false → (s.seqr.state = .open_ ∨ s.seqr.state = .opening ∨ s.seqr.state = .lockedOut) →
    ∃ t : State, exec .strayTripTimeout s = .next t ∧ t.seqr.state = .lockedOut ∧ t.seqr.reason = .breakerFail ∧ t.seqr.stray = none ∧
      t = { s with seqr := t.seqr, lines := t.lines, link := t.link, mgmt := handLatch true .breakerFail s.mgmt })

/-- CONNECT, DISCONNECT and RELEASE_LOCKOUT (R144, R148, R152): CONNECT in OPEN enters PRECHARGE when every precondition of Table 8-4 holds and is refused by the first that fails, and in any other
state with STATE; DISCONNECT
clears the reclose counter and opens; in CLOSING it trips, in TRIPPING it turns a continuation of RECLOSE_WAIT into OPENING, and elsewhere only the counter changes;
RELEASE_LOCKOUT leaves LOCKED_OUT and clears the latch record, and is refused in any other state. That its refusals carry the codes that STATE and FIRE have as
results of CONNECT is the model's choice: log entry 8. The model's reading: in TRIPPING the record keeps the cause and class of the trip (log entry 13), and the
SEQ_TRIP of the DISCONNECT comes before its response (log entry 12). -/
def Obligations.SequencerRequests : Prop :=
  (∀ (r : Request) (s : State), held r s → r.args = [] → s.seqr.state = .open_ → (∀ c, connectPre s c) →
    ∃ t : State, exec (.connect r) s = .next t ∧ t.seqr.state = .precharge ∧ t.seqr.stepSince = some s.now ∧
      t = { received r s with seqr := t.seqr, lines := t.lines, link := t.link }) ∧
  (∀ (r : Request) (c : Nat) (s : State), held r s → r.args = [] → s.seqr.state = .open_ → ¬connectPre s c → (∀ k, k < c → connectPre s k) →
    exec (.connect r) s = .next (answer r 0x12 .refusedState (encU8 c) (received r s))) ∧
  (∀ (r : Request) (s : State), held r s → r.args = [] → s.seqr.state ≠ .open_ →
    exec (.connect r) s = .next (answer r 0x12 .refusedState (encU8 13) (received r s))) ∧
  (∀ (r : Request) (s : State), held r s → r.args = [] → s.seqr.state = .connected →
    ∃ t : State, exec (.disconnect r) s = .next t ∧ t.seqr.state = .tripping ∧ t.seqr.trip = some ⟨.disconnect, .bay, .opening⟩ ∧
      t.seqr.reclose = 0 ∧ t.env.chg = 0 ∧ t.env.dis = 0 ∧ t.fire = s.fire ∧ t.mgmt = s.mgmt ∧ t.loop = s.loop ∧ t.cool = s.cool ∧ t.store = s.store) ∧
  (∀ (r : Request) (s : State), held r s → r.args = [] →
    (s.seqr.state = .precharge ∨ s.seqr.state = .dcReady ∨ s.seqr.state = .recloseWait) →
    ∃ t : State, exec (.disconnect r) s = .next t ∧ t.seqr.state = .opening ∧ t.seqr.reclose = 0 ∧ t.seqr.stepSince = some s.now ∧
      t = { received r s with seqr := t.seqr, lines := t.lines, link := t.link }) ∧
  (∀ (r : Request) (s : State), held r s → r.args = [] → (s.seqr.state = .open_ ∨ s.seqr.state = .opening ∨ s.seqr.state = .lockedOut) →
    exec (.disconnect r) s = .next (answer r 0x13 .done (encU8 s.seqr.state.code) { received r s with seqr := { s.seqr with reclose := 0 } })) ∧
  (∀ (r : Request) (s : State), held r s → r.args = [] → s.seqr.state = .closing →
    ∃ t : State, exec (.disconnect r) s = .next t ∧ t.seqr.state = .tripping ∧ t.seqr.trip = some ⟨.disconnect, .bay, .opening⟩ ∧
      t.seqr.reclose = 0 ∧ t.seqr.stepSince = some s.now ∧ t = { received r s with seqr := t.seqr, lines := t.lines, link := t.link }) ∧
  (∀ (r : Request) (s : State), held r s → r.args = [] → s.seqr.state = .tripping →
    let q : Sequencer := { s.seqr with reclose := 0 }
    (∀ c cl, s.seqr.trip = some ⟨c, cl, .recloseWait⟩ → exec (.disconnect r) s = .next (answer r 0x13 .done (encU8 s.seqr.state.code)
      (raiseNotice (nSeqTrip false .disconnect 0) { received r s with seqr := { q with trip := some ⟨c, cl, .opening⟩ } }))) ∧
    ((∀ c cl, s.seqr.trip ≠ some ⟨c, cl, .recloseWait⟩) →
      exec (.disconnect r) s = .next (answer r 0x13 .done (encU8 s.seqr.state.code) { received r s with seqr := q }))) ∧
  (∀ (r : Request) (s : State), held r s → r.args = [] → s.seqr.state ≠ .lockedOut →
    exec (.releaseLockout r) s = .next (answer r 0x14 .refusedState (encU8 13) (received r s))) ∧
  (∀ (r : Request) (s : State), held r s → r.args = [] → s.seqr.state = .lockedOut → s.fire.state = .quiet →
    ∃ t : State, exec (.releaseLockout r) s = .next t ∧ t.seqr.state = .open_ ∧ t.seqr.reason = .none ∧ t.seqr.reclose = 0 ∧
      t = { received r s with seqr := t.seqr, lines := t.lines, link := t.link, mgmt := handLatch false .none s.mgmt }) ∧
  (∀ (r : Request) (s : State), held r s → r.args = [] → s.seqr.state = .lockedOut → s.fire.state ≠ .quiet →
    exec (.releaseLockout r) s = .next (answer r 0x14 .refusedState (encU8 1) (received r s)))

/-! ## The output lines and the inputs -/

/-- INPUT_RAW_CHANGE and DEBOUNCE_STABLE (R157, R158): a changed raw level starts the timer, and 20 ms of stability make it the debounced level, which is handed to
its readers. ESTOP active drops both limits (R60) and is a BAY-class trip cause (R148), inactive it ends its gate. BREAKER_AUX closed connects in CLOSING (R146), with metering
blind from the start where no METER is IN_SERVICE (R142), is
the cause BREAKER_STRAY in PRECHARGE, DC_READY and RECLOSE_WAIT and starts a stray trip in OPEN, OPENING and LOCKED_OUT (R153); open, it trips CONNECTED with
BREAKER_OPENED (R147), and ends a trip (R149, R150) or a stray trip that has run 200 ms. A contactor aux input can complete an opening whose discharge part is met
(R151), and DOOR and HOLD make an evaluation of the fire state (R158). The model's reading: INPUT_STATE comes before what the readers do (log entry 12), a stray trip
that runs is not started again (log entry 14), and the discharge part stays met (log entry 15). -/
def Obligations.InputsDebounced : Prop :=
  (∀ (i : Input) (v : Bool) (s : State), inputIdx i < s.lines.inputs.length → (inputLive s i).raw ≠ v →
    exec (.inputRawChange i v) s = .next { s with lines := { s.lines with inputs := (s.lines.inputs.set (inputIdx i)
      ⟨v, if s.lines.control then some s.now else none, (inputLive s i).level⟩) } }) ∧
  (∀ (i : Input) (v : Bool) (s : State), (inputLive s i).raw = v → exec (.inputRawChange i v) s = .next s) ∧
  (∀ (i : Input) (t0 : Nat) (s : State), s.phase = .running → (inputLive s i).timer = some t0 → t0 + 20000 ≤ s.now →
    (inputLive s i).level = some (inputLive s i).raw →
    exec (.debounceStable i) s = .next { s with lines := { s.lines with inputs := (s.lines.inputs.set (inputIdx i)
      ⟨(inputLive s i).raw, none, some (inputLive s i).raw⟩) } }) ∧
  (∀ (i : Input) (t0 : Nat) (s : State), s.phase = .running → (inputLive s i).timer = some t0 → t0 + 20000 ≤ s.now →
    (inputLive s i).level ≠ some (inputLive s i).raw →
    let v := (inputLive s i).raw
    let means := v == highMeans s.mgmt.ringTables.line i
    let read := fun (j : Input) => if j = i then some means else inputReads s j
    let ended := s.seqr.stray.filter fun y => s.now < y.since + 200000
    ∃ t : State, exec (.debounceStable i) s = .next t ∧ inputLive t i = ⟨v, none, some v⟩ ∧
      (∀ j, j ≠ i → inputLive t j = inputLive s j) ∧ t.cell = s.cell ∧ t.store = s.store ∧ t.now = s.now ∧ t.pending = s.pending ∧
      (i = .estop → means = true → t.env.chg = 0 ∧ t.env.dis = 0 ∧ 3 ∈ t.env.gates ∧
        (s.seqr.state = .connected ∨ s.seqr.state = .closing → t.seqr.state = .tripping ∧ t.seqr.trip = some ⟨.estop, .bay, .opening⟩) ∧
        (s.seqr.state = .precharge ∨ s.seqr.state = .dcReady ∨ s.seqr.state = .recloseWait → t.seqr.state = .opening) ∧
        (s.seqr.state = .open_ ∨ s.seqr.state = .opening ∨ s.seqr.state = .lockedOut → t.seqr = s.seqr)) ∧
      (i = .estop → means = false → 3 ∉ t.env.gates ∧ t.env.chg = s.env.chg ∧ t.env.dis = s.env.dis ∧ t.seqr = s.seqr) ∧
      (i = .breakerAux → means = true →
        (s.seqr.state = .closing → bayCondition s .connected = none → t.seqr.state = .connected ∧ t.seqr.connectedSince = some s.now ∧
          (¬serves s .meter → t.seqr.blind = true ∧ (s.seqr.blind = false → t.seqr.blindSince = some s.now)) ∧
          (serves s .meter → t.seqr.blind = false)) ∧
        (s.seqr.state = .precharge ∨ s.seqr.state = .dcReady ∨ s.seqr.state = .recloseWait →
          t.seqr.state = .opening ∧ t.seqr.stepSince = some s.now) ∧
        (s.seqr.state = .open_ ∨ s.seqr.state = .opening ∨ s.seqr.state = .lockedOut →
          t.seqr = { s.seqr with stray := some (s.seqr.stray.getD
            ⟨if (inputLive s i).level = none then .startupClosed else .breakerStray, s.now⟩) } ∧
          (s.lines.control = true → outLevel t 13 = true)) ∧
        (s.seqr.state = .connected ∨ s.seqr.state = .tripping → t.seqr = s.seqr)) ∧
      (i = .breakerAux → means = false →
        (s.seqr.state = .connected → t.seqr.state = .tripping ∧ t.seqr.trip = some ⟨.breakerOpened, .grid, .recloseWait⟩ ∧
          t.seqr.stepSince = some s.now ∧ t.env.chg = 0 ∧ t.env.dis = 0) ∧
        (s.seqr.state ≠ .connected → s.seqr.state ≠ .tripping ∨ (∀ t1, s.seqr.stepSince = some t1 → s.now < t1 + 200000) →
          t.seqr = { s.seqr with stray := ended }) ∧
        (∀ c k t1, s.seqr.state = .tripping → s.seqr.stepSince = some t1 → t1 + 200000 ≤ s.now →
          (s.seqr.trip = some ⟨c, k, .opening⟩ → t.seqr.state = .opening ∧ t.seqr.pendingLockout = s.seqr.pendingLockout) ∧
          (s.seqr.trip = some ⟨c, k, .recloseWait⟩ → s.seqr.reclose < 3 → bayCondition s .connected = none →
            t.seqr.state = .recloseWait ∧ t.seqr.reclose = s.seqr.reclose + 1) ∧
          (s.seqr.trip = some ⟨c, k, .recloseWait⟩ → 3 ≤ s.seqr.reclose →
            t.seqr.state = .opening ∧ t.seqr.pendingLockout = some .recloseLimit))) ∧
      (i = .contPosAux ∨ i = .contNegAux →
        let done := s.seqr.state = .opening ∧ s.seqr.discharged = true ∧ read .contPosAux = some false ∧ read .contNegAux = some false
        (done → openingEnds s t) ∧ (¬done → t.seqr = s.seqr ∧ t.mgmt = s.mgmt)) ∧
      (i = .door ∨ i = .hold → t = refreshLines (fireEval false (raiseNotice (nInputState i means)
        { s with lines := { s.lines with inputs := s.lines.inputs.set (inputIdx i) ⟨v, none, some v⟩ } }))))

/-- FORCE_OUTPUT, UNFORCE_ALL and FORCE_EXPIRY (R161, R162): an accepted force sets its record and no other; outside QUIET, and for a contactor outside OPEN, it is
refused; an output or value that is none, and the three outputs that take no force, are INVALID; all forces end, or the one that has lasted 60 s. -/
def Obligations.ForceRecords : Prop :=
  (∀ (r : Request) (o v : Nat) (s : State), held r s → forceArgs r = some (o, v) → s.fire.state = .quiet →
    ((o = 14 ∨ o = 15 ∨ o = 16) → s.seqr.state = .open_) →
    ∃ t : State, exec (.forceOutput r) s = .next t ∧ t.lines.forces = s.lines.forces.set o (some ⟨v, s.now⟩) ∧
      t.lines.inputs = s.lines.inputs ∧ t.fire = s.fire ∧ t.cell = s.cell ∧ t.loop = s.loop ∧ t.store = s.store ∧
      (o < 12 → o < s.cool.outs.length → o < s.lines.forces.length → (outLive t o).source = .force ∧ (outLive t o).sourceValue = v) ∧
      (12 ≤ o → t.cool = s.cool ∧ t.seqr = s.seqr ∧ t.env = s.env)) ∧
  (∀ (r : Request) (o v : Nat) (s : State), held r s → forceArgs r = some (o, v) →
    s.fire.state ≠ .quiet ∨ ((o = 14 ∨ o = 15 ∨ o = 16) ∧ s.seqr.state ≠ .open_) →
    exec (.forceOutput r) s = .next (answer r 0x19 .refusedState [] (received r s))) ∧
  (∀ (r : Request) (o : Byte) (b : List Byte) (s : State), held r s → r.args = o :: b →
    (22 ≤ o.toNat ∨ o.toNat = 12 ∨ o.toNat = 13 ∨ o.toNat = 17 ∨ (o.toNat < 12 ∧ ∀ x y, b = [x, y] → 1000 < x.toNat * 256 + y.toNat) ∨
      (12 ≤ o.toNat ∧ ∀ x, b = [x] → 1 < x.toNat)) →
    exec (.forceOutput r) s = .next (answer r 0x19 .invalid [] (received r s))) ∧
  (∀ (r : Request) (s : State), held r s → r.args = [] → ∃ t : State, exec (.unforceAll r) s = .next t ∧
    (∀ o, o < 22 → t.lines.forces.getD o none = none) ∧ t.lines.inputs = s.lines.inputs ∧ t.fire = s.fire ∧ t.cell = s.cell ∧
      t.loop = s.loop ∧ t.store = s.store) ∧
  (∀ (o : Nat) (x : Force) (s : State), s.phase = .running → s.lines.forces.getD o none = some x → x.since + 60000000 ≤ s.now →
    ∃ t : State, exec (.forceExpiry o) s = .next t ∧ t.lines.forces = s.lines.forces.set o none ∧ t.lines.inputs = s.lines.inputs ∧
      t.fire = s.fire ∧ t.cell = s.cell ∧ t.loop = s.loop ∧ t.store = s.store)

/-- READBACK_TIMEOUT after 200 ms of disagreement (R148, R163, R164): the fault is set; in CLOSING and CONNECTED it trips, and PRECHARGE, DC_READY and RECLOSE_WAIT
go to OPENING. In OPEN the flag stands while the contact disagrees, with the disagreement timer stopped (section 9.6), and the fault summary holds it. -/
def Obligations.ReadbackFaultTrips : Prop :=
  ∀ (c : Contactor) (t0 : Nat) (s : State), s.phase = .running → readbackOf s.lines c = ⟨some t0, false⟩ → t0 + 200000 ≤ s.now →
    (s.seqr.state = .closing ∨ s.seqr.state = .connected → ∃ t : State, exec (.readbackTimeout c) s = .next t ∧
      t.seqr.state = .tripping ∧ t.seqr.trip = some ⟨.readback, .bay, .opening⟩ ∧ t.cell = s.cell ∧ t.fire = s.fire ∧ t.store = s.store) ∧
    (s.seqr.state = .precharge ∨ s.seqr.state = .dcReady ∨ s.seqr.state = .recloseWait → ∃ t : State,
      exec (.readbackTimeout c) s = .next t ∧ t.seqr.state = .opening ∧ t.seqr.stepSince = some s.now ∧
      t = { s with seqr := t.seqr, lines := t.lines, link := t.link }) ∧
    (∀ a, s.seqr.state = .open_ → linesCurrent s → s.lines.control = true → inputReads s (contAux c) = some a → a ≠ outLevel s (contOutput c) →
      ∃ t : State, exec (.readbackTimeout c) s = .next t ∧ readbackOf t.lines c = ⟨none, true⟩ ∧ t.lines.faults.readback = true ∧
        t.seqr = s.seqr ∧ t = { s with lines := t.lines, link := t.link })

/-! ## The frame ports -/

/-- FRAME_PORT_LENGTH_ERROR, FRAME_PORT_FRAGMENT and STATION_FRAME_DISCARDED (R168, R169): a fragment or a check error is counted and the port searches again; a valid
frame that routes nowhere counts an address or a kind error; and a partial frame of the Station Link is a fragment once a bit rate is applied (R167). No frame
is taken later than 250 ms after its sync byte, or on the Station Link after a bit rate was applied since, or where its sync byte came before the ports were opened
(R180). The model's choice: the moment of the sync byte at which the search goes on inside a header (log entry 32), that an address byte above 63 is an address error (log
entry 9), and that a frame whose sync byte came at the very moment of opening is received (log entry 78). -/
def Obligations.FramePortErrors : Prop :=
  (∀ (p : FramePort) (t0 : Nat) (h : List Byte) (s : State), s.phase = .running → (rxOf s.link p).isOpen = true →
    (rxOf s.link p).openedAt ≤ t0 → t0 ≤ s.now → s.now ≤ t0 + 250000 →
    (p = .station → ∀ t1, s.link.rateAt = some t1 → t1 < t0) → h.length = 5 → 56 < (h.getD 4 0).toNat → exec (.framePortLengthError p t0 h) s = .next { s with link := (modRx p (fun x => { x with
      syncAt := (h.idxOf? 0xA5#8).map fun i => t0 + byteTime (rateOf s p) * (i + 1),
      counters := { x.counters with fragments := min 65535 (x.counters.fragments + 1) } }) s.link) }) ∧
  (∀ (p : FramePort) (t0 : Nat) (s : State), s.phase = .running → (rxOf s.link p).isOpen = true → (rxOf s.link p).openedAt ≤ t0 →
    t0 + 250000 ≤ s.now →
    exec (.framePortFragment p t0) s = .next { s with link := (modRx p (fun x => { x with
      syncAt := none, counters := { x.counters with fragments := min 65535 (x.counters.fragments + 1) } }) s.link) }) ∧
  (∀ (t0 t1 : Nat) (s : State), s.phase = .running → s.link.station.isOpen = true → s.link.station.openedAt ≤ t0 →
    s.link.rateAt = some t1 → t0 ≤ t1 →
    exec (.framePortFragment .station t0) s = .next { s with link := { s.link with station := { s.link.station with
      syncAt := none, counters := { s.link.station.counters with fragments := min 65535 (s.link.station.counters.fragments + 1) } } } }) ∧
  (∀ (p : FramePort) (t0 : Nat) (s : State), t0 < (rxOf s.link p).openedAt → exec (.framePortFragment p t0) s = .next s) ∧
  (∀ (p : FramePort) (t0 : Nat) (s : State),
    t0 + 250000 < s.now ∨ (p = .station ∧ ∃ t1, s.link.rateAt = some t1 ∧ t0 ≤ t1) ∨ t0 < (rxOf s.link p).openedAt →
    (∀ f, exec (.setpointReceived p ⟨t0, f⟩) s = .next s ∧ exec (.nodeCmdReceived p ⟨t0, f⟩) s = .next s ∧
      ∀ k, exec (.stationFrameDiscarded p ⟨t0, f⟩ k) s = .next s) ∧
    (∀ h, exec (.framePortLengthError p t0 h) s = .next s) ∧
    (∀ r, r.port = p → r.syncAt = t0 → (∀ c, exec (.unknownRequest c r) s = .next s) ∧
      ∀ i c b, requestOf i = some (r, c, b) → exec i s = .next s)) ∧
  (∀ (p : FramePort) (t0 : Nat) (f : Frame) (k : Check) (s : State), comesIn p t0 s → frameCheck f ≠ k →
    exec (.stationFrameDiscarded p ⟨t0, f⟩ k) s = .next { s with link := (modRx p (fun x => { x with
      syncAt := none, counters := { x.counters with checkErrors := min 65535 (x.counters.checkErrors + 1) } }) s.link) }) ∧
  (∀ (p : FramePort) (t0 : Nat) (f : Frame) (s : State), comesIn p t0 s →
    let u := frameReceived p s
    (route f = .addressError → exec (.stationFrameDiscarded p ⟨t0, f⟩ (frameCheck f)) s = .next { u with link := (modRx p (fun x => { x with
      counters := { x.counters with addressErrors := min 65535 (x.counters.addressErrors + 1) } }) u.link) }) ∧
    (route f = .kindError → exec (.stationFrameDiscarded p ⟨t0, f⟩ (frameCheck f)) s = .next { u with link := (modRx p (fun x => { x with
      counters := { x.counters with kindErrors := min 65535 (x.counters.kindErrors + 1) } }) u.link) }))

/-- NODE_CMD_RECEIVED (R22, R170): from the authority holder, for a node that is neither UNCONFIGURED nor EXCLUDED, it joins the Downward Insert Queue with its port;
eight waiting, a broadcast and a stranger are each refused with a notice. -/
def Obligations.NodeCommandsQueued : Prop :=
  ∀ (p : FramePort) (x : TimedFrame) (s : State), comesIn p x.syncAt s → route x.frame = .nodeCmd →
    let f := x.frame
    let u := frameReceived p s
    let d := f.dst.toNat
    let st := (liveOf s d).state
    (s.link.holder = p → d ≠ 63 → st ≠ .unconfigured → st ≠ .excluded → s.ring.downQueue.length < 8 →
      exec (.nodeCmdReceived p x) s = .next { u with ring := { s.ring with downQueue := s.ring.downQueue ++ [(f, p)] } }) ∧
    (s.link.holder = p → d ≠ 63 → st ≠ .unconfigured → st ≠ .excluded → 8 ≤ s.ring.downQueue.length →
      exec (.nodeCmdReceived p x) s = .next (raiseNotice (nInsertFull d) u)) ∧
    (s.link.holder = p → d ≠ 63 → (st = .unconfigured ∨ st = .excluded) →
      exec (.nodeCmdReceived p x) s = .next (raiseNotice (nInsertRefused d st.code) u)) ∧
    (s.link.holder = p → d = 63 → exec (.nodeCmdReceived p x) s = .next (raiseNotice (nInsertRefused 63 0) u)) ∧
    (s.link.holder ≠ p → exec (.nodeCmdReceived p x) s = .next (raiseNotice (nAuthorityDeniedLink d p) u))

/-- A frame that joins the full Station Transmit Queue (R174): the oldest frame of the lowest class below its own is lost, or itself if there is none. An ALARM is lost
only when all 64 are ALARM. -/
def Obligations.FullQueueLosesLowest : Prop :=
  ∀ (f : UpFrame) (l : Link), l.queue.length = 64 →
    let l' := queueJoin f l
    ((∃ g ∈ l.queue, g.cls.rank < f.cls.rank) → ∃ (a b : List UpFrame) (g : UpFrame), l.queue = a ++ g :: b ∧ l'.queue = a ++ b ++ [f] ∧
      g.cls.rank < f.cls.rank ∧ (∀ x ∈ l.queue, g.cls.rank ≤ x.cls.rank) ∧ (∀ x ∈ a, x.cls ≠ g.cls) ∧
      l' = { l with queue := l'.queue, losses := l.losses.modify g.cls.rank fun n => min 65535 (n + 1) }) ∧
    ((∀ g ∈ l.queue, f.cls.rank ≤ g.cls.rank) → l' = { l with losses := l.losses.modify f.cls.rank fun n => min 65535 (n + 1) }) ∧
    (f.cls = .alarm → f ∉ l'.queue → ∀ g ∈ l.queue, g.cls = .alarm)

/-- STATION_TX_DONE and SERVICE_TX_DONE (R167, R173, R174, R175): the Station Link takes the oldest frame of the highest class, the Service Port the oldest; an originated
frame takes the port's count, which then advances. -/
def Obligations.NextFrameTaken : Prop :=
  (∀ (s : State) (x : UpTx) (a b : List UpFrame) (g : UpFrame), s.phase = .running → s.link.queueTx = some x → s.link.station.isOpen = true →
    (8 + x.item.frame.payload.length) * 10 * 1000000 ≤ (s.now - x.since) * x.rate → s.link.queue = a ++ g :: b →
    (∀ y ∈ a ++ b, y.cls.rank ≤ g.cls.rank) → (∀ y ∈ a, y.cls.rank < g.cls.rank) →
    exec .stationTxDone s = .next { s with link := { s.link with
      queue := a ++ b
      queueTx := some ⟨if g.own then { g with frame := { g.frame with seq := BitVec.ofNat 8 s.link.stationCount } } else g, s.now,
        s.mgmt.ringTables.rate⟩
      stationCount := if g.own then (if s.link.stationCount = 63 then 1 else s.link.stationCount + 1) else s.link.stationCount } }) ∧
  (∀ (s : State) (x : UpTx), s.phase = .running → s.link.queueTx = some x → s.link.queue = [] →
    (8 + x.item.frame.payload.length) * 10 * 1000000 ≤ (s.now - x.since) * x.rate →
    exec .stationTxDone s = .next { s with link := { s.link with queueTx := none } }) ∧
  (∀ (s : State) (x : UpTx) (g : UpFrame) (b : List UpFrame), s.phase = .running → s.link.fifoTx = some x → s.link.service.isOpen = true →
    (8 + x.item.frame.payload.length) * 10 * 1000000 ≤ (s.now - x.since) * x.rate → s.link.fifo = g :: b →
    exec .serviceTxDone s = .next { s with link := { s.link with
      fifo := b
      fifoTx := some ⟨if g.own then { g with frame := { g.frame with seq := BitVec.ofNat 8 s.link.serviceCount } } else g, s.now, 115200⟩
      serviceCount := if g.own then (if s.link.serviceCount = 63 then 1 else s.link.serviceCount + 1) else s.link.serviceCount } }) ∧
  (∀ (s : State) (x : UpTx), s.phase = .running → s.link.fifoTx = some x → s.link.fifo = [] →
    (8 + x.item.frame.payload.length) * 10 * 1000000 ≤ (s.now - x.since) * x.rate →
    exec .serviceTxDone s = .next { s with link := { s.link with fifoTx := none } })

/-- TAKE_AUTHORITY, RELEASE_AUTHORITY and SERVICE_SILENCE_EXPIRY (R162, R171, R172): the holder changes, every force ends and the silence timers are adjusted; the
Station Link cannot take what SERVICE holds. SET_FORWARD and SET_NOTICE_ENABLE (R176, R178): the policy of one role, and the enables of the nine groups with
that of FIRE always set. The model's choice: group g in bit g − 1 of two bytes (log entry 25),
the codes of roles and policies (log entry 8), and that the station silence timer starts on the return of authority also while silent is yes (log entry 48). -/
def Obligations.AuthorityAndPolicy : Prop :=
  (∀ (r : Request) (s : State), taken r s → r.args = [] → r.port = .service → s.link.holder = .station →
    ∃ t : State, exec (.takeAuthority r) s = .next t ∧ t.link.holder = .service ∧ t.link.serviceSince = some s.now ∧
      t.gate = { s.gate with silenceSince := none, silenceStopped := 0 } ∧ (∀ o, o < 22 → t.lines.forces.getD o none = none) ∧
      t.fire = s.fire ∧ t.cell = s.cell ∧ t.loop = s.loop ∧ t.store = s.store) ∧
  (∀ (r : Request) (s : State), taken r s → r.args = [] → r.port = .station → s.link.holder = .service →
    exec (.takeAuthority r) s = .next (answer r 0x1B .refusedAuthority (encU8 2) (received r s))) ∧
  (∀ (r : Request) (s : State), taken r s → r.args = [] → r.port = s.link.holder →
    exec (.takeAuthority r) s = .next (answer r 0x1B .done (encU8 (if s.link.holder = .station then 1 else 2)) (received r s))) ∧
  (∀ (r : Request) (s : State), taken r s → r.args = [] → r.port = .service → s.link.holder = .station →
    exec (.releaseAuthority r) s = .next (answer r 0x1C .done (encU8 1) (received r s))) ∧
  (∀ (r : Request) (s : State), taken r s → r.args = [] → r.port = .station →
    exec (.releaseAuthority r) s = .next (answer r 0x1C .refusedAuthority (encU8 (if s.link.holder = .station then 1 else 2)) (received r s))) ∧
  (∀ (r : Request) (s : State), taken r s → r.args = [] → r.port = .service → s.link.holder = .service →
    ∃ t : State, exec (.releaseAuthority r) s = .next t ∧ t.link.holder = .station ∧ t.link.serviceSince = none ∧
      t.gate = { s.gate with silenceSince := some s.now, silenceStopped := 0 } ∧ (∀ o, o < 22 → t.lines.forces.getD o none = none) ∧
      t.fire = s.fire ∧ t.cell = s.cell ∧ t.loop = s.loop ∧ t.store = s.store) ∧
  (∀ (t0 : Nat) (s : State), s.phase = .running → s.link.holder = .service → s.link.serviceSince = some t0 → t0 + 300000000 ≤ s.now →
    ∃ t : State, exec .serviceSilenceExpiry s = .next t ∧ t.link.holder = .station ∧ t.link.serviceSince = none ∧
      t.gate = { s.gate with silenceSince := some s.now, silenceStopped := 0 } ∧ (∀ o, o < 22 → t.lines.forces.getD o none = none) ∧
      t.fire = s.fire ∧ t.cell = s.cell ∧ t.loop = s.loop ∧ t.store = s.store) ∧
  (∀ (r : Request) (a b c : Byte) (role : Role) (p : Policy) (s : State), held r s → r.args = [a, b, c] → roleOf a.toNat = some role →
    role ≠ .unused → policyOf b.toNat = some p → c ≠ 0 →
    exec (.setForward r) s = .next (answer r 0x09 .done [] { received r s with
      link := { (received r s).link with policy := s.link.policy.set (roleIdx role) ⟨p, c.toNat⟩ } })) ∧
  (∀ (r : Request) (a b : Byte) (s : State), held r s → r.args = [a, b] → a.toNat < 2 →
    let e := (List.range 9).map fun i => i == 4 || (a.toNat * 256 + b.toNat).testBit i
    e.getD 4 false = true ∧
    exec (.setNoticeEnable r) s = .next (answer r 0x0A .done (encU16 (flagBits e)) { received r s with
      link := { (received r s).link with enables := e } }))

/-! ## Management requests -/

/-- WRITE_TABLE (R185): the part read from the arguments, if it passes its checks on the pending copy with the part laid over it, is staged in place of an earlier
one for the same part; the other staged parts stay, no applied table changes, and the answer is PENDING with the generation at which its group takes effect. A
Node Table entry of role NONE also stages the Poll List without its address (R3). A part that does not exist, does not read, or fails its checks is INVALID and
changes nothing. -/
def Obligations.WriteTableStages : Prop :=
  (∀ (r : Request) (a b : Byte) (body : List Byte) (p : RingPart) (s : State),
    let m := s.mgmt
    let k := (a.toNat, b.toNat)
    let others := fun (l : List RingPart) (k : Nat × Nat) => l.filter fun q => q.key ≠ k
    let next := if 65535 ≤ m.ringGen then 1 else m.ringGen + 1
    held r s → r.args = a :: b :: body → (ringPartOf m.ringTables k).isSome = true → readRingPart k body = some p →
    p.key = k ∧
    ((∀ x c, p = .node x c → c.role ≠ .unused) → ringPartOk (applyRing (pendingRing m) p) p = true →
      exec (.writeTable r) s = .next (answer r 0x08 .pending (encU16 next)
        { received r s with mgmt := { m with ringStaged := others m.ringStaged k ++ [p] } })) ∧
    (∀ x c, p = .node x c → c.role = .unused →
      let poll := RingPart.poll ((pendingRing m).poll.filter fun y => y ≠ x)
      (ringPartOk (applyRing (applyRing (pendingRing m) p) poll) p = true →
        exec (.writeTable r) s = .next (answer r 0x08 .pending (encU16 next)
          { received r s with mgmt := { m with ringStaged := others (others m.ringStaged k ++ [p]) (1, 41) ++ [poll] } })) ∧
      (ringPartOk (applyRing (applyRing (pendingRing m) p) poll) p = false →
        exec (.writeTable r) s = .next (answer r 0x08 .invalid [] (received r s)))) ∧
    ((∀ x c, p = .node x c → c.role ≠ .unused) → ringPartOk (applyRing (pendingRing m) p) p = false →
      exec (.writeTable r) s = .next (answer r 0x08 .invalid [] (received r s)))) ∧
  (∀ (r : Request) (a b : Byte) (body : List Byte) (p : LoopPart) (s : State),
    let m := s.mgmt
    let k := (a.toNat, b.toNat)
    let next := if 65535 ≤ m.loopGen then 1 else m.loopGen + 1
    held r s → r.args = a :: b :: body → (loopPartOf m.loopTables k).isSome = true → readLoopPart k body = some p →
    p.key = k ∧
    (loopPartOk (applyLoop (pendingLoop m) p) p = true → exec (.writeTable r) s = .next (answer r 0x08 .pending (encU16 next)
      { received r s with mgmt := { m with loopStaged := m.loopStaged.filter (fun q => q.key ≠ k) ++ [p] } })) ∧
    (loopPartOk (applyLoop (pendingLoop m) p) p = false →
      exec (.writeTable r) s = .next (answer r 0x08 .invalid [] (received r s)))) ∧
  (∀ (r : Request) (a b : Byte) (body : List Byte) (s : State), held r s → r.args = a :: b :: body →
    ((ringPartOf s.mgmt.ringTables (a.toNat, b.toNat) = none ∧ loopPartOf s.mgmt.loopTables (a.toNat, b.toNat) = none) ∨
      (readRingPart (a.toNat, b.toNat) body = none ∧ readLoopPart (a.toNat, b.toNat) body = none)) →
    exec (.writeTable r) s = .next (answer r 0x08 .invalid [] (received r s))) ∧
  (∀ (r : Request) (s : State), held r s → r.args.length < 2 → exec (.writeTable r) s = .next (answer r 0x08 .invalid [] (received r s)))

/-- The tests every request passes before its own (R182): BUSY while a RESTART is pending, REFUSED_AUTHORITY for a state-changing request from the side that does not
hold authority. A code that is not in Table 11-1 is answered UNKNOWN. -/
def Obligations.RequestsRefused : Prop :=
  (∀ (c : Instr) (r : Request) (code : Nat) (changing : Bool) (s : State), requestOf c = some (r, code, changing) → reaches r s →
    (s.mgmt.restart = true → exec c s = .next (answer r code .busy [] (received r s))) ∧
    (s.mgmt.restart = false → changing = true → s.link.holder ≠ r.port →
      exec c s = .next (answer r code .refusedAuthority [] (received r s)))) ∧
  (∀ (code : Byte) (r : Request) (s : State), reaches r s → requestCodes.contains code.toNat = false →
    exec (.unknownRequest code r) s = .next (answer r code.toNat .unknown [] (received r s)))
end

