-- ==== Sys2Proof/Laws/State.lean ====
section
/-! SUPPORT. What each update of one block of the state changes and what it leaves alone: one lemma per field per update. -/

namespace Sys2Proof.Machine.State

/-! onRing -/

@[simp] theorem onRing_now (s : State) (f : Ring → Ring) : (s.onRing f).now = s.now := rfl
@[simp] theorem onRing_phase (s : State) (f : Ring → Ring) : (s.onRing f).phase = s.phase := rfl
@[simp] theorem onRing_rst (s : State) (f : Ring → Ring) : (s.onRing f).rst = s.rst := rfl
@[simp] theorem onRing_ring (s : State) (f : Ring → Ring) : (s.onRing f).ring = f s.ring := rfl
@[simp] theorem onRing_cell (s : State) (f : Ring → Ring) : (s.onRing f).cell = s.cell := rfl
@[simp] theorem onRing_env (s : State) (f : Ring → Ring) : (s.onRing f).env = s.env := rfl
@[simp] theorem onRing_gate (s : State) (f : Ring → Ring) : (s.onRing f).gate = s.gate := rfl
@[simp] theorem onRing_cool (s : State) (f : Ring → Ring) : (s.onRing f).cool = s.cool := rfl
@[simp] theorem onRing_loop (s : State) (f : Ring → Ring) : (s.onRing f).loop = s.loop := rfl
@[simp] theorem onRing_fire (s : State) (f : Ring → Ring) : (s.onRing f).fire = s.fire := rfl
@[simp] theorem onRing_seqr (s : State) (f : Ring → Ring) : (s.onRing f).seqr = s.seqr := rfl
@[simp] theorem onRing_lines (s : State) (f : Ring → Ring) : (s.onRing f).lines = s.lines := rfl
@[simp] theorem onRing_link (s : State) (f : Ring → Ring) : (s.onRing f).link = s.link := rfl
@[simp] theorem onRing_mgmt (s : State) (f : Ring → Ring) : (s.onRing f).mgmt = s.mgmt := rfl
@[simp] theorem onRing_store (s : State) (f : Ring → Ring) : (s.onRing f).store = s.store := rfl
@[simp] theorem onRing_pending (s : State) (f : Ring → Ring) : (s.onRing f).pending = s.pending := rfl

/-! onCell -/

@[simp] theorem onCell_now (s : State) (f : Cell → Cell) : (s.onCell f).now = s.now := rfl
@[simp] theorem onCell_phase (s : State) (f : Cell → Cell) : (s.onCell f).phase = s.phase := rfl
@[simp] theorem onCell_rst (s : State) (f : Cell → Cell) : (s.onCell f).rst = s.rst := rfl
@[simp] theorem onCell_ring (s : State) (f : Cell → Cell) : (s.onCell f).ring = s.ring := rfl
@[simp] theorem onCell_cell (s : State) (f : Cell → Cell) : (s.onCell f).cell = f s.cell := rfl
@[simp] theorem onCell_env (s : State) (f : Cell → Cell) : (s.onCell f).env = s.env := rfl
@[simp] theorem onCell_gate (s : State) (f : Cell → Cell) : (s.onCell f).gate = s.gate := rfl
@[simp] theorem onCell_cool (s : State) (f : Cell → Cell) : (s.onCell f).cool = s.cool := rfl
@[simp] theorem onCell_loop (s : State) (f : Cell → Cell) : (s.onCell f).loop = s.loop := rfl
@[simp] theorem onCell_fire (s : State) (f : Cell → Cell) : (s.onCell f).fire = s.fire := rfl
@[simp] theorem onCell_seqr (s : State) (f : Cell → Cell) : (s.onCell f).seqr = s.seqr := rfl
@[simp] theorem onCell_lines (s : State) (f : Cell → Cell) : (s.onCell f).lines = s.lines := rfl
@[simp] theorem onCell_link (s : State) (f : Cell → Cell) : (s.onCell f).link = s.link := rfl
@[simp] theorem onCell_mgmt (s : State) (f : Cell → Cell) : (s.onCell f).mgmt = s.mgmt := rfl
@[simp] theorem onCell_store (s : State) (f : Cell → Cell) : (s.onCell f).store = s.store := rfl
@[simp] theorem onCell_pending (s : State) (f : Cell → Cell) : (s.onCell f).pending = s.pending := rfl

/-! onEnv -/

@[simp] theorem onEnv_now (s : State) (f : Envelope → Envelope) : (s.onEnv f).now = s.now := rfl
@[simp] theorem onEnv_phase (s : State) (f : Envelope → Envelope) : (s.onEnv f).phase = s.phase := rfl
@[simp] theorem onEnv_rst (s : State) (f : Envelope → Envelope) : (s.onEnv f).rst = s.rst := rfl
@[simp] theorem onEnv_ring (s : State) (f : Envelope → Envelope) : (s.onEnv f).ring = s.ring := rfl
@[simp] theorem onEnv_cell (s : State) (f : Envelope → Envelope) : (s.onEnv f).cell = s.cell := rfl
@[simp] theorem onEnv_env (s : State) (f : Envelope → Envelope) : (s.onEnv f).env = f s.env := rfl
@[simp] theorem onEnv_gate (s : State) (f : Envelope → Envelope) : (s.onEnv f).gate = s.gate := rfl
@[simp] theorem onEnv_cool (s : State) (f : Envelope → Envelope) : (s.onEnv f).cool = s.cool := rfl
@[simp] theorem onEnv_loop (s : State) (f : Envelope → Envelope) : (s.onEnv f).loop = s.loop := rfl
@[simp] theorem onEnv_fire (s : State) (f : Envelope → Envelope) : (s.onEnv f).fire = s.fire := rfl
@[simp] theorem onEnv_seqr (s : State) (f : Envelope → Envelope) : (s.onEnv f).seqr = s.seqr := rfl
@[simp] theorem onEnv_lines (s : State) (f : Envelope → Envelope) : (s.onEnv f).lines = s.lines := rfl
@[simp] theorem onEnv_link (s : State) (f : Envelope → Envelope) : (s.onEnv f).link = s.link := rfl
@[simp] theorem onEnv_mgmt (s : State) (f : Envelope → Envelope) : (s.onEnv f).mgmt = s.mgmt := rfl
@[simp] theorem onEnv_store (s : State) (f : Envelope → Envelope) : (s.onEnv f).store = s.store := rfl
@[simp] theorem onEnv_pending (s : State) (f : Envelope → Envelope) : (s.onEnv f).pending = s.pending := rfl

/-! onGate -/

@[simp] theorem onGate_now (s : State) (f : Gate → Gate) : (s.onGate f).now = s.now := rfl
@[simp] theorem onGate_phase (s : State) (f : Gate → Gate) : (s.onGate f).phase = s.phase := rfl
@[simp] theorem onGate_rst (s : State) (f : Gate → Gate) : (s.onGate f).rst = s.rst := rfl
@[simp] theorem onGate_ring (s : State) (f : Gate → Gate) : (s.onGate f).ring = s.ring := rfl
@[simp] theorem onGate_cell (s : State) (f : Gate → Gate) : (s.onGate f).cell = s.cell := rfl
@[simp] theorem onGate_env (s : State) (f : Gate → Gate) : (s.onGate f).env = s.env := rfl
@[simp] theorem onGate_gate (s : State) (f : Gate → Gate) : (s.onGate f).gate = f s.gate := rfl
@[simp] theorem onGate_cool (s : State) (f : Gate → Gate) : (s.onGate f).cool = s.cool := rfl
@[simp] theorem onGate_loop (s : State) (f : Gate → Gate) : (s.onGate f).loop = s.loop := rfl
@[simp] theorem onGate_fire (s : State) (f : Gate → Gate) : (s.onGate f).fire = s.fire := rfl
@[simp] theorem onGate_seqr (s : State) (f : Gate → Gate) : (s.onGate f).seqr = s.seqr := rfl
@[simp] theorem onGate_lines (s : State) (f : Gate → Gate) : (s.onGate f).lines = s.lines := rfl
@[simp] theorem onGate_link (s : State) (f : Gate → Gate) : (s.onGate f).link = s.link := rfl
@[simp] theorem onGate_mgmt (s : State) (f : Gate → Gate) : (s.onGate f).mgmt = s.mgmt := rfl
@[simp] theorem onGate_store (s : State) (f : Gate → Gate) : (s.onGate f).store = s.store := rfl
@[simp] theorem onGate_pending (s : State) (f : Gate → Gate) : (s.onGate f).pending = s.pending := rfl

/-! onCool -/

@[simp] theorem onCool_now (s : State) (f : Cooling → Cooling) : (s.onCool f).now = s.now := rfl
@[simp] theorem onCool_phase (s : State) (f : Cooling → Cooling) : (s.onCool f).phase = s.phase := rfl
@[simp] theorem onCool_rst (s : State) (f : Cooling → Cooling) : (s.onCool f).rst = s.rst := rfl
@[simp] theorem onCool_ring (s : State) (f : Cooling → Cooling) : (s.onCool f).ring = s.ring := rfl
@[simp] theorem onCool_cell (s : State) (f : Cooling → Cooling) : (s.onCool f).cell = s.cell := rfl
@[simp] theorem onCool_env (s : State) (f : Cooling → Cooling) : (s.onCool f).env = s.env := rfl
@[simp] theorem onCool_gate (s : State) (f : Cooling → Cooling) : (s.onCool f).gate = s.gate := rfl
@[simp] theorem onCool_cool (s : State) (f : Cooling → Cooling) : (s.onCool f).cool = f s.cool := rfl
@[simp] theorem onCool_loop (s : State) (f : Cooling → Cooling) : (s.onCool f).loop = s.loop := rfl
@[simp] theorem onCool_fire (s : State) (f : Cooling → Cooling) : (s.onCool f).fire = s.fire := rfl
@[simp] theorem onCool_seqr (s : State) (f : Cooling → Cooling) : (s.onCool f).seqr = s.seqr := rfl
@[simp] theorem onCool_lines (s : State) (f : Cooling → Cooling) : (s.onCool f).lines = s.lines := rfl
@[simp] theorem onCool_link (s : State) (f : Cooling → Cooling) : (s.onCool f).link = s.link := rfl
@[simp] theorem onCool_mgmt (s : State) (f : Cooling → Cooling) : (s.onCool f).mgmt = s.mgmt := rfl
@[simp] theorem onCool_store (s : State) (f : Cooling → Cooling) : (s.onCool f).store = s.store := rfl
@[simp] theorem onCool_pending (s : State) (f : Cooling → Cooling) : (s.onCool f).pending = s.pending := rfl

/-! onLoop -/

@[simp] theorem onLoop_now (s : State) (f : Loop → Loop) : (s.onLoop f).now = s.now := rfl
@[simp] theorem onLoop_phase (s : State) (f : Loop → Loop) : (s.onLoop f).phase = s.phase := rfl
@[simp] theorem onLoop_rst (s : State) (f : Loop → Loop) : (s.onLoop f).rst = s.rst := rfl
@[simp] theorem onLoop_ring (s : State) (f : Loop → Loop) : (s.onLoop f).ring = s.ring := rfl
@[simp] theorem onLoop_cell (s : State) (f : Loop → Loop) : (s.onLoop f).cell = s.cell := rfl
@[simp] theorem onLoop_env (s : State) (f : Loop → Loop) : (s.onLoop f).env = s.env := rfl
@[simp] theorem onLoop_gate (s : State) (f : Loop → Loop) : (s.onLoop f).gate = s.gate := rfl
@[simp] theorem onLoop_cool (s : State) (f : Loop → Loop) : (s.onLoop f).cool = s.cool := rfl
@[simp] theorem onLoop_loop (s : State) (f : Loop → Loop) : (s.onLoop f).loop = f s.loop := rfl
@[simp] theorem onLoop_fire (s : State) (f : Loop → Loop) : (s.onLoop f).fire = s.fire := rfl
@[simp] theorem onLoop_seqr (s : State) (f : Loop → Loop) : (s.onLoop f).seqr = s.seqr := rfl
@[simp] theorem onLoop_lines (s : State) (f : Loop → Loop) : (s.onLoop f).lines = s.lines := rfl
@[simp] theorem onLoop_link (s : State) (f : Loop → Loop) : (s.onLoop f).link = s.link := rfl
@[simp] theorem onLoop_mgmt (s : State) (f : Loop → Loop) : (s.onLoop f).mgmt = s.mgmt := rfl
@[simp] theorem onLoop_store (s : State) (f : Loop → Loop) : (s.onLoop f).store = s.store := rfl
@[simp] theorem onLoop_pending (s : State) (f : Loop → Loop) : (s.onLoop f).pending = s.pending := rfl

/-! onFire -/

@[simp] theorem onFire_now (s : State) (f : Fire → Fire) : (s.onFire f).now = s.now := rfl
@[simp] theorem onFire_phase (s : State) (f : Fire → Fire) : (s.onFire f).phase = s.phase := rfl
@[simp] theorem onFire_rst (s : State) (f : Fire → Fire) : (s.onFire f).rst = s.rst := rfl
@[simp] theorem onFire_ring (s : State) (f : Fire → Fire) : (s.onFire f).ring = s.ring := rfl
@[simp] theorem onFire_cell (s : State) (f : Fire → Fire) : (s.onFire f).cell = s.cell := rfl
@[simp] theorem onFire_env (s : State) (f : Fire → Fire) : (s.onFire f).env = s.env := rfl
@[simp] theorem onFire_gate (s : State) (f : Fire → Fire) : (s.onFire f).gate = s.gate := rfl
@[simp] theorem onFire_cool (s : State) (f : Fire → Fire) : (s.onFire f).cool = s.cool := rfl
@[simp] theorem onFire_loop (s : State) (f : Fire → Fire) : (s.onFire f).loop = s.loop := rfl
@[simp] theorem onFire_fire (s : State) (f : Fire → Fire) : (s.onFire f).fire = f s.fire := rfl
@[simp] theorem onFire_seqr (s : State) (f : Fire → Fire) : (s.onFire f).seqr = s.seqr := rfl
@[simp] theorem onFire_lines (s : State) (f : Fire → Fire) : (s.onFire f).lines = s.lines := rfl
@[simp] theorem onFire_link (s : State) (f : Fire → Fire) : (s.onFire f).link = s.link := rfl
@[simp] theorem onFire_mgmt (s : State) (f : Fire → Fire) : (s.onFire f).mgmt = s.mgmt := rfl
@[simp] theorem onFire_store (s : State) (f : Fire → Fire) : (s.onFire f).store = s.store := rfl
@[simp] theorem onFire_pending (s : State) (f : Fire → Fire) : (s.onFire f).pending = s.pending := rfl

/-! onSeqr -/

@[simp] theorem onSeqr_now (s : State) (f : Sequencer → Sequencer) : (s.onSeqr f).now = s.now := rfl
@[simp] theorem onSeqr_phase (s : State) (f : Sequencer → Sequencer) : (s.onSeqr f).phase = s.phase := rfl
@[simp] theorem onSeqr_rst (s : State) (f : Sequencer → Sequencer) : (s.onSeqr f).rst = s.rst := rfl
@[simp] theorem onSeqr_ring (s : State) (f : Sequencer → Sequencer) : (s.onSeqr f).ring = s.ring := rfl
@[simp] theorem onSeqr_cell (s : State) (f : Sequencer → Sequencer) : (s.onSeqr f).cell = s.cell := rfl
@[simp] theorem onSeqr_env (s : State) (f : Sequencer → Sequencer) : (s.onSeqr f).env = s.env := rfl
@[simp] theorem onSeqr_gate (s : State) (f : Sequencer → Sequencer) : (s.onSeqr f).gate = s.gate := rfl
@[simp] theorem onSeqr_cool (s : State) (f : Sequencer → Sequencer) : (s.onSeqr f).cool = s.cool := rfl
@[simp] theorem onSeqr_loop (s : State) (f : Sequencer → Sequencer) : (s.onSeqr f).loop = s.loop := rfl
@[simp] theorem onSeqr_fire (s : State) (f : Sequencer → Sequencer) : (s.onSeqr f).fire = s.fire := rfl
@[simp] theorem onSeqr_seqr (s : State) (f : Sequencer → Sequencer) : (s.onSeqr f).seqr = f s.seqr := rfl
@[simp] theorem onSeqr_lines (s : State) (f : Sequencer → Sequencer) : (s.onSeqr f).lines = s.lines := rfl
@[simp] theorem onSeqr_link (s : State) (f : Sequencer → Sequencer) : (s.onSeqr f).link = s.link := rfl
@[simp] theorem onSeqr_mgmt (s : State) (f : Sequencer → Sequencer) : (s.onSeqr f).mgmt = s.mgmt := rfl
@[simp] theorem onSeqr_store (s : State) (f : Sequencer → Sequencer) : (s.onSeqr f).store = s.store := rfl
@[simp] theorem onSeqr_pending (s : State) (f : Sequencer → Sequencer) : (s.onSeqr f).pending = s.pending := rfl

/-! onLines -/

@[simp] theorem onLines_now (s : State) (f : Lines → Lines) : (s.onLines f).now = s.now := rfl
@[simp] theorem onLines_phase (s : State) (f : Lines → Lines) : (s.onLines f).phase = s.phase := rfl
@[simp] theorem onLines_rst (s : State) (f : Lines → Lines) : (s.onLines f).rst = s.rst := rfl
@[simp] theorem onLines_ring (s : State) (f : Lines → Lines) : (s.onLines f).ring = s.ring := rfl
@[simp] theorem onLines_cell (s : State) (f : Lines → Lines) : (s.onLines f).cell = s.cell := rfl
@[simp] theorem onLines_env (s : State) (f : Lines → Lines) : (s.onLines f).env = s.env := rfl
@[simp] theorem onLines_gate (s : State) (f : Lines → Lines) : (s.onLines f).gate = s.gate := rfl
@[simp] theorem onLines_cool (s : State) (f : Lines → Lines) : (s.onLines f).cool = s.cool := rfl
@[simp] theorem onLines_loop (s : State) (f : Lines → Lines) : (s.onLines f).loop = s.loop := rfl
@[simp] theorem onLines_fire (s : State) (f : Lines → Lines) : (s.onLines f).fire = s.fire := rfl
@[simp] theorem onLines_seqr (s : State) (f : Lines → Lines) : (s.onLines f).seqr = s.seqr := rfl
@[simp] theorem onLines_lines (s : State) (f : Lines → Lines) : (s.onLines f).lines = f s.lines := rfl
@[simp] theorem onLines_link (s : State) (f : Lines → Lines) : (s.onLines f).link = s.link := rfl
@[simp] theorem onLines_mgmt (s : State) (f : Lines → Lines) : (s.onLines f).mgmt = s.mgmt := rfl
@[simp] theorem onLines_store (s : State) (f : Lines → Lines) : (s.onLines f).store = s.store := rfl
@[simp] theorem onLines_pending (s : State) (f : Lines → Lines) : (s.onLines f).pending = s.pending := rfl

/-! onLink -/

@[simp] theorem onLink_now (s : State) (f : Link → Link) : (s.onLink f).now = s.now := rfl
@[simp] theorem onLink_phase (s : State) (f : Link → Link) : (s.onLink f).phase = s.phase := rfl
@[simp] theorem onLink_rst (s : State) (f : Link → Link) : (s.onLink f).rst = s.rst := rfl
@[simp] theorem onLink_ring (s : State) (f : Link → Link) : (s.onLink f).ring = s.ring := rfl
@[simp] theorem onLink_cell (s : State) (f : Link → Link) : (s.onLink f).cell = s.cell := rfl
@[simp] theorem onLink_env (s : State) (f : Link → Link) : (s.onLink f).env = s.env := rfl
@[simp] theorem onLink_gate (s : State) (f : Link → Link) : (s.onLink f).gate = s.gate := rfl
@[simp] theorem onLink_cool (s : State) (f : Link → Link) : (s.onLink f).cool = s.cool := rfl
@[simp] theorem onLink_loop (s : State) (f : Link → Link) : (s.onLink f).loop = s.loop := rfl
@[simp] theorem onLink_fire (s : State) (f : Link → Link) : (s.onLink f).fire = s.fire := rfl
@[simp] theorem onLink_seqr (s : State) (f : Link → Link) : (s.onLink f).seqr = s.seqr := rfl
@[simp] theorem onLink_lines (s : State) (f : Link → Link) : (s.onLink f).lines = s.lines := rfl
@[simp] theorem onLink_link (s : State) (f : Link → Link) : (s.onLink f).link = f s.link := rfl
@[simp] theorem onLink_mgmt (s : State) (f : Link → Link) : (s.onLink f).mgmt = s.mgmt := rfl
@[simp] theorem onLink_store (s : State) (f : Link → Link) : (s.onLink f).store = s.store := rfl
@[simp] theorem onLink_pending (s : State) (f : Link → Link) : (s.onLink f).pending = s.pending := rfl

/-! onMgmt -/

@[simp] theorem onMgmt_now (s : State) (f : Mgmt → Mgmt) : (s.onMgmt f).now = s.now := rfl
@[simp] theorem onMgmt_phase (s : State) (f : Mgmt → Mgmt) : (s.onMgmt f).phase = s.phase := rfl
@[simp] theorem onMgmt_rst (s : State) (f : Mgmt → Mgmt) : (s.onMgmt f).rst = s.rst := rfl
@[simp] theorem onMgmt_ring (s : State) (f : Mgmt → Mgmt) : (s.onMgmt f).ring = s.ring := rfl
@[simp] theorem onMgmt_cell (s : State) (f : Mgmt → Mgmt) : (s.onMgmt f).cell = s.cell := rfl
@[simp] theorem onMgmt_env (s : State) (f : Mgmt → Mgmt) : (s.onMgmt f).env = s.env := rfl
@[simp] theorem onMgmt_gate (s : State) (f : Mgmt → Mgmt) : (s.onMgmt f).gate = s.gate := rfl
@[simp] theorem onMgmt_cool (s : State) (f : Mgmt → Mgmt) : (s.onMgmt f).cool = s.cool := rfl
@[simp] theorem onMgmt_loop (s : State) (f : Mgmt → Mgmt) : (s.onMgmt f).loop = s.loop := rfl
@[simp] theorem onMgmt_fire (s : State) (f : Mgmt → Mgmt) : (s.onMgmt f).fire = s.fire := rfl
@[simp] theorem onMgmt_seqr (s : State) (f : Mgmt → Mgmt) : (s.onMgmt f).seqr = s.seqr := rfl
@[simp] theorem onMgmt_lines (s : State) (f : Mgmt → Mgmt) : (s.onMgmt f).lines = s.lines := rfl
@[simp] theorem onMgmt_link (s : State) (f : Mgmt → Mgmt) : (s.onMgmt f).link = s.link := rfl
@[simp] theorem onMgmt_mgmt (s : State) (f : Mgmt → Mgmt) : (s.onMgmt f).mgmt = f s.mgmt := rfl
@[simp] theorem onMgmt_store (s : State) (f : Mgmt → Mgmt) : (s.onMgmt f).store = s.store := rfl
@[simp] theorem onMgmt_pending (s : State) (f : Mgmt → Mgmt) : (s.onMgmt f).pending = s.pending := rfl

/-! onStore -/

@[simp] theorem onStore_now (s : State) (f : Store → Store) : (s.onStore f).now = s.now := rfl
@[simp] theorem onStore_phase (s : State) (f : Store → Store) : (s.onStore f).phase = s.phase := rfl
@[simp] theorem onStore_rst (s : State) (f : Store → Store) : (s.onStore f).rst = s.rst := rfl
@[simp] theorem onStore_ring (s : State) (f : Store → Store) : (s.onStore f).ring = s.ring := rfl
@[simp] theorem onStore_cell (s : State) (f : Store → Store) : (s.onStore f).cell = s.cell := rfl
@[simp] theorem onStore_env (s : State) (f : Store → Store) : (s.onStore f).env = s.env := rfl
@[simp] theorem onStore_gate (s : State) (f : Store → Store) : (s.onStore f).gate = s.gate := rfl
@[simp] theorem onStore_cool (s : State) (f : Store → Store) : (s.onStore f).cool = s.cool := rfl
@[simp] theorem onStore_loop (s : State) (f : Store → Store) : (s.onStore f).loop = s.loop := rfl
@[simp] theorem onStore_fire (s : State) (f : Store → Store) : (s.onStore f).fire = s.fire := rfl
@[simp] theorem onStore_seqr (s : State) (f : Store → Store) : (s.onStore f).seqr = s.seqr := rfl
@[simp] theorem onStore_lines (s : State) (f : Store → Store) : (s.onStore f).lines = s.lines := rfl
@[simp] theorem onStore_link (s : State) (f : Store → Store) : (s.onStore f).link = s.link := rfl
@[simp] theorem onStore_mgmt (s : State) (f : Store → Store) : (s.onStore f).mgmt = s.mgmt := rfl
@[simp] theorem onStore_store (s : State) (f : Store → Store) : (s.onStore f).store = f s.store := rfl
@[simp] theorem onStore_pending (s : State) (f : Store → Store) : (s.onStore f).pending = s.pending := rfl

/-! setPending and tick -/

@[simp] theorem setPending_now (s : State) (q : List Instr) : (s.setPending q).now = s.now := rfl
@[simp] theorem setPending_phase (s : State) (q : List Instr) : (s.setPending q).phase = s.phase := rfl
@[simp] theorem setPending_rst (s : State) (q : List Instr) : (s.setPending q).rst = s.rst := rfl
@[simp] theorem setPending_ring (s : State) (q : List Instr) : (s.setPending q).ring = s.ring := rfl
@[simp] theorem setPending_cell (s : State) (q : List Instr) : (s.setPending q).cell = s.cell := rfl
@[simp] theorem setPending_env (s : State) (q : List Instr) : (s.setPending q).env = s.env := rfl
@[simp] theorem setPending_gate (s : State) (q : List Instr) : (s.setPending q).gate = s.gate := rfl
@[simp] theorem setPending_cool (s : State) (q : List Instr) : (s.setPending q).cool = s.cool := rfl
@[simp] theorem setPending_loop (s : State) (q : List Instr) : (s.setPending q).loop = s.loop := rfl
@[simp] theorem setPending_fire (s : State) (q : List Instr) : (s.setPending q).fire = s.fire := rfl
@[simp] theorem setPending_seqr (s : State) (q : List Instr) : (s.setPending q).seqr = s.seqr := rfl
@[simp] theorem setPending_lines (s : State) (q : List Instr) : (s.setPending q).lines = s.lines := rfl
@[simp] theorem setPending_link (s : State) (q : List Instr) : (s.setPending q).link = s.link := rfl
@[simp] theorem setPending_mgmt (s : State) (q : List Instr) : (s.setPending q).mgmt = s.mgmt := rfl
@[simp] theorem setPending_store (s : State) (q : List Instr) : (s.setPending q).store = s.store := rfl
@[simp] theorem setPending_pending (s : State) (q : List Instr) : (s.setPending q).pending = q := rfl

/-- Two states whose fields are equal are equal. -/
theorem eq_of_fields (s t : State) (h0 : s.now = t.now) (h1 : s.phase = t.phase) (h2 : s.rst = t.rst) (h3 : s.ring = t.ring) (h4 : s.cell = t.cell) (h5 : s.env = t.env) (h6 : s.gate = t.gate) (h7 : s.cool = t.cool) (h8 : s.loop = t.loop) (h9 : s.fire = t.fire) (h10 : s.seqr = t.seqr) (h11 : s.lines = t.lines) (h12 : s.link = t.link) (h13 : s.mgmt = t.mgmt) (h14 : s.store = t.store) (h15 : s.pending = t.pending) : s = t := by
  cases s; cases t; simp_all

end Sys2Proof.Machine.State
end

