-- ==== Sys2Proof/Laws/Notices.lean ====
section
/-! SUPPORT. What the shared operations over notices and responses leave alone. -/

namespace Sys2Proof.Machine

/-! Notices, frames sent upward and responses change the link alone (R177, R181). -/

@[simp] theorem raiseNotice_now (n : Notice) (s : State) : (raiseNotice n s).now = s.now := rfl
@[simp] theorem raiseNotice_phase (n : Notice) (s : State) : (raiseNotice n s).phase = s.phase := rfl
@[simp] theorem raiseNotice_rst (n : Notice) (s : State) : (raiseNotice n s).rst = s.rst := rfl
@[simp] theorem raiseNotice_ring (n : Notice) (s : State) : (raiseNotice n s).ring = s.ring := rfl
@[simp] theorem raiseNotice_cell (n : Notice) (s : State) : (raiseNotice n s).cell = s.cell := rfl
@[simp] theorem raiseNotice_env (n : Notice) (s : State) : (raiseNotice n s).env = s.env := rfl
@[simp] theorem raiseNotice_gate (n : Notice) (s : State) : (raiseNotice n s).gate = s.gate := rfl
@[simp] theorem raiseNotice_cool (n : Notice) (s : State) : (raiseNotice n s).cool = s.cool := rfl
@[simp] theorem raiseNotice_loop (n : Notice) (s : State) : (raiseNotice n s).loop = s.loop := rfl
@[simp] theorem raiseNotice_fire (n : Notice) (s : State) : (raiseNotice n s).fire = s.fire := rfl
@[simp] theorem raiseNotice_seqr (n : Notice) (s : State) : (raiseNotice n s).seqr = s.seqr := rfl
@[simp] theorem raiseNotice_lines (n : Notice) (s : State) : (raiseNotice n s).lines = s.lines := rfl
@[simp] theorem raiseNotice_mgmt (n : Notice) (s : State) : (raiseNotice n s).mgmt = s.mgmt := rfl
@[simp] theorem raiseNotice_store (n : Notice) (s : State) : (raiseNotice n s).store = s.store := rfl
@[simp] theorem raiseNotice_pending (n : Notice) (s : State) : (raiseNotice n s).pending = s.pending := rfl

@[simp] theorem raiseIf_now (b : Bool) (n : Notice) (s : State) : (raiseIf b n s).now = s.now := by cases b <;> rfl
@[simp] theorem raiseIf_phase (b : Bool) (n : Notice) (s : State) : (raiseIf b n s).phase = s.phase := by cases b <;> rfl
@[simp] theorem raiseIf_rst (b : Bool) (n : Notice) (s : State) : (raiseIf b n s).rst = s.rst := by cases b <;> rfl
@[simp] theorem raiseIf_ring (b : Bool) (n : Notice) (s : State) : (raiseIf b n s).ring = s.ring := by cases b <;> rfl
@[simp] theorem raiseIf_cell (b : Bool) (n : Notice) (s : State) : (raiseIf b n s).cell = s.cell := by cases b <;> rfl
@[simp] theorem raiseIf_env (b : Bool) (n : Notice) (s : State) : (raiseIf b n s).env = s.env := by cases b <;> rfl
@[simp] theorem raiseIf_gate (b : Bool) (n : Notice) (s : State) : (raiseIf b n s).gate = s.gate := by cases b <;> rfl
@[simp] theorem raiseIf_cool (b : Bool) (n : Notice) (s : State) : (raiseIf b n s).cool = s.cool := by cases b <;> rfl
@[simp] theorem raiseIf_loop (b : Bool) (n : Notice) (s : State) : (raiseIf b n s).loop = s.loop := by cases b <;> rfl
@[simp] theorem raiseIf_fire (b : Bool) (n : Notice) (s : State) : (raiseIf b n s).fire = s.fire := by cases b <;> rfl
@[simp] theorem raiseIf_seqr (b : Bool) (n : Notice) (s : State) : (raiseIf b n s).seqr = s.seqr := by cases b <;> rfl
@[simp] theorem raiseIf_lines (b : Bool) (n : Notice) (s : State) : (raiseIf b n s).lines = s.lines := by cases b <;> rfl
@[simp] theorem raiseIf_mgmt (b : Bool) (n : Notice) (s : State) : (raiseIf b n s).mgmt = s.mgmt := by cases b <;> rfl
@[simp] theorem raiseIf_store (b : Bool) (n : Notice) (s : State) : (raiseIf b n s).store = s.store := by cases b <;> rfl
@[simp] theorem raiseIf_pending (b : Bool) (n : Notice) (s : State) : (raiseIf b n s).pending = s.pending := by cases b <;> rfl

@[simp] theorem raiseAll_now (ns : List Notice) (s : State) : (raiseAll ns s).now = s.now := by
  induction ns generalizing s with
  | nil => rfl
  | cons n r ih => simpa [raiseAll] using ih (raiseNotice n s)
@[simp] theorem raiseAll_phase (ns : List Notice) (s : State) : (raiseAll ns s).phase = s.phase := by
  induction ns generalizing s with
  | nil => rfl
  | cons n r ih => simpa [raiseAll] using ih (raiseNotice n s)
@[simp] theorem raiseAll_rst (ns : List Notice) (s : State) : (raiseAll ns s).rst = s.rst := by
  induction ns generalizing s with
  | nil => rfl
  | cons n r ih => simpa [raiseAll] using ih (raiseNotice n s)
@[simp] theorem raiseAll_ring (ns : List Notice) (s : State) : (raiseAll ns s).ring = s.ring := by
  induction ns generalizing s with
  | nil => rfl
  | cons n r ih => simpa [raiseAll] using ih (raiseNotice n s)
@[simp] theorem raiseAll_cell (ns : List Notice) (s : State) : (raiseAll ns s).cell = s.cell := by
  induction ns generalizing s with
  | nil => rfl
  | cons n r ih => simpa [raiseAll] using ih (raiseNotice n s)
@[simp] theorem raiseAll_env (ns : List Notice) (s : State) : (raiseAll ns s).env = s.env := by
  induction ns generalizing s with
  | nil => rfl
  | cons n r ih => simpa [raiseAll] using ih (raiseNotice n s)
@[simp] theorem raiseAll_gate (ns : List Notice) (s : State) : (raiseAll ns s).gate = s.gate := by
  induction ns generalizing s with
  | nil => rfl
  | cons n r ih => simpa [raiseAll] using ih (raiseNotice n s)
@[simp] theorem raiseAll_cool (ns : List Notice) (s : State) : (raiseAll ns s).cool = s.cool := by
  induction ns generalizing s with
  | nil => rfl
  | cons n r ih => simpa [raiseAll] using ih (raiseNotice n s)
@[simp] theorem raiseAll_loop (ns : List Notice) (s : State) : (raiseAll ns s).loop = s.loop := by
  induction ns generalizing s with
  | nil => rfl
  | cons n r ih => simpa [raiseAll] using ih (raiseNotice n s)
@[simp] theorem raiseAll_fire (ns : List Notice) (s : State) : (raiseAll ns s).fire = s.fire := by
  induction ns generalizing s with
  | nil => rfl
  | cons n r ih => simpa [raiseAll] using ih (raiseNotice n s)
@[simp] theorem raiseAll_seqr (ns : List Notice) (s : State) : (raiseAll ns s).seqr = s.seqr := by
  induction ns generalizing s with
  | nil => rfl
  | cons n r ih => simpa [raiseAll] using ih (raiseNotice n s)
@[simp] theorem raiseAll_lines (ns : List Notice) (s : State) : (raiseAll ns s).lines = s.lines := by
  induction ns generalizing s with
  | nil => rfl
  | cons n r ih => simpa [raiseAll] using ih (raiseNotice n s)
@[simp] theorem raiseAll_mgmt (ns : List Notice) (s : State) : (raiseAll ns s).mgmt = s.mgmt := by
  induction ns generalizing s with
  | nil => rfl
  | cons n r ih => simpa [raiseAll] using ih (raiseNotice n s)
@[simp] theorem raiseAll_store (ns : List Notice) (s : State) : (raiseAll ns s).store = s.store := by
  induction ns generalizing s with
  | nil => rfl
  | cons n r ih => simpa [raiseAll] using ih (raiseNotice n s)
@[simp] theorem raiseAll_pending (ns : List Notice) (s : State) : (raiseAll ns s).pending = s.pending := by
  induction ns generalizing s with
  | nil => rfl
  | cons n r ih => simpa [raiseAll] using ih (raiseNotice n s)

@[simp] theorem passUp_now (p : FramePort) (f : Frame) (s : State) : (passUp p f s).now = s.now := rfl
@[simp] theorem passUp_phase (p : FramePort) (f : Frame) (s : State) : (passUp p f s).phase = s.phase := rfl
@[simp] theorem passUp_rst (p : FramePort) (f : Frame) (s : State) : (passUp p f s).rst = s.rst := rfl
@[simp] theorem passUp_ring (p : FramePort) (f : Frame) (s : State) : (passUp p f s).ring = s.ring := rfl
@[simp] theorem passUp_cell (p : FramePort) (f : Frame) (s : State) : (passUp p f s).cell = s.cell := rfl
@[simp] theorem passUp_env (p : FramePort) (f : Frame) (s : State) : (passUp p f s).env = s.env := rfl
@[simp] theorem passUp_gate (p : FramePort) (f : Frame) (s : State) : (passUp p f s).gate = s.gate := rfl
@[simp] theorem passUp_cool (p : FramePort) (f : Frame) (s : State) : (passUp p f s).cool = s.cool := rfl
@[simp] theorem passUp_loop (p : FramePort) (f : Frame) (s : State) : (passUp p f s).loop = s.loop := rfl
@[simp] theorem passUp_fire (p : FramePort) (f : Frame) (s : State) : (passUp p f s).fire = s.fire := rfl
@[simp] theorem passUp_seqr (p : FramePort) (f : Frame) (s : State) : (passUp p f s).seqr = s.seqr := rfl
@[simp] theorem passUp_lines (p : FramePort) (f : Frame) (s : State) : (passUp p f s).lines = s.lines := rfl
@[simp] theorem passUp_mgmt (p : FramePort) (f : Frame) (s : State) : (passUp p f s).mgmt = s.mgmt := rfl
@[simp] theorem passUp_store (p : FramePort) (f : Frame) (s : State) : (passUp p f s).store = s.store := rfl
@[simp] theorem passUp_pending (p : FramePort) (f : Frame) (s : State) : (passUp p f s).pending = s.pending := rfl

@[simp] theorem answerAs_now (b : Bool) (p : FramePort) (src id : Byte) (code : Nat) (st : Status) (rs : List Byte) (s : State) : (answerAs b p src id code st rs s).now = s.now := rfl
@[simp] theorem answerAs_phase (b : Bool) (p : FramePort) (src id : Byte) (code : Nat) (st : Status) (rs : List Byte) (s : State) : (answerAs b p src id code st rs s).phase = s.phase := rfl
@[simp] theorem answerAs_rst (b : Bool) (p : FramePort) (src id : Byte) (code : Nat) (st : Status) (rs : List Byte) (s : State) : (answerAs b p src id code st rs s).rst = s.rst := rfl
@[simp] theorem answerAs_ring (b : Bool) (p : FramePort) (src id : Byte) (code : Nat) (st : Status) (rs : List Byte) (s : State) : (answerAs b p src id code st rs s).ring = s.ring := rfl
@[simp] theorem answerAs_cell (b : Bool) (p : FramePort) (src id : Byte) (code : Nat) (st : Status) (rs : List Byte) (s : State) : (answerAs b p src id code st rs s).cell = s.cell := rfl
@[simp] theorem answerAs_env (b : Bool) (p : FramePort) (src id : Byte) (code : Nat) (st : Status) (rs : List Byte) (s : State) : (answerAs b p src id code st rs s).env = s.env := rfl
@[simp] theorem answerAs_gate (b : Bool) (p : FramePort) (src id : Byte) (code : Nat) (st : Status) (rs : List Byte) (s : State) : (answerAs b p src id code st rs s).gate = s.gate := rfl
@[simp] theorem answerAs_cool (b : Bool) (p : FramePort) (src id : Byte) (code : Nat) (st : Status) (rs : List Byte) (s : State) : (answerAs b p src id code st rs s).cool = s.cool := rfl
@[simp] theorem answerAs_loop (b : Bool) (p : FramePort) (src id : Byte) (code : Nat) (st : Status) (rs : List Byte) (s : State) : (answerAs b p src id code st rs s).loop = s.loop := rfl
@[simp] theorem answerAs_fire (b : Bool) (p : FramePort) (src id : Byte) (code : Nat) (st : Status) (rs : List Byte) (s : State) : (answerAs b p src id code st rs s).fire = s.fire := rfl
@[simp] theorem answerAs_seqr (b : Bool) (p : FramePort) (src id : Byte) (code : Nat) (st : Status) (rs : List Byte) (s : State) : (answerAs b p src id code st rs s).seqr = s.seqr := rfl
@[simp] theorem answerAs_lines (b : Bool) (p : FramePort) (src id : Byte) (code : Nat) (st : Status) (rs : List Byte) (s : State) : (answerAs b p src id code st rs s).lines = s.lines := rfl
@[simp] theorem answerAs_mgmt (b : Bool) (p : FramePort) (src id : Byte) (code : Nat) (st : Status) (rs : List Byte) (s : State) : (answerAs b p src id code st rs s).mgmt = s.mgmt := rfl
@[simp] theorem answerAs_store (b : Bool) (p : FramePort) (src id : Byte) (code : Nat) (st : Status) (rs : List Byte) (s : State) : (answerAs b p src id code st rs s).store = s.store := rfl
@[simp] theorem answerAs_pending (b : Bool) (p : FramePort) (src id : Byte) (code : Nat) (st : Status) (rs : List Byte) (s : State) : (answerAs b p src id code st rs s).pending = s.pending := rfl

@[simp] theorem answer_now (r : Request) (code : Nat) (st : Status) (rs : List Byte) (s : State) : (answer r code st rs s).now = s.now := rfl
@[simp] theorem answer_phase (r : Request) (code : Nat) (st : Status) (rs : List Byte) (s : State) : (answer r code st rs s).phase = s.phase := rfl
@[simp] theorem answer_rst (r : Request) (code : Nat) (st : Status) (rs : List Byte) (s : State) : (answer r code st rs s).rst = s.rst := rfl
@[simp] theorem answer_ring (r : Request) (code : Nat) (st : Status) (rs : List Byte) (s : State) : (answer r code st rs s).ring = s.ring := rfl
@[simp] theorem answer_cell (r : Request) (code : Nat) (st : Status) (rs : List Byte) (s : State) : (answer r code st rs s).cell = s.cell := rfl
@[simp] theorem answer_env (r : Request) (code : Nat) (st : Status) (rs : List Byte) (s : State) : (answer r code st rs s).env = s.env := rfl
@[simp] theorem answer_gate (r : Request) (code : Nat) (st : Status) (rs : List Byte) (s : State) : (answer r code st rs s).gate = s.gate := rfl
@[simp] theorem answer_cool (r : Request) (code : Nat) (st : Status) (rs : List Byte) (s : State) : (answer r code st rs s).cool = s.cool := rfl
@[simp] theorem answer_loop (r : Request) (code : Nat) (st : Status) (rs : List Byte) (s : State) : (answer r code st rs s).loop = s.loop := rfl
@[simp] theorem answer_fire (r : Request) (code : Nat) (st : Status) (rs : List Byte) (s : State) : (answer r code st rs s).fire = s.fire := rfl
@[simp] theorem answer_seqr (r : Request) (code : Nat) (st : Status) (rs : List Byte) (s : State) : (answer r code st rs s).seqr = s.seqr := rfl
@[simp] theorem answer_lines (r : Request) (code : Nat) (st : Status) (rs : List Byte) (s : State) : (answer r code st rs s).lines = s.lines := rfl
@[simp] theorem answer_mgmt (r : Request) (code : Nat) (st : Status) (rs : List Byte) (s : State) : (answer r code st rs s).mgmt = s.mgmt := rfl
@[simp] theorem answer_store (r : Request) (code : Nat) (st : Status) (rs : List Byte) (s : State) : (answer r code st rs s).store = s.store := rfl
@[simp] theorem answer_pending (r : Request) (code : Nat) (st : Status) (rs : List Byte) (s : State) : (answer r code st rs s).pending = s.pending := rfl

end Sys2Proof.Machine
end

