-- ==== Sys2Proof/Laws/Lines.lean ====
section
/-! SUPPORT. What the shared operations over limits, the Setpoint Slot and the output lines leave alone. -/

namespace Sys2Proof.Machine

/-! The Setpoint Gate's checks change the slot alone (R70, R75). -/

@[simp] theorem slotRewrite_now (s : State) : (slotRewrite s).now = s.now := by unfold slotRewrite; split <;> rfl
@[simp] theorem slotRewrite_phase (s : State) : (slotRewrite s).phase = s.phase := by unfold slotRewrite; split <;> rfl
@[simp] theorem slotRewrite_rst (s : State) : (slotRewrite s).rst = s.rst := by unfold slotRewrite; split <;> rfl
@[simp] theorem slotRewrite_cell (s : State) : (slotRewrite s).cell = s.cell := by unfold slotRewrite; split <;> rfl
@[simp] theorem slotRewrite_env (s : State) : (slotRewrite s).env = s.env := by unfold slotRewrite; split <;> rfl
@[simp] theorem slotRewrite_gate (s : State) : (slotRewrite s).gate = s.gate := by unfold slotRewrite; split <;> rfl
@[simp] theorem slotRewrite_cool (s : State) : (slotRewrite s).cool = s.cool := by unfold slotRewrite; split <;> rfl
@[simp] theorem slotRewrite_loop (s : State) : (slotRewrite s).loop = s.loop := by unfold slotRewrite; split <;> rfl
@[simp] theorem slotRewrite_fire (s : State) : (slotRewrite s).fire = s.fire := by unfold slotRewrite; split <;> rfl
@[simp] theorem slotRewrite_seqr (s : State) : (slotRewrite s).seqr = s.seqr := by unfold slotRewrite; split <;> rfl
@[simp] theorem slotRewrite_lines (s : State) : (slotRewrite s).lines = s.lines := by unfold slotRewrite; split <;> rfl
@[simp] theorem slotRewrite_link (s : State) : (slotRewrite s).link = s.link := by unfold slotRewrite; split <;> rfl
@[simp] theorem slotRewrite_mgmt (s : State) : (slotRewrite s).mgmt = s.mgmt := by unfold slotRewrite; split <;> rfl
@[simp] theorem slotRewrite_store (s : State) : (slotRewrite s).store = s.store := by unfold slotRewrite; split <;> rfl
@[simp] theorem slotRewrite_pending (s : State) : (slotRewrite s).pending = s.pending := by unfold slotRewrite; split <;> rfl

@[simp] theorem reissueCheck_now (s : State) : (reissueCheck s).now = s.now := by unfold reissueCheck; split <;> (try split) <;> rfl
@[simp] theorem reissueCheck_phase (s : State) : (reissueCheck s).phase = s.phase := by unfold reissueCheck; split <;> (try split) <;> rfl
@[simp] theorem reissueCheck_rst (s : State) : (reissueCheck s).rst = s.rst := by unfold reissueCheck; split <;> (try split) <;> rfl
@[simp] theorem reissueCheck_cell (s : State) : (reissueCheck s).cell = s.cell := by unfold reissueCheck; split <;> (try split) <;> rfl
@[simp] theorem reissueCheck_env (s : State) : (reissueCheck s).env = s.env := by unfold reissueCheck; split <;> (try split) <;> rfl
@[simp] theorem reissueCheck_gate (s : State) : (reissueCheck s).gate = s.gate := by unfold reissueCheck; split <;> (try split) <;> rfl
@[simp] theorem reissueCheck_cool (s : State) : (reissueCheck s).cool = s.cool := by unfold reissueCheck; split <;> (try split) <;> rfl
@[simp] theorem reissueCheck_loop (s : State) : (reissueCheck s).loop = s.loop := by unfold reissueCheck; split <;> (try split) <;> rfl
@[simp] theorem reissueCheck_fire (s : State) : (reissueCheck s).fire = s.fire := by unfold reissueCheck; split <;> (try split) <;> rfl
@[simp] theorem reissueCheck_seqr (s : State) : (reissueCheck s).seqr = s.seqr := by unfold reissueCheck; split <;> (try split) <;> rfl
@[simp] theorem reissueCheck_lines (s : State) : (reissueCheck s).lines = s.lines := by unfold reissueCheck; split <;> (try split) <;> rfl
@[simp] theorem reissueCheck_link (s : State) : (reissueCheck s).link = s.link := by unfold reissueCheck; split <;> (try split) <;> rfl
@[simp] theorem reissueCheck_mgmt (s : State) : (reissueCheck s).mgmt = s.mgmt := by unfold reissueCheck; split <;> (try split) <;> rfl
@[simp] theorem reissueCheck_store (s : State) : (reissueCheck s).store = s.store := by unfold reissueCheck; split <;> (try split) <;> rfl
@[simp] theorem reissueCheck_pending (s : State) : (reissueCheck s).pending = s.pending := by unfold reissueCheck; split <;> (try split) <;> rfl

@[simp] theorem limitsHanded_now (s : State) : (limitsHanded s).now = s.now := by simp [limitsHanded]
@[simp] theorem limitsHanded_phase (s : State) : (limitsHanded s).phase = s.phase := by simp [limitsHanded]
@[simp] theorem limitsHanded_rst (s : State) : (limitsHanded s).rst = s.rst := by simp [limitsHanded]
@[simp] theorem limitsHanded_cell (s : State) : (limitsHanded s).cell = s.cell := by simp [limitsHanded]
@[simp] theorem limitsHanded_env (s : State) : (limitsHanded s).env = s.env := by simp [limitsHanded]
@[simp] theorem limitsHanded_gate (s : State) : (limitsHanded s).gate = s.gate := by simp [limitsHanded]
@[simp] theorem limitsHanded_cool (s : State) : (limitsHanded s).cool = s.cool := by simp [limitsHanded]
@[simp] theorem limitsHanded_loop (s : State) : (limitsHanded s).loop = s.loop := by simp [limitsHanded]
@[simp] theorem limitsHanded_fire (s : State) : (limitsHanded s).fire = s.fire := by simp [limitsHanded]
@[simp] theorem limitsHanded_seqr (s : State) : (limitsHanded s).seqr = s.seqr := by simp [limitsHanded]
@[simp] theorem limitsHanded_lines (s : State) : (limitsHanded s).lines = s.lines := by simp [limitsHanded]
@[simp] theorem limitsHanded_link (s : State) : (limitsHanded s).link = s.link := by simp [limitsHanded]
@[simp] theorem limitsHanded_mgmt (s : State) : (limitsHanded s).mgmt = s.mgmt := by simp [limitsHanded]
@[simp] theorem limitsHanded_store (s : State) : (limitsHanded s).store = s.store := by simp [limitsHanded]
@[simp] theorem limitsHanded_pending (s : State) : (limitsHanded s).pending = s.pending := by simp [limitsHanded]

/-! Limits and gates change the envelope, the slot and the link (R60 to R63). -/

@[simp] theorem setLimits_now (c d : Nat) (s : State) : (setLimits c d s).now = s.now := by simp only [setLimits]; split <;> simp
@[simp] theorem setLimits_phase (c d : Nat) (s : State) : (setLimits c d s).phase = s.phase := by simp only [setLimits]; split <;> simp
@[simp] theorem setLimits_rst (c d : Nat) (s : State) : (setLimits c d s).rst = s.rst := by simp only [setLimits]; split <;> simp
@[simp] theorem setLimits_cell (c d : Nat) (s : State) : (setLimits c d s).cell = s.cell := by simp only [setLimits]; split <;> simp
@[simp] theorem setLimits_gate (c d : Nat) (s : State) : (setLimits c d s).gate = s.gate := by simp only [setLimits]; split <;> simp
@[simp] theorem setLimits_cool (c d : Nat) (s : State) : (setLimits c d s).cool = s.cool := by simp only [setLimits]; split <;> simp
@[simp] theorem setLimits_loop (c d : Nat) (s : State) : (setLimits c d s).loop = s.loop := by simp only [setLimits]; split <;> simp
@[simp] theorem setLimits_fire (c d : Nat) (s : State) : (setLimits c d s).fire = s.fire := by simp only [setLimits]; split <;> simp
@[simp] theorem setLimits_seqr (c d : Nat) (s : State) : (setLimits c d s).seqr = s.seqr := by simp only [setLimits]; split <;> simp
@[simp] theorem setLimits_lines (c d : Nat) (s : State) : (setLimits c d s).lines = s.lines := by simp only [setLimits]; split <;> simp
@[simp] theorem setLimits_mgmt (c d : Nat) (s : State) : (setLimits c d s).mgmt = s.mgmt := by simp only [setLimits]; split <;> simp
@[simp] theorem setLimits_store (c d : Nat) (s : State) : (setLimits c d s).store = s.store := by simp only [setLimits]; split <;> simp
@[simp] theorem setLimits_pending (c d : Nat) (s : State) : (setLimits c d s).pending = s.pending := by simp only [setLimits]; split <;> simp

@[simp] theorem gateOnset_now (g : Nat) (s : State) : (gateOnset g s).now = s.now := by simp [gateOnset]
@[simp] theorem gateOnset_phase (g : Nat) (s : State) : (gateOnset g s).phase = s.phase := by simp [gateOnset]
@[simp] theorem gateOnset_rst (g : Nat) (s : State) : (gateOnset g s).rst = s.rst := by simp [gateOnset]
@[simp] theorem gateOnset_cell (g : Nat) (s : State) : (gateOnset g s).cell = s.cell := by simp [gateOnset]
@[simp] theorem gateOnset_gate (g : Nat) (s : State) : (gateOnset g s).gate = s.gate := by simp [gateOnset]
@[simp] theorem gateOnset_cool (g : Nat) (s : State) : (gateOnset g s).cool = s.cool := by simp [gateOnset]
@[simp] theorem gateOnset_loop (g : Nat) (s : State) : (gateOnset g s).loop = s.loop := by simp [gateOnset]
@[simp] theorem gateOnset_fire (g : Nat) (s : State) : (gateOnset g s).fire = s.fire := by simp [gateOnset]
@[simp] theorem gateOnset_seqr (g : Nat) (s : State) : (gateOnset g s).seqr = s.seqr := by simp [gateOnset]
@[simp] theorem gateOnset_lines (g : Nat) (s : State) : (gateOnset g s).lines = s.lines := by simp [gateOnset]
@[simp] theorem gateOnset_mgmt (g : Nat) (s : State) : (gateOnset g s).mgmt = s.mgmt := by simp [gateOnset]
@[simp] theorem gateOnset_store (g : Nat) (s : State) : (gateOnset g s).store = s.store := by simp [gateOnset]
@[simp] theorem gateOnset_pending (g : Nat) (s : State) : (gateOnset g s).pending = s.pending := by simp [gateOnset]

@[simp] theorem gateEnd_now (g : Nat) (s : State) : (gateEnd g s).now = s.now := by simp [gateEnd]
@[simp] theorem gateEnd_phase (g : Nat) (s : State) : (gateEnd g s).phase = s.phase := by simp [gateEnd]
@[simp] theorem gateEnd_rst (g : Nat) (s : State) : (gateEnd g s).rst = s.rst := by simp [gateEnd]
@[simp] theorem gateEnd_ring (g : Nat) (s : State) : (gateEnd g s).ring = s.ring := by simp [gateEnd]
@[simp] theorem gateEnd_cell (g : Nat) (s : State) : (gateEnd g s).cell = s.cell := by simp [gateEnd]
@[simp] theorem gateEnd_gate (g : Nat) (s : State) : (gateEnd g s).gate = s.gate := by simp [gateEnd]
@[simp] theorem gateEnd_cool (g : Nat) (s : State) : (gateEnd g s).cool = s.cool := by simp [gateEnd]
@[simp] theorem gateEnd_loop (g : Nat) (s : State) : (gateEnd g s).loop = s.loop := by simp [gateEnd]
@[simp] theorem gateEnd_fire (g : Nat) (s : State) : (gateEnd g s).fire = s.fire := by simp [gateEnd]
@[simp] theorem gateEnd_seqr (g : Nat) (s : State) : (gateEnd g s).seqr = s.seqr := by simp [gateEnd]
@[simp] theorem gateEnd_lines (g : Nat) (s : State) : (gateEnd g s).lines = s.lines := by simp [gateEnd]
@[simp] theorem gateEnd_mgmt (g : Nat) (s : State) : (gateEnd g s).mgmt = s.mgmt := by simp [gateEnd]
@[simp] theorem gateEnd_store (g : Nat) (s : State) : (gateEnd g s).store = s.store := by simp [gateEnd]
@[simp] theorem gateEnd_pending (g : Nat) (s : State) : (gateEnd g s).pending = s.pending := by simp [gateEnd]

@[simp] theorem envelopeCompute_now (b : BaySummary) (c : CoolState) (s : State) : (envelopeCompute b c s).now = s.now := by simp [envelopeCompute]
@[simp] theorem envelopeCompute_phase (b : BaySummary) (c : CoolState) (s : State) : (envelopeCompute b c s).phase = s.phase := by simp [envelopeCompute]
@[simp] theorem envelopeCompute_rst (b : BaySummary) (c : CoolState) (s : State) : (envelopeCompute b c s).rst = s.rst := by simp [envelopeCompute]
@[simp] theorem envelopeCompute_cell (b : BaySummary) (c : CoolState) (s : State) : (envelopeCompute b c s).cell = s.cell := by simp [envelopeCompute]
@[simp] theorem envelopeCompute_gate (b : BaySummary) (c : CoolState) (s : State) : (envelopeCompute b c s).gate = s.gate := by simp [envelopeCompute]
@[simp] theorem envelopeCompute_cool (b : BaySummary) (c : CoolState) (s : State) : (envelopeCompute b c s).cool = s.cool := by simp [envelopeCompute]
@[simp] theorem envelopeCompute_loop (b : BaySummary) (c : CoolState) (s : State) : (envelopeCompute b c s).loop = s.loop := by simp [envelopeCompute]
@[simp] theorem envelopeCompute_fire (b : BaySummary) (c : CoolState) (s : State) : (envelopeCompute b c s).fire = s.fire := by simp [envelopeCompute]
@[simp] theorem envelopeCompute_seqr (b : BaySummary) (c : CoolState) (s : State) : (envelopeCompute b c s).seqr = s.seqr := by simp [envelopeCompute]
@[simp] theorem envelopeCompute_lines (b : BaySummary) (c : CoolState) (s : State) : (envelopeCompute b c s).lines = s.lines := by simp [envelopeCompute]
@[simp] theorem envelopeCompute_mgmt (b : BaySummary) (c : CoolState) (s : State) : (envelopeCompute b c s).mgmt = s.mgmt := by simp [envelopeCompute]
@[simp] theorem envelopeCompute_store (b : BaySummary) (c : CoolState) (s : State) : (envelopeCompute b c s).store = s.store := by simp [envelopeCompute]
@[simp] theorem envelopeCompute_pending (b : BaySummary) (c : CoolState) (s : State) : (envelopeCompute b c s).pending = s.pending := by simp [envelopeCompute]

/-! Composition changes the lines and the link, and of the lines neither inputs nor forces (R159, R163, R164). -/

@[simp] theorem composeAll_now (s : State) : (composeAll s).now = s.now := rfl
@[simp] theorem composeAll_phase (s : State) : (composeAll s).phase = s.phase := rfl
@[simp] theorem composeAll_rst (s : State) : (composeAll s).rst = s.rst := rfl
@[simp] theorem composeAll_ring (s : State) : (composeAll s).ring = s.ring := rfl
@[simp] theorem composeAll_cell (s : State) : (composeAll s).cell = s.cell := rfl
@[simp] theorem composeAll_env (s : State) : (composeAll s).env = s.env := rfl
@[simp] theorem composeAll_gate (s : State) : (composeAll s).gate = s.gate := rfl
@[simp] theorem composeAll_cool (s : State) : (composeAll s).cool = s.cool := rfl
@[simp] theorem composeAll_loop (s : State) : (composeAll s).loop = s.loop := rfl
@[simp] theorem composeAll_fire (s : State) : (composeAll s).fire = s.fire := rfl
@[simp] theorem composeAll_seqr (s : State) : (composeAll s).seqr = s.seqr := rfl
@[simp] theorem composeAll_link (s : State) : (composeAll s).link = s.link := rfl
@[simp] theorem composeAll_mgmt (s : State) : (composeAll s).mgmt = s.mgmt := rfl
@[simp] theorem composeAll_store (s : State) : (composeAll s).store = s.store := rfl
@[simp] theorem composeAll_pending (s : State) : (composeAll s).pending = s.pending := rfl

@[simp] theorem readbackEval_now (c : Contactor) (s : State) : (readbackEval c s).now = s.now := by simp [readbackEval]
@[simp] theorem readbackEval_phase (c : Contactor) (s : State) : (readbackEval c s).phase = s.phase := by simp [readbackEval]
@[simp] theorem readbackEval_rst (c : Contactor) (s : State) : (readbackEval c s).rst = s.rst := by simp [readbackEval]
@[simp] theorem readbackEval_ring (c : Contactor) (s : State) : (readbackEval c s).ring = s.ring := by simp [readbackEval]
@[simp] theorem readbackEval_cell (c : Contactor) (s : State) : (readbackEval c s).cell = s.cell := by simp [readbackEval]
@[simp] theorem readbackEval_env (c : Contactor) (s : State) : (readbackEval c s).env = s.env := by simp [readbackEval]
@[simp] theorem readbackEval_gate (c : Contactor) (s : State) : (readbackEval c s).gate = s.gate := by simp [readbackEval]
@[simp] theorem readbackEval_cool (c : Contactor) (s : State) : (readbackEval c s).cool = s.cool := by simp [readbackEval]
@[simp] theorem readbackEval_loop (c : Contactor) (s : State) : (readbackEval c s).loop = s.loop := by simp [readbackEval]
@[simp] theorem readbackEval_fire (c : Contactor) (s : State) : (readbackEval c s).fire = s.fire := by simp [readbackEval]
@[simp] theorem readbackEval_seqr (c : Contactor) (s : State) : (readbackEval c s).seqr = s.seqr := by simp [readbackEval]
@[simp] theorem readbackEval_mgmt (c : Contactor) (s : State) : (readbackEval c s).mgmt = s.mgmt := by simp [readbackEval]
@[simp] theorem readbackEval_store (c : Contactor) (s : State) : (readbackEval c s).store = s.store := by simp [readbackEval]
@[simp] theorem readbackEval_pending (c : Contactor) (s : State) : (readbackEval c s).pending = s.pending := by simp [readbackEval]

@[simp] theorem faultEval_now (s : State) : (faultEval s).now = s.now := by simp [faultEval]
@[simp] theorem faultEval_phase (s : State) : (faultEval s).phase = s.phase := by simp [faultEval]
@[simp] theorem faultEval_rst (s : State) : (faultEval s).rst = s.rst := by simp [faultEval]
@[simp] theorem faultEval_ring (s : State) : (faultEval s).ring = s.ring := by simp [faultEval]
@[simp] theorem faultEval_cell (s : State) : (faultEval s).cell = s.cell := by simp [faultEval]
@[simp] theorem faultEval_env (s : State) : (faultEval s).env = s.env := by simp [faultEval]
@[simp] theorem faultEval_gate (s : State) : (faultEval s).gate = s.gate := by simp [faultEval]
@[simp] theorem faultEval_cool (s : State) : (faultEval s).cool = s.cool := by simp [faultEval]
@[simp] theorem faultEval_loop (s : State) : (faultEval s).loop = s.loop := by simp [faultEval]
@[simp] theorem faultEval_fire (s : State) : (faultEval s).fire = s.fire := by simp [faultEval]
@[simp] theorem faultEval_seqr (s : State) : (faultEval s).seqr = s.seqr := by simp [faultEval]
@[simp] theorem faultEval_mgmt (s : State) : (faultEval s).mgmt = s.mgmt := by simp [faultEval]
@[simp] theorem faultEval_store (s : State) : (faultEval s).store = s.store := by simp [faultEval]
@[simp] theorem faultEval_pending (s : State) : (faultEval s).pending = s.pending := by simp [faultEval]

@[simp] theorem refreshLines_now (s : State) : (refreshLines s).now = s.now := by unfold refreshLines; split <;> simp
@[simp] theorem refreshLines_phase (s : State) : (refreshLines s).phase = s.phase := by unfold refreshLines; split <;> simp
@[simp] theorem refreshLines_rst (s : State) : (refreshLines s).rst = s.rst := by unfold refreshLines; split <;> simp
@[simp] theorem refreshLines_ring (s : State) : (refreshLines s).ring = s.ring := by unfold refreshLines; split <;> simp
@[simp] theorem refreshLines_cell (s : State) : (refreshLines s).cell = s.cell := by unfold refreshLines; split <;> simp
@[simp] theorem refreshLines_env (s : State) : (refreshLines s).env = s.env := by unfold refreshLines; split <;> simp
@[simp] theorem refreshLines_gate (s : State) : (refreshLines s).gate = s.gate := by unfold refreshLines; split <;> simp
@[simp] theorem refreshLines_cool (s : State) : (refreshLines s).cool = s.cool := by unfold refreshLines; split <;> simp
@[simp] theorem refreshLines_loop (s : State) : (refreshLines s).loop = s.loop := by unfold refreshLines; split <;> simp
@[simp] theorem refreshLines_fire (s : State) : (refreshLines s).fire = s.fire := by unfold refreshLines; split <;> simp
@[simp] theorem refreshLines_seqr (s : State) : (refreshLines s).seqr = s.seqr := by unfold refreshLines; split <;> simp
@[simp] theorem refreshLines_mgmt (s : State) : (refreshLines s).mgmt = s.mgmt := by unfold refreshLines; split <;> simp
@[simp] theorem refreshLines_store (s : State) : (refreshLines s).store = s.store := by unfold refreshLines; split <;> simp
@[simp] theorem refreshLines_pending (s : State) : (refreshLines s).pending = s.pending := by unfold refreshLines; split <;> simp

@[simp] theorem composeAll_control (s : State) : (composeAll s).lines.control = s.lines.control := rfl
@[simp] theorem readbackEval_control (c : Contactor) (s : State) : (readbackEval c s).lines.control = s.lines.control := by cases c <;> simp [readbackEval, setReadback]
@[simp] theorem faultEval_control (s : State) : (faultEval s).lines.control = s.lines.control := by simp [faultEval]
@[simp] theorem refreshLines_control (s : State) : (refreshLines s).lines.control = s.lines.control := by unfold refreshLines; split <;> simp
@[simp] theorem composeAll_inputs (s : State) : (composeAll s).lines.inputs = s.lines.inputs := rfl
@[simp] theorem readbackEval_inputs (c : Contactor) (s : State) : (readbackEval c s).lines.inputs = s.lines.inputs := by cases c <;> simp [readbackEval, setReadback]
@[simp] theorem faultEval_inputs (s : State) : (faultEval s).lines.inputs = s.lines.inputs := by simp [faultEval]
@[simp] theorem refreshLines_inputs (s : State) : (refreshLines s).lines.inputs = s.lines.inputs := by unfold refreshLines; split <;> simp
@[simp] theorem composeAll_forces (s : State) : (composeAll s).lines.forces = s.lines.forces := rfl
@[simp] theorem readbackEval_forces (c : Contactor) (s : State) : (readbackEval c s).lines.forces = s.lines.forces := by cases c <;> simp [readbackEval, setReadback]
@[simp] theorem faultEval_forces (s : State) : (faultEval s).lines.forces = s.lines.forces := by simp [faultEval]
@[simp] theorem refreshLines_forces (s : State) : (refreshLines s).lines.forces = s.lines.forces := by unfold refreshLines; split <;> simp

@[simp] theorem endForce_now (o : Nat) (s : State) : (endForce o s).now = s.now := by unfold endForce; split <;> simp
@[simp] theorem endForce_phase (o : Nat) (s : State) : (endForce o s).phase = s.phase := by unfold endForce; split <;> simp
@[simp] theorem endForce_rst (o : Nat) (s : State) : (endForce o s).rst = s.rst := by unfold endForce; split <;> simp
@[simp] theorem endForce_ring (o : Nat) (s : State) : (endForce o s).ring = s.ring := by unfold endForce; split <;> simp
@[simp] theorem endForce_cell (o : Nat) (s : State) : (endForce o s).cell = s.cell := by unfold endForce; split <;> simp
@[simp] theorem endForce_env (o : Nat) (s : State) : (endForce o s).env = s.env := by unfold endForce; split <;> simp
@[simp] theorem endForce_gate (o : Nat) (s : State) : (endForce o s).gate = s.gate := by unfold endForce; split <;> simp
@[simp] theorem endForce_cool (o : Nat) (s : State) : (endForce o s).cool = s.cool := by unfold endForce; split <;> simp
@[simp] theorem endForce_loop (o : Nat) (s : State) : (endForce o s).loop = s.loop := by unfold endForce; split <;> simp
@[simp] theorem endForce_fire (o : Nat) (s : State) : (endForce o s).fire = s.fire := by unfold endForce; split <;> simp
@[simp] theorem endForce_seqr (o : Nat) (s : State) : (endForce o s).seqr = s.seqr := by unfold endForce; split <;> simp
@[simp] theorem endForce_mgmt (o : Nat) (s : State) : (endForce o s).mgmt = s.mgmt := by unfold endForce; split <;> simp
@[simp] theorem endForce_store (o : Nat) (s : State) : (endForce o s).store = s.store := by unfold endForce; split <;> simp
@[simp] theorem endForce_pending (o : Nat) (s : State) : (endForce o s).pending = s.pending := by unfold endForce; split <;> simp

@[simp] theorem endContactorForces_now (s : State) : (endContactorForces s).now = s.now := by simp [endContactorForces]
@[simp] theorem endContactorForces_phase (s : State) : (endContactorForces s).phase = s.phase := by simp [endContactorForces]
@[simp] theorem endContactorForces_rst (s : State) : (endContactorForces s).rst = s.rst := by simp [endContactorForces]
@[simp] theorem endContactorForces_ring (s : State) : (endContactorForces s).ring = s.ring := by simp [endContactorForces]
@[simp] theorem endContactorForces_cell (s : State) : (endContactorForces s).cell = s.cell := by simp [endContactorForces]
@[simp] theorem endContactorForces_env (s : State) : (endContactorForces s).env = s.env := by simp [endContactorForces]
@[simp] theorem endContactorForces_gate (s : State) : (endContactorForces s).gate = s.gate := by simp [endContactorForces]
@[simp] theorem endContactorForces_cool (s : State) : (endContactorForces s).cool = s.cool := by simp [endContactorForces]
@[simp] theorem endContactorForces_loop (s : State) : (endContactorForces s).loop = s.loop := by simp [endContactorForces]
@[simp] theorem endContactorForces_fire (s : State) : (endContactorForces s).fire = s.fire := by simp [endContactorForces]
@[simp] theorem endContactorForces_seqr (s : State) : (endContactorForces s).seqr = s.seqr := by simp [endContactorForces]
@[simp] theorem endContactorForces_mgmt (s : State) : (endContactorForces s).mgmt = s.mgmt := by simp [endContactorForces]
@[simp] theorem endContactorForces_store (s : State) : (endContactorForces s).store = s.store := by simp [endContactorForces]
@[simp] theorem endContactorForces_pending (s : State) : (endContactorForces s).pending = s.pending := by simp [endContactorForces]

end Sys2Proof.Machine
end

