-- ==== Sys2Proof/Laws/Sequencer.lean ====
section
/-! SUPPORT. What the Connection Sequencer's shared operations leave alone. -/

namespace Sys2Proof.Machine

/-! A change of the sequencer's state (R143). -/

@[simp] theorem blindEval_now (s : State) : (blindEval s).now = s.now := by simp only [blindEval]; split_ifs <;> simp [blindOnset, blindEnd]
@[simp] theorem blindEval_phase (s : State) : (blindEval s).phase = s.phase := by simp only [blindEval]; split_ifs <;> simp [blindOnset, blindEnd]
@[simp] theorem blindEval_rst (s : State) : (blindEval s).rst = s.rst := by simp only [blindEval]; split_ifs <;> simp [blindOnset, blindEnd]
@[simp] theorem blindEval_ring (s : State) : (blindEval s).ring = s.ring := by simp only [blindEval]; split_ifs <;> simp [blindOnset, blindEnd]
@[simp] theorem blindEval_cell (s : State) : (blindEval s).cell = s.cell := by simp only [blindEval]; split_ifs <;> simp [blindOnset, blindEnd]
@[simp] theorem blindEval_env (s : State) : (blindEval s).env = s.env := by simp only [blindEval]; split_ifs <;> simp [blindOnset, blindEnd]
@[simp] theorem blindEval_gate (s : State) : (blindEval s).gate = s.gate := by simp only [blindEval]; split_ifs <;> simp [blindOnset, blindEnd]
@[simp] theorem blindEval_cool (s : State) : (blindEval s).cool = s.cool := by simp only [blindEval]; split_ifs <;> simp [blindOnset, blindEnd]
@[simp] theorem blindEval_loop (s : State) : (blindEval s).loop = s.loop := by simp only [blindEval]; split_ifs <;> simp [blindOnset, blindEnd]
@[simp] theorem blindEval_fire (s : State) : (blindEval s).fire = s.fire := by simp only [blindEval]; split_ifs <;> simp [blindOnset, blindEnd]
@[simp] theorem blindEval_lines (s : State) : (blindEval s).lines = s.lines := by simp only [blindEval]; split_ifs <;> simp [blindOnset, blindEnd]
@[simp] theorem blindEval_mgmt (s : State) : (blindEval s).mgmt = s.mgmt := by simp only [blindEval]; split_ifs <;> simp [blindOnset, blindEnd]
@[simp] theorem blindEval_store (s : State) : (blindEval s).store = s.store := by simp only [blindEval]; split_ifs <;> simp [blindOnset, blindEnd]
@[simp] theorem blindEval_pending (s : State) : (blindEval s).pending = s.pending := by simp only [blindEval]; split_ifs <;> simp [blindOnset, blindEnd]

@[simp] theorem strayStart_now (c : Cause) (s : State) : (strayStart c s).now = s.now := by simp [strayStart]
@[simp] theorem strayStart_phase (c : Cause) (s : State) : (strayStart c s).phase = s.phase := by simp [strayStart]
@[simp] theorem strayStart_rst (c : Cause) (s : State) : (strayStart c s).rst = s.rst := by simp [strayStart]
@[simp] theorem strayStart_ring (c : Cause) (s : State) : (strayStart c s).ring = s.ring := by simp [strayStart]
@[simp] theorem strayStart_cell (c : Cause) (s : State) : (strayStart c s).cell = s.cell := by simp [strayStart]
@[simp] theorem strayStart_env (c : Cause) (s : State) : (strayStart c s).env = s.env := by simp [strayStart]
@[simp] theorem strayStart_gate (c : Cause) (s : State) : (strayStart c s).gate = s.gate := by simp [strayStart]
@[simp] theorem strayStart_cool (c : Cause) (s : State) : (strayStart c s).cool = s.cool := by simp [strayStart]
@[simp] theorem strayStart_loop (c : Cause) (s : State) : (strayStart c s).loop = s.loop := by simp [strayStart]
@[simp] theorem strayStart_fire (c : Cause) (s : State) : (strayStart c s).fire = s.fire := by simp [strayStart]
@[simp] theorem strayStart_mgmt (c : Cause) (s : State) : (strayStart c s).mgmt = s.mgmt := by simp [strayStart]
@[simp] theorem strayStart_store (c : Cause) (s : State) : (strayStart c s).store = s.store := by simp [strayStart]
@[simp] theorem strayStart_pending (c : Cause) (s : State) : (strayStart c s).pending = s.pending := by simp [strayStart]

@[simp] theorem seqTo_now (st : SeqState) (s : State) : (seqTo st s).now = s.now := by simp only [seqTo]; split_ifs <;> simp
@[simp] theorem seqTo_phase (st : SeqState) (s : State) : (seqTo st s).phase = s.phase := by simp only [seqTo]; split_ifs <;> simp
@[simp] theorem seqTo_rst (st : SeqState) (s : State) : (seqTo st s).rst = s.rst := by simp only [seqTo]; split_ifs <;> simp
@[simp] theorem seqTo_cell (st : SeqState) (s : State) : (seqTo st s).cell = s.cell := by simp only [seqTo]; split_ifs <;> simp
@[simp] theorem seqTo_gate (st : SeqState) (s : State) : (seqTo st s).gate = s.gate := by simp only [seqTo]; split_ifs <;> simp
@[simp] theorem seqTo_cool (st : SeqState) (s : State) : (seqTo st s).cool = s.cool := by simp only [seqTo]; split_ifs <;> simp
@[simp] theorem seqTo_loop (st : SeqState) (s : State) : (seqTo st s).loop = s.loop := by simp only [seqTo]; split_ifs <;> simp
@[simp] theorem seqTo_fire (st : SeqState) (s : State) : (seqTo st s).fire = s.fire := by simp only [seqTo]; split_ifs <;> simp
@[simp] theorem seqTo_mgmt (st : SeqState) (s : State) : (seqTo st s).mgmt = s.mgmt := by simp only [seqTo]; split_ifs <;> simp
@[simp] theorem seqTo_store (st : SeqState) (s : State) : (seqTo st s).store = s.store := by simp only [seqTo]; split_ifs <;> simp
@[simp] theorem seqTo_pending (st : SeqState) (s : State) : (seqTo st s).pending = s.pending := by simp only [seqTo]; split_ifs <;> simp

@[simp] theorem lockOut_now (r : Lockout) (s : State) : (lockOut r s).now = s.now := by simp [lockOut]
@[simp] theorem lockOut_phase (r : Lockout) (s : State) : (lockOut r s).phase = s.phase := by simp [lockOut]
@[simp] theorem lockOut_rst (r : Lockout) (s : State) : (lockOut r s).rst = s.rst := by simp [lockOut]
@[simp] theorem lockOut_cell (r : Lockout) (s : State) : (lockOut r s).cell = s.cell := by simp [lockOut]
@[simp] theorem lockOut_gate (r : Lockout) (s : State) : (lockOut r s).gate = s.gate := by simp [lockOut]
@[simp] theorem lockOut_cool (r : Lockout) (s : State) : (lockOut r s).cool = s.cool := by simp [lockOut]
@[simp] theorem lockOut_loop (r : Lockout) (s : State) : (lockOut r s).loop = s.loop := by simp [lockOut]
@[simp] theorem lockOut_fire (r : Lockout) (s : State) : (lockOut r s).fire = s.fire := by simp [lockOut]
@[simp] theorem lockOut_store (r : Lockout) (s : State) : (lockOut r s).store = s.store := by simp [lockOut]
@[simp] theorem lockOut_pending (r : Lockout) (s : State) : (lockOut r s).pending = s.pending := by simp [lockOut]

@[simp] theorem tripTo_now (c : Cause) (cl : CauseClass) (k : Continuation) (s : State) : (tripTo c cl k s).now = s.now := by simp [tripTo]
@[simp] theorem tripTo_phase (c : Cause) (cl : CauseClass) (k : Continuation) (s : State) : (tripTo c cl k s).phase = s.phase := by simp [tripTo]
@[simp] theorem tripTo_rst (c : Cause) (cl : CauseClass) (k : Continuation) (s : State) : (tripTo c cl k s).rst = s.rst := by simp [tripTo]
@[simp] theorem tripTo_cell (c : Cause) (cl : CauseClass) (k : Continuation) (s : State) : (tripTo c cl k s).cell = s.cell := by simp [tripTo]
@[simp] theorem tripTo_gate (c : Cause) (cl : CauseClass) (k : Continuation) (s : State) : (tripTo c cl k s).gate = s.gate := by simp [tripTo]
@[simp] theorem tripTo_cool (c : Cause) (cl : CauseClass) (k : Continuation) (s : State) : (tripTo c cl k s).cool = s.cool := by simp [tripTo]
@[simp] theorem tripTo_loop (c : Cause) (cl : CauseClass) (k : Continuation) (s : State) : (tripTo c cl k s).loop = s.loop := by simp [tripTo]
@[simp] theorem tripTo_fire (c : Cause) (cl : CauseClass) (k : Continuation) (s : State) : (tripTo c cl k s).fire = s.fire := by simp [tripTo]
@[simp] theorem tripTo_mgmt (c : Cause) (cl : CauseClass) (k : Continuation) (s : State) : (tripTo c cl k s).mgmt = s.mgmt := by simp [tripTo]
@[simp] theorem tripTo_store (c : Cause) (cl : CauseClass) (k : Continuation) (s : State) : (tripTo c cl k s).store = s.store := by simp [tripTo]
@[simp] theorem tripTo_pending (c : Cause) (cl : CauseClass) (k : Continuation) (s : State) : (tripTo c cl k s).pending = s.pending := by simp [tripTo]

@[simp] theorem takeGrid_now (c : Cause) (s : State) : (takeGrid c s).now = s.now := by unfold takeGrid; split <;> simp
@[simp] theorem takeGrid_phase (c : Cause) (s : State) : (takeGrid c s).phase = s.phase := by unfold takeGrid; split <;> simp
@[simp] theorem takeGrid_rst (c : Cause) (s : State) : (takeGrid c s).rst = s.rst := by unfold takeGrid; split <;> simp
@[simp] theorem takeGrid_cell (c : Cause) (s : State) : (takeGrid c s).cell = s.cell := by unfold takeGrid; split <;> simp
@[simp] theorem takeGrid_gate (c : Cause) (s : State) : (takeGrid c s).gate = s.gate := by unfold takeGrid; split <;> simp
@[simp] theorem takeGrid_cool (c : Cause) (s : State) : (takeGrid c s).cool = s.cool := by unfold takeGrid; split <;> simp
@[simp] theorem takeGrid_loop (c : Cause) (s : State) : (takeGrid c s).loop = s.loop := by unfold takeGrid; split <;> simp
@[simp] theorem takeGrid_fire (c : Cause) (s : State) : (takeGrid c s).fire = s.fire := by unfold takeGrid; split <;> simp
@[simp] theorem takeGrid_mgmt (c : Cause) (s : State) : (takeGrid c s).mgmt = s.mgmt := by unfold takeGrid; split <;> simp
@[simp] theorem takeGrid_store (c : Cause) (s : State) : (takeGrid c s).store = s.store := by unfold takeGrid; split <;> simp
@[simp] theorem takeGrid_pending (c : Cause) (s : State) : (takeGrid c s).pending = s.pending := by unfold takeGrid; split <;> simp

@[simp] theorem takeBay_now (c : Cause) (s : State) : (takeBay c s).now = s.now := by unfold takeBay; split <;> (try split) <;> simp
@[simp] theorem takeBay_phase (c : Cause) (s : State) : (takeBay c s).phase = s.phase := by unfold takeBay; split <;> (try split) <;> simp
@[simp] theorem takeBay_rst (c : Cause) (s : State) : (takeBay c s).rst = s.rst := by unfold takeBay; split <;> (try split) <;> simp
@[simp] theorem takeBay_cell (c : Cause) (s : State) : (takeBay c s).cell = s.cell := by unfold takeBay; split <;> (try split) <;> simp
@[simp] theorem takeBay_gate (c : Cause) (s : State) : (takeBay c s).gate = s.gate := by unfold takeBay; split <;> (try split) <;> simp
@[simp] theorem takeBay_cool (c : Cause) (s : State) : (takeBay c s).cool = s.cool := by unfold takeBay; split <;> (try split) <;> simp
@[simp] theorem takeBay_loop (c : Cause) (s : State) : (takeBay c s).loop = s.loop := by unfold takeBay; split <;> (try split) <;> simp
@[simp] theorem takeBay_fire (c : Cause) (s : State) : (takeBay c s).fire = s.fire := by unfold takeBay; split <;> (try split) <;> simp
@[simp] theorem takeBay_store (c : Cause) (s : State) : (takeBay c s).store = s.store := by unfold takeBay; split <;> (try split) <;> simp
@[simp] theorem takeBay_pending (c : Cause) (s : State) : (takeBay c s).pending = s.pending := by unfold takeBay; split <;> (try split) <;> simp

@[simp] theorem seqEnterTested_now (st : SeqState) (s : State) : (seqEnterTested st s).now = s.now := by simp only [seqEnterTested]; split <;> simp
@[simp] theorem seqEnterTested_phase (st : SeqState) (s : State) : (seqEnterTested st s).phase = s.phase := by simp only [seqEnterTested]; split <;> simp
@[simp] theorem seqEnterTested_rst (st : SeqState) (s : State) : (seqEnterTested st s).rst = s.rst := by simp only [seqEnterTested]; split <;> simp
@[simp] theorem seqEnterTested_cell (st : SeqState) (s : State) : (seqEnterTested st s).cell = s.cell := by simp only [seqEnterTested]; split <;> simp
@[simp] theorem seqEnterTested_gate (st : SeqState) (s : State) : (seqEnterTested st s).gate = s.gate := by simp only [seqEnterTested]; split <;> simp
@[simp] theorem seqEnterTested_cool (st : SeqState) (s : State) : (seqEnterTested st s).cool = s.cool := by simp only [seqEnterTested]; split <;> simp
@[simp] theorem seqEnterTested_loop (st : SeqState) (s : State) : (seqEnterTested st s).loop = s.loop := by simp only [seqEnterTested]; split <;> simp
@[simp] theorem seqEnterTested_fire (st : SeqState) (s : State) : (seqEnterTested st s).fire = s.fire := by simp only [seqEnterTested]; split <;> simp
@[simp] theorem seqEnterTested_store (st : SeqState) (s : State) : (seqEnterTested st s).store = s.store := by simp only [seqEnterTested]; split <;> simp
@[simp] theorem seqEnterTested_pending (st : SeqState) (s : State) : (seqEnterTested st s).pending = s.pending := by simp only [seqEnterTested]; split <;> simp

@[simp] theorem tripTest_now (s : State) : (tripTest s).now = s.now := by unfold tripTest tripComplete; split <;> (try split) <;> (try split) <;> simp
@[simp] theorem tripTest_phase (s : State) : (tripTest s).phase = s.phase := by unfold tripTest tripComplete; split <;> (try split) <;> (try split) <;> simp
@[simp] theorem tripTest_rst (s : State) : (tripTest s).rst = s.rst := by unfold tripTest tripComplete; split <;> (try split) <;> (try split) <;> simp
@[simp] theorem tripTest_cell (s : State) : (tripTest s).cell = s.cell := by unfold tripTest tripComplete; split <;> (try split) <;> (try split) <;> simp
@[simp] theorem tripTest_gate (s : State) : (tripTest s).gate = s.gate := by unfold tripTest tripComplete; split <;> (try split) <;> (try split) <;> simp
@[simp] theorem tripTest_cool (s : State) : (tripTest s).cool = s.cool := by unfold tripTest tripComplete; split <;> (try split) <;> (try split) <;> simp
@[simp] theorem tripTest_loop (s : State) : (tripTest s).loop = s.loop := by unfold tripTest tripComplete; split <;> (try split) <;> (try split) <;> simp
@[simp] theorem tripTest_fire (s : State) : (tripTest s).fire = s.fire := by unfold tripTest tripComplete; split <;> (try split) <;> (try split) <;> simp
@[simp] theorem tripTest_store (s : State) : (tripTest s).store = s.store := by unfold tripTest tripComplete; split <;> (try split) <;> (try split) <;> simp
@[simp] theorem tripTest_pending (s : State) : (tripTest s).pending = s.pending := by unfold tripTest tripComplete; split <;> (try split) <;> (try split) <;> simp

@[simp] theorem openingTest_now (s : State) : (openingTest s).now = s.now := by unfold openingTest; split <;> (try split) <;> (try split) <;> simp
@[simp] theorem openingTest_phase (s : State) : (openingTest s).phase = s.phase := by unfold openingTest; split <;> (try split) <;> (try split) <;> simp
@[simp] theorem openingTest_rst (s : State) : (openingTest s).rst = s.rst := by unfold openingTest; split <;> (try split) <;> (try split) <;> simp
@[simp] theorem openingTest_cell (s : State) : (openingTest s).cell = s.cell := by unfold openingTest; split <;> (try split) <;> (try split) <;> simp
@[simp] theorem openingTest_gate (s : State) : (openingTest s).gate = s.gate := by unfold openingTest; split <;> (try split) <;> (try split) <;> simp
@[simp] theorem openingTest_cool (s : State) : (openingTest s).cool = s.cool := by unfold openingTest; split <;> (try split) <;> (try split) <;> simp
@[simp] theorem openingTest_loop (s : State) : (openingTest s).loop = s.loop := by unfold openingTest; split <;> (try split) <;> (try split) <;> simp
@[simp] theorem openingTest_fire (s : State) : (openingTest s).fire = s.fire := by unfold openingTest; split <;> (try split) <;> (try split) <;> simp
@[simp] theorem openingTest_store (s : State) : (openingTest s).store = s.store := by unfold openingTest; split <;> (try split) <;> (try split) <;> simp
@[simp] theorem openingTest_pending (s : State) : (openingTest s).pending = s.pending := by unfold openingTest; split <;> (try split) <;> (try split) <;> simp

@[simp] theorem strayStop_now (s : State) : (strayStop s).now = s.now := by simp [strayStop]
@[simp] theorem strayStop_phase (s : State) : (strayStop s).phase = s.phase := by simp [strayStop]
@[simp] theorem strayStop_rst (s : State) : (strayStop s).rst = s.rst := by simp [strayStop]
@[simp] theorem strayStop_ring (s : State) : (strayStop s).ring = s.ring := by simp [strayStop]
@[simp] theorem strayStop_cell (s : State) : (strayStop s).cell = s.cell := by simp [strayStop]
@[simp] theorem strayStop_env (s : State) : (strayStop s).env = s.env := by simp [strayStop]
@[simp] theorem strayStop_gate (s : State) : (strayStop s).gate = s.gate := by simp [strayStop]
@[simp] theorem strayStop_cool (s : State) : (strayStop s).cool = s.cool := by simp [strayStop]
@[simp] theorem strayStop_loop (s : State) : (strayStop s).loop = s.loop := by simp [strayStop]
@[simp] theorem strayStop_fire (s : State) : (strayStop s).fire = s.fire := by simp [strayStop]
@[simp] theorem strayStop_mgmt (s : State) : (strayStop s).mgmt = s.mgmt := by simp [strayStop]
@[simp] theorem strayStop_store (s : State) : (strayStop s).store = s.store := by simp [strayStop]
@[simp] theorem strayStop_pending (s : State) : (strayStop s).pending = s.pending := by simp [strayStop]

@[simp] theorem strayTest_now (s : State) : (strayTest s).now = s.now := by unfold strayTest; split <;> simp
@[simp] theorem strayTest_phase (s : State) : (strayTest s).phase = s.phase := by unfold strayTest; split <;> simp
@[simp] theorem strayTest_rst (s : State) : (strayTest s).rst = s.rst := by unfold strayTest; split <;> simp
@[simp] theorem strayTest_ring (s : State) : (strayTest s).ring = s.ring := by unfold strayTest; split <;> simp
@[simp] theorem strayTest_cell (s : State) : (strayTest s).cell = s.cell := by unfold strayTest; split <;> simp
@[simp] theorem strayTest_env (s : State) : (strayTest s).env = s.env := by unfold strayTest; split <;> simp
@[simp] theorem strayTest_gate (s : State) : (strayTest s).gate = s.gate := by unfold strayTest; split <;> simp
@[simp] theorem strayTest_cool (s : State) : (strayTest s).cool = s.cool := by unfold strayTest; split <;> simp
@[simp] theorem strayTest_loop (s : State) : (strayTest s).loop = s.loop := by unfold strayTest; split <;> simp
@[simp] theorem strayTest_fire (s : State) : (strayTest s).fire = s.fire := by unfold strayTest; split <;> simp
@[simp] theorem strayTest_mgmt (s : State) : (strayTest s).mgmt = s.mgmt := by unfold strayTest; split <;> simp
@[simp] theorem strayTest_store (s : State) : (strayTest s).store = s.store := by unfold strayTest; split <;> simp
@[simp] theorem strayTest_pending (s : State) : (strayTest s).pending = s.pending := by unfold strayTest; split <;> simp

@[simp] theorem strayFail_now (s : State) : (strayFail s).now = s.now := by simp only [strayFail]; split <;> simp
@[simp] theorem strayFail_phase (s : State) : (strayFail s).phase = s.phase := by simp only [strayFail]; split <;> simp
@[simp] theorem strayFail_rst (s : State) : (strayFail s).rst = s.rst := by simp only [strayFail]; split <;> simp
@[simp] theorem strayFail_cell (s : State) : (strayFail s).cell = s.cell := by simp only [strayFail]; split <;> simp
@[simp] theorem strayFail_gate (s : State) : (strayFail s).gate = s.gate := by simp only [strayFail]; split <;> simp
@[simp] theorem strayFail_cool (s : State) : (strayFail s).cool = s.cool := by simp only [strayFail]; split <;> simp
@[simp] theorem strayFail_loop (s : State) : (strayFail s).loop = s.loop := by simp only [strayFail]; split <;> simp
@[simp] theorem strayFail_fire (s : State) : (strayFail s).fire = s.fire := by simp only [strayFail]; split <;> simp
@[simp] theorem strayFail_store (s : State) : (strayFail s).store = s.store := by simp only [strayFail]; split <;> simp
@[simp] theorem strayFail_pending (s : State) : (strayFail s).pending = s.pending := by simp only [strayFail]; split <;> simp

@[simp] theorem seqNodes_now (b : Bool) (s : State) : (seqNodes b s).now = s.now := by simp only [seqNodes]; split_ifs <;> simp
@[simp] theorem seqNodes_phase (b : Bool) (s : State) : (seqNodes b s).phase = s.phase := by simp only [seqNodes]; split_ifs <;> simp
@[simp] theorem seqNodes_rst (b : Bool) (s : State) : (seqNodes b s).rst = s.rst := by simp only [seqNodes]; split_ifs <;> simp
@[simp] theorem seqNodes_cell (b : Bool) (s : State) : (seqNodes b s).cell = s.cell := by simp only [seqNodes]; split_ifs <;> simp
@[simp] theorem seqNodes_gate (b : Bool) (s : State) : (seqNodes b s).gate = s.gate := by simp only [seqNodes]; split_ifs <;> simp
@[simp] theorem seqNodes_cool (b : Bool) (s : State) : (seqNodes b s).cool = s.cool := by simp only [seqNodes]; split_ifs <;> simp
@[simp] theorem seqNodes_loop (b : Bool) (s : State) : (seqNodes b s).loop = s.loop := by simp only [seqNodes]; split_ifs <;> simp
@[simp] theorem seqNodes_fire (b : Bool) (s : State) : (seqNodes b s).fire = s.fire := by simp only [seqNodes]; split_ifs <;> simp
@[simp] theorem seqNodes_store (b : Bool) (s : State) : (seqNodes b s).store = s.store := by simp only [seqNodes]; split_ifs <;> simp
@[simp] theorem seqNodes_pending (b : Bool) (s : State) : (seqNodes b s).pending = s.pending := by simp only [seqNodes]; split_ifs <;> simp

end Sys2Proof.Machine
end

