-- ==== Sys2Proof/Laws/Blocks.lean ====
section
/-! SUPPORT. What the shared operations of cooling, fire, forces, the manual slot and node states leave alone. -/

namespace Sys2Proof.Machine

/-! The Cooling Controller's shared operations (R92, R95, R99, R100). -/

@[simp] theorem followPumps_now (s : State) : (followPumps s).now = s.now := rfl
@[simp] theorem followPumps_phase (s : State) : (followPumps s).phase = s.phase := rfl
@[simp] theorem followPumps_rst (s : State) : (followPumps s).rst = s.rst := rfl
@[simp] theorem followPumps_ring (s : State) : (followPumps s).ring = s.ring := rfl
@[simp] theorem followPumps_cell (s : State) : (followPumps s).cell = s.cell := rfl
@[simp] theorem followPumps_env (s : State) : (followPumps s).env = s.env := rfl
@[simp] theorem followPumps_gate (s : State) : (followPumps s).gate = s.gate := rfl
@[simp] theorem followPumps_loop (s : State) : (followPumps s).loop = s.loop := rfl
@[simp] theorem followPumps_fire (s : State) : (followPumps s).fire = s.fire := rfl
@[simp] theorem followPumps_seqr (s : State) : (followPumps s).seqr = s.seqr := rfl
@[simp] theorem followPumps_lines (s : State) : (followPumps s).lines = s.lines := rfl
@[simp] theorem followPumps_link (s : State) : (followPumps s).link = s.link := rfl
@[simp] theorem followPumps_mgmt (s : State) : (followPumps s).mgmt = s.mgmt := rfl
@[simp] theorem followPumps_store (s : State) : (followPumps s).store = s.store := rfl
@[simp] theorem followPumps_pending (s : State) : (followPumps s).pending = s.pending := rfl

@[simp] theorem zoneEval_now (z : Nat) (s : State) : (zoneEval z s).now = s.now := by simp [zoneEval]
@[simp] theorem zoneEval_phase (z : Nat) (s : State) : (zoneEval z s).phase = s.phase := by simp [zoneEval]
@[simp] theorem zoneEval_rst (z : Nat) (s : State) : (zoneEval z s).rst = s.rst := by simp [zoneEval]
@[simp] theorem zoneEval_ring (z : Nat) (s : State) : (zoneEval z s).ring = s.ring := by simp [zoneEval]
@[simp] theorem zoneEval_cell (z : Nat) (s : State) : (zoneEval z s).cell = s.cell := by simp [zoneEval]
@[simp] theorem zoneEval_env (z : Nat) (s : State) : (zoneEval z s).env = s.env := by simp [zoneEval]
@[simp] theorem zoneEval_gate (z : Nat) (s : State) : (zoneEval z s).gate = s.gate := by simp [zoneEval]
@[simp] theorem zoneEval_loop (z : Nat) (s : State) : (zoneEval z s).loop = s.loop := by simp [zoneEval]
@[simp] theorem zoneEval_fire (z : Nat) (s : State) : (zoneEval z s).fire = s.fire := by simp [zoneEval]
@[simp] theorem zoneEval_seqr (z : Nat) (s : State) : (zoneEval z s).seqr = s.seqr := by simp [zoneEval]
@[simp] theorem zoneEval_lines (z : Nat) (s : State) : (zoneEval z s).lines = s.lines := by simp [zoneEval]
@[simp] theorem zoneEval_mgmt (z : Nat) (s : State) : (zoneEval z s).mgmt = s.mgmt := by simp [zoneEval]
@[simp] theorem zoneEval_store (z : Nat) (s : State) : (zoneEval z s).store = s.store := by simp [zoneEval]
@[simp] theorem zoneEval_pending (z : Nat) (s : State) : (zoneEval z s).pending = s.pending := by simp [zoneEval]

@[simp] theorem bayEval_now (s : State) : (bayEval s).now = s.now := by simp only [bayEval]; split <;> simp
@[simp] theorem bayEval_phase (s : State) : (bayEval s).phase = s.phase := by simp only [bayEval]; split <;> simp
@[simp] theorem bayEval_rst (s : State) : (bayEval s).rst = s.rst := by simp only [bayEval]; split <;> simp
@[simp] theorem bayEval_cell (s : State) : (bayEval s).cell = s.cell := by simp only [bayEval]; split <;> simp
@[simp] theorem bayEval_gate (s : State) : (bayEval s).gate = s.gate := by simp only [bayEval]; split <;> simp
@[simp] theorem bayEval_loop (s : State) : (bayEval s).loop = s.loop := by simp only [bayEval]; split <;> simp
@[simp] theorem bayEval_fire (s : State) : (bayEval s).fire = s.fire := by simp only [bayEval]; split <;> simp
@[simp] theorem bayEval_store (s : State) : (bayEval s).store = s.store := by simp only [bayEval]; split <;> simp
@[simp] theorem bayEval_pending (s : State) : (bayEval s).pending = s.pending := by simp only [bayEval]; split <;> simp

/-- A fold keeps what every pass keeps. -/
theorem foldl_keeps {α β γ : Type} (g : β → γ) (f : β → α → β) (h : ∀ b a, g (f b a) = g b) (l : List α) (b : β) : g (l.foldl f b) = g b := by
  induction l generalizing b with
  | nil => rfl
  | cons a r ih => simpa [h] using ih (f b a)

@[simp] theorem coolSettle_now (old : State) (also : Nat → Bool) (s : State) : (coolSettle old also s).now = s.now := by
  simp only [coolSettle, refreshLines_now, bayEval_now]
  rw [foldl_keeps State.now _ (fun b a => by split <;> simp)]
  simp
@[simp] theorem coolSettle_phase (old : State) (also : Nat → Bool) (s : State) : (coolSettle old also s).phase = s.phase := by
  simp only [coolSettle, refreshLines_phase, bayEval_phase]
  rw [foldl_keeps State.phase _ (fun b a => by split <;> simp)]
  simp
@[simp] theorem coolSettle_rst (old : State) (also : Nat → Bool) (s : State) : (coolSettle old also s).rst = s.rst := by
  simp only [coolSettle, refreshLines_rst, bayEval_rst]
  rw [foldl_keeps State.rst _ (fun b a => by split <;> simp)]
  simp
@[simp] theorem coolSettle_cell (old : State) (also : Nat → Bool) (s : State) : (coolSettle old also s).cell = s.cell := by
  simp only [coolSettle, refreshLines_cell, bayEval_cell]
  rw [foldl_keeps State.cell _ (fun b a => by split <;> simp)]
  simp
@[simp] theorem coolSettle_gate (old : State) (also : Nat → Bool) (s : State) : (coolSettle old also s).gate = s.gate := by
  simp only [coolSettle, refreshLines_gate, bayEval_gate]
  rw [foldl_keeps State.gate _ (fun b a => by split <;> simp)]
  simp
@[simp] theorem coolSettle_loop (old : State) (also : Nat → Bool) (s : State) : (coolSettle old also s).loop = s.loop := by
  simp only [coolSettle, refreshLines_loop, bayEval_loop]
  rw [foldl_keeps State.loop _ (fun b a => by split <;> simp)]
  simp
@[simp] theorem coolSettle_fire (old : State) (also : Nat → Bool) (s : State) : (coolSettle old also s).fire = s.fire := by
  simp only [coolSettle, refreshLines_fire, bayEval_fire]
  rw [foldl_keeps State.fire _ (fun b a => by split <;> simp)]
  simp
@[simp] theorem coolSettle_store (old : State) (also : Nat → Bool) (s : State) : (coolSettle old also s).store = s.store := by
  simp only [coolSettle, refreshLines_store, bayEval_store]
  rw [foldl_keeps State.store _ (fun b a => by split <;> simp)]
  simp
@[simp] theorem coolSettle_pending (old : State) (also : Nat → Bool) (s : State) : (coolSettle old also s).pending = s.pending := by
  simp only [coolSettle, refreshLines_pending, bayEval_pending]
  rw [foldl_keeps State.pending _ (fun b a => by split <;> simp)]
  simp

@[simp] theorem reformOne_now (o : Nat) (s : State) : (reformOne o s).now = s.now := by simp [reformOne]
@[simp] theorem reformOne_phase (o : Nat) (s : State) : (reformOne o s).phase = s.phase := by simp [reformOne]
@[simp] theorem reformOne_rst (o : Nat) (s : State) : (reformOne o s).rst = s.rst := by simp [reformOne]
@[simp] theorem reformOne_cell (o : Nat) (s : State) : (reformOne o s).cell = s.cell := by simp [reformOne]
@[simp] theorem reformOne_gate (o : Nat) (s : State) : (reformOne o s).gate = s.gate := by simp [reformOne]
@[simp] theorem reformOne_loop (o : Nat) (s : State) : (reformOne o s).loop = s.loop := by simp [reformOne]
@[simp] theorem reformOne_fire (o : Nat) (s : State) : (reformOne o s).fire = s.fire := by simp [reformOne]
@[simp] theorem reformOne_store (o : Nat) (s : State) : (reformOne o s).store = s.store := by simp [reformOne]
@[simp] theorem reformOne_pending (o : Nat) (s : State) : (reformOne o s).pending = s.pending := by simp [reformOne]

@[simp] theorem reformOuts_now (s : State) : (reformOuts s).now = s.now := by unfold reformOuts; rw [foldl_keeps State.now _ (fun b a => by simp)]
@[simp] theorem reformOuts_phase (s : State) : (reformOuts s).phase = s.phase := by unfold reformOuts; rw [foldl_keeps State.phase _ (fun b a => by simp)]
@[simp] theorem reformOuts_rst (s : State) : (reformOuts s).rst = s.rst := by unfold reformOuts; rw [foldl_keeps State.rst _ (fun b a => by simp)]
@[simp] theorem reformOuts_ring (s : State) : (reformOuts s).ring = s.ring := by unfold reformOuts; rw [foldl_keeps State.ring _ (fun b a => by simp)]
@[simp] theorem reformOuts_cell (s : State) : (reformOuts s).cell = s.cell := by unfold reformOuts; rw [foldl_keeps State.cell _ (fun b a => by simp)]
@[simp] theorem reformOuts_env (s : State) : (reformOuts s).env = s.env := by unfold reformOuts; rw [foldl_keeps State.env _ (fun b a => by simp)]
@[simp] theorem reformOuts_gate (s : State) : (reformOuts s).gate = s.gate := by unfold reformOuts; rw [foldl_keeps State.gate _ (fun b a => by simp)]
@[simp] theorem reformOuts_loop (s : State) : (reformOuts s).loop = s.loop := by unfold reformOuts; rw [foldl_keeps State.loop _ (fun b a => by simp)]
@[simp] theorem reformOuts_fire (s : State) : (reformOuts s).fire = s.fire := by unfold reformOuts; rw [foldl_keeps State.fire _ (fun b a => by simp)]
@[simp] theorem reformOuts_seqr (s : State) : (reformOuts s).seqr = s.seqr := by unfold reformOuts; rw [foldl_keeps State.seqr _ (fun b a => by simp)]
@[simp] theorem reformOuts_lines (s : State) : (reformOuts s).lines = s.lines := by unfold reformOuts; rw [foldl_keeps State.lines _ (fun b a => by simp)]
@[simp] theorem reformOuts_link (s : State) : (reformOuts s).link = s.link := by unfold reformOuts; rw [foldl_keeps State.link _ (fun b a => by simp)]
@[simp] theorem reformOuts_mgmt (s : State) : (reformOuts s).mgmt = s.mgmt := by unfold reformOuts; rw [foldl_keeps State.mgmt _ (fun b a => by simp)]
@[simp] theorem reformOuts_store (s : State) : (reformOuts s).store = s.store := by unfold reformOuts; rw [foldl_keeps State.store _ (fun b a => by simp)]
@[simp] theorem reformOuts_pending (s : State) : (reformOuts s).pending = s.pending := by unfold reformOuts; rw [foldl_keeps State.pending _ (fun b a => by simp)]

@[simp] theorem reformAll_now (s : State) : (reformAll s).now = s.now := by simp [reformAll]
@[simp] theorem reformAll_phase (s : State) : (reformAll s).phase = s.phase := by simp [reformAll]
@[simp] theorem reformAll_rst (s : State) : (reformAll s).rst = s.rst := by simp [reformAll]
@[simp] theorem reformAll_cell (s : State) : (reformAll s).cell = s.cell := by simp [reformAll]
@[simp] theorem reformAll_gate (s : State) : (reformAll s).gate = s.gate := by simp [reformAll]
@[simp] theorem reformAll_loop (s : State) : (reformAll s).loop = s.loop := by simp [reformAll]
@[simp] theorem reformAll_fire (s : State) : (reformAll s).fire = s.fire := by simp [reformAll]
@[simp] theorem reformAll_store (s : State) : (reformAll s).store = s.store := by simp [reformAll]
@[simp] theorem reformAll_pending (s : State) : (reformAll s).pending = s.pending := by simp [reformAll]

@[simp] theorem dropForce_now (s : State) (o : Nat) : (dropForce s o).now = s.now := by unfold dropForce; split <;> (try split) <;> simp
@[simp] theorem dropForce_phase (s : State) (o : Nat) : (dropForce s o).phase = s.phase := by unfold dropForce; split <;> (try split) <;> simp
@[simp] theorem dropForce_rst (s : State) (o : Nat) : (dropForce s o).rst = s.rst := by unfold dropForce; split <;> (try split) <;> simp
@[simp] theorem dropForce_cell (s : State) (o : Nat) : (dropForce s o).cell = s.cell := by unfold dropForce; split <;> (try split) <;> simp
@[simp] theorem dropForce_gate (s : State) (o : Nat) : (dropForce s o).gate = s.gate := by unfold dropForce; split <;> (try split) <;> simp
@[simp] theorem dropForce_loop (s : State) (o : Nat) : (dropForce s o).loop = s.loop := by unfold dropForce; split <;> (try split) <;> simp
@[simp] theorem dropForce_fire (s : State) (o : Nat) : (dropForce s o).fire = s.fire := by unfold dropForce; split <;> (try split) <;> simp
@[simp] theorem dropForce_store (s : State) (o : Nat) : (dropForce s o).store = s.store := by unfold dropForce; split <;> (try split) <;> simp
@[simp] theorem dropForce_pending (s : State) (o : Nat) : (dropForce s o).pending = s.pending := by unfold dropForce; split <;> (try split) <;> simp

@[simp] theorem dropAllForces_now (s : State) : (dropAllForces s).now = s.now := by simp only [dropAllForces, refreshLines_now]; rw [foldl_keeps State.now _ (fun b a => by simp)]
@[simp] theorem dropAllForces_phase (s : State) : (dropAllForces s).phase = s.phase := by simp only [dropAllForces, refreshLines_phase]; rw [foldl_keeps State.phase _ (fun b a => by simp)]
@[simp] theorem dropAllForces_rst (s : State) : (dropAllForces s).rst = s.rst := by simp only [dropAllForces, refreshLines_rst]; rw [foldl_keeps State.rst _ (fun b a => by simp)]
@[simp] theorem dropAllForces_cell (s : State) : (dropAllForces s).cell = s.cell := by simp only [dropAllForces, refreshLines_cell]; rw [foldl_keeps State.cell _ (fun b a => by simp)]
@[simp] theorem dropAllForces_gate (s : State) : (dropAllForces s).gate = s.gate := by simp only [dropAllForces, refreshLines_gate]; rw [foldl_keeps State.gate _ (fun b a => by simp)]
@[simp] theorem dropAllForces_loop (s : State) : (dropAllForces s).loop = s.loop := by simp only [dropAllForces, refreshLines_loop]; rw [foldl_keeps State.loop _ (fun b a => by simp)]
@[simp] theorem dropAllForces_fire (s : State) : (dropAllForces s).fire = s.fire := by simp only [dropAllForces, refreshLines_fire]; rw [foldl_keeps State.fire _ (fun b a => by simp)]
@[simp] theorem dropAllForces_store (s : State) : (dropAllForces s).store = s.store := by simp only [dropAllForces, refreshLines_store]; rw [foldl_keeps State.store _ (fun b a => by simp)]
@[simp] theorem dropAllForces_pending (s : State) : (dropAllForces s).pending = s.pending := by simp only [dropAllForces, refreshLines_pending]; rw [foldl_keeps State.pending _ (fun b a => by simp)]

@[simp] theorem answerManual_now (m : Manual) (r : ScriptResult) (rs : List StepResult) (s : State) : (answerManual m r rs s).now = s.now := by simp [answerManual]
@[simp] theorem answerManual_phase (m : Manual) (r : ScriptResult) (rs : List StepResult) (s : State) : (answerManual m r rs s).phase = s.phase := by simp [answerManual]
@[simp] theorem answerManual_rst (m : Manual) (r : ScriptResult) (rs : List StepResult) (s : State) : (answerManual m r rs s).rst = s.rst := by simp [answerManual]
@[simp] theorem answerManual_ring (m : Manual) (r : ScriptResult) (rs : List StepResult) (s : State) : (answerManual m r rs s).ring = s.ring := by simp [answerManual]
@[simp] theorem answerManual_cell (m : Manual) (r : ScriptResult) (rs : List StepResult) (s : State) : (answerManual m r rs s).cell = s.cell := by simp [answerManual]
@[simp] theorem answerManual_env (m : Manual) (r : ScriptResult) (rs : List StepResult) (s : State) : (answerManual m r rs s).env = s.env := by simp [answerManual]
@[simp] theorem answerManual_gate (m : Manual) (r : ScriptResult) (rs : List StepResult) (s : State) : (answerManual m r rs s).gate = s.gate := by simp [answerManual]
@[simp] theorem answerManual_cool (m : Manual) (r : ScriptResult) (rs : List StepResult) (s : State) : (answerManual m r rs s).cool = s.cool := by simp [answerManual]
@[simp] theorem answerManual_fire (m : Manual) (r : ScriptResult) (rs : List StepResult) (s : State) : (answerManual m r rs s).fire = s.fire := by simp [answerManual]
@[simp] theorem answerManual_seqr (m : Manual) (r : ScriptResult) (rs : List StepResult) (s : State) : (answerManual m r rs s).seqr = s.seqr := by simp [answerManual]
@[simp] theorem answerManual_lines (m : Manual) (r : ScriptResult) (rs : List StepResult) (s : State) : (answerManual m r rs s).lines = s.lines := by simp [answerManual]
@[simp] theorem answerManual_mgmt (m : Manual) (r : ScriptResult) (rs : List StepResult) (s : State) : (answerManual m r rs s).mgmt = s.mgmt := by simp [answerManual]
@[simp] theorem answerManual_store (m : Manual) (r : ScriptResult) (rs : List StepResult) (s : State) : (answerManual m r rs s).store = s.store := by simp [answerManual]
@[simp] theorem answerManual_pending (m : Manual) (r : ScriptResult) (rs : List StepResult) (s : State) : (answerManual m r rs s).pending = s.pending := by simp [answerManual]

@[simp] theorem loopAct_now (a : LoopAct) (s : State) : (loopAct a s).now = s.now := rfl
@[simp] theorem loopAct_phase (a : LoopAct) (s : State) : (loopAct a s).phase = s.phase := rfl
@[simp] theorem loopAct_rst (a : LoopAct) (s : State) : (loopAct a s).rst = s.rst := rfl
@[simp] theorem loopAct_ring (a : LoopAct) (s : State) : (loopAct a s).ring = s.ring := rfl
@[simp] theorem loopAct_cell (a : LoopAct) (s : State) : (loopAct a s).cell = s.cell := rfl
@[simp] theorem loopAct_env (a : LoopAct) (s : State) : (loopAct a s).env = s.env := rfl
@[simp] theorem loopAct_gate (a : LoopAct) (s : State) : (loopAct a s).gate = s.gate := rfl
@[simp] theorem loopAct_cool (a : LoopAct) (s : State) : (loopAct a s).cool = s.cool := rfl
@[simp] theorem loopAct_fire (a : LoopAct) (s : State) : (loopAct a s).fire = s.fire := rfl
@[simp] theorem loopAct_seqr (a : LoopAct) (s : State) : (loopAct a s).seqr = s.seqr := rfl
@[simp] theorem loopAct_lines (a : LoopAct) (s : State) : (loopAct a s).lines = s.lines := rfl
@[simp] theorem loopAct_link (a : LoopAct) (s : State) : (loopAct a s).link = s.link := rfl
@[simp] theorem loopAct_mgmt (a : LoopAct) (s : State) : (loopAct a s).mgmt = s.mgmt := rfl
@[simp] theorem loopAct_store (a : LoopAct) (s : State) : (loopAct a s).store = s.store := rfl
@[simp] theorem loopAct_pending (a : LoopAct) (s : State) : (loopAct a s).pending = s.pending := rfl

@[simp] theorem recoverBus_now (c : Bool) (e : Option ScriptEnd) (b : Bool) (s : State) : (recoverBus c e b s).now = s.now := rfl
@[simp] theorem recoverBus_phase (c : Bool) (e : Option ScriptEnd) (b : Bool) (s : State) : (recoverBus c e b s).phase = s.phase := rfl
@[simp] theorem recoverBus_rst (c : Bool) (e : Option ScriptEnd) (b : Bool) (s : State) : (recoverBus c e b s).rst = s.rst := rfl
@[simp] theorem recoverBus_ring (c : Bool) (e : Option ScriptEnd) (b : Bool) (s : State) : (recoverBus c e b s).ring = s.ring := rfl
@[simp] theorem recoverBus_cell (c : Bool) (e : Option ScriptEnd) (b : Bool) (s : State) : (recoverBus c e b s).cell = s.cell := rfl
@[simp] theorem recoverBus_env (c : Bool) (e : Option ScriptEnd) (b : Bool) (s : State) : (recoverBus c e b s).env = s.env := rfl
@[simp] theorem recoverBus_gate (c : Bool) (e : Option ScriptEnd) (b : Bool) (s : State) : (recoverBus c e b s).gate = s.gate := rfl
@[simp] theorem recoverBus_cool (c : Bool) (e : Option ScriptEnd) (b : Bool) (s : State) : (recoverBus c e b s).cool = s.cool := rfl
@[simp] theorem recoverBus_fire (c : Bool) (e : Option ScriptEnd) (b : Bool) (s : State) : (recoverBus c e b s).fire = s.fire := rfl
@[simp] theorem recoverBus_seqr (c : Bool) (e : Option ScriptEnd) (b : Bool) (s : State) : (recoverBus c e b s).seqr = s.seqr := rfl
@[simp] theorem recoverBus_lines (c : Bool) (e : Option ScriptEnd) (b : Bool) (s : State) : (recoverBus c e b s).lines = s.lines := rfl
@[simp] theorem recoverBus_link (c : Bool) (e : Option ScriptEnd) (b : Bool) (s : State) : (recoverBus c e b s).link = s.link := rfl
@[simp] theorem recoverBus_mgmt (c : Bool) (e : Option ScriptEnd) (b : Bool) (s : State) : (recoverBus c e b s).mgmt = s.mgmt := rfl
@[simp] theorem recoverBus_store (c : Bool) (e : Option ScriptEnd) (b : Bool) (s : State) : (recoverBus c e b s).store = s.store := rfl
@[simp] theorem recoverBus_pending (c : Bool) (e : Option ScriptEnd) (b : Bool) (s : State) : (recoverBus c e b s).pending = s.pending := rfl

@[simp] theorem abortBus_now (s : State) : (abortBus s).now = s.now := by unfold abortBus; split <;> rfl
@[simp] theorem abortBus_phase (s : State) : (abortBus s).phase = s.phase := by unfold abortBus; split <;> rfl
@[simp] theorem abortBus_rst (s : State) : (abortBus s).rst = s.rst := by unfold abortBus; split <;> rfl
@[simp] theorem abortBus_ring (s : State) : (abortBus s).ring = s.ring := by unfold abortBus; split <;> rfl
@[simp] theorem abortBus_cell (s : State) : (abortBus s).cell = s.cell := by unfold abortBus; split <;> rfl
@[simp] theorem abortBus_env (s : State) : (abortBus s).env = s.env := by unfold abortBus; split <;> rfl
@[simp] theorem abortBus_gate (s : State) : (abortBus s).gate = s.gate := by unfold abortBus; split <;> rfl
@[simp] theorem abortBus_cool (s : State) : (abortBus s).cool = s.cool := by unfold abortBus; split <;> rfl
@[simp] theorem abortBus_fire (s : State) : (abortBus s).fire = s.fire := by unfold abortBus; split <;> rfl
@[simp] theorem abortBus_seqr (s : State) : (abortBus s).seqr = s.seqr := by unfold abortBus; split <;> rfl
@[simp] theorem abortBus_lines (s : State) : (abortBus s).lines = s.lines := by unfold abortBus; split <;> rfl
@[simp] theorem abortBus_link (s : State) : (abortBus s).link = s.link := by unfold abortBus; split <;> rfl
@[simp] theorem abortBus_mgmt (s : State) : (abortBus s).mgmt = s.mgmt := by unfold abortBus; split <;> rfl
@[simp] theorem abortBus_store (s : State) : (abortBus s).store = s.store := by unfold abortBus; split <;> rfl
@[simp] theorem abortBus_pending (s : State) : (abortBus s).pending = s.pending := by unfold abortBus; split <;> rfl

@[simp] theorem loopClear_now (s : State) : ((loopClear s).1).now = s.now := by unfold loopClear; split <;> (try split) <;> simp
@[simp] theorem loopClear_phase (s : State) : ((loopClear s).1).phase = s.phase := by unfold loopClear; split <;> (try split) <;> simp
@[simp] theorem loopClear_rst (s : State) : ((loopClear s).1).rst = s.rst := by unfold loopClear; split <;> (try split) <;> simp
@[simp] theorem loopClear_ring (s : State) : ((loopClear s).1).ring = s.ring := by unfold loopClear; split <;> (try split) <;> simp
@[simp] theorem loopClear_cell (s : State) : ((loopClear s).1).cell = s.cell := by unfold loopClear; split <;> (try split) <;> simp
@[simp] theorem loopClear_env (s : State) : ((loopClear s).1).env = s.env := by unfold loopClear; split <;> (try split) <;> simp
@[simp] theorem loopClear_gate (s : State) : ((loopClear s).1).gate = s.gate := by unfold loopClear; split <;> (try split) <;> simp
@[simp] theorem loopClear_cool (s : State) : ((loopClear s).1).cool = s.cool := by unfold loopClear; split <;> (try split) <;> simp
@[simp] theorem loopClear_fire (s : State) : ((loopClear s).1).fire = s.fire := by unfold loopClear; split <;> (try split) <;> simp
@[simp] theorem loopClear_seqr (s : State) : ((loopClear s).1).seqr = s.seqr := by unfold loopClear; split <;> (try split) <;> simp
@[simp] theorem loopClear_lines (s : State) : ((loopClear s).1).lines = s.lines := by unfold loopClear; split <;> (try split) <;> simp
@[simp] theorem loopClear_mgmt (s : State) : ((loopClear s).1).mgmt = s.mgmt := by unfold loopClear; split <;> (try split) <;> simp
@[simp] theorem loopClear_store (s : State) : ((loopClear s).1).store = s.store := by unfold loopClear; split <;> (try split) <;> simp
@[simp] theorem loopClear_pending (s : State) : ((loopClear s).1).pending = s.pending := by unfold loopClear; split <;> (try split) <;> simp

@[simp] theorem abandonRestart_now (s : State) : (abandonRestart s).now = s.now := by unfold abandonRestart; split <;> simp
@[simp] theorem abandonRestart_phase (s : State) : (abandonRestart s).phase = s.phase := by unfold abandonRestart; split <;> simp
@[simp] theorem abandonRestart_rst (s : State) : (abandonRestart s).rst = s.rst := by unfold abandonRestart; split <;> simp
@[simp] theorem abandonRestart_ring (s : State) : (abandonRestart s).ring = s.ring := by unfold abandonRestart; split <;> simp
@[simp] theorem abandonRestart_cell (s : State) : (abandonRestart s).cell = s.cell := by unfold abandonRestart; split <;> simp
@[simp] theorem abandonRestart_env (s : State) : (abandonRestart s).env = s.env := by unfold abandonRestart; split <;> simp
@[simp] theorem abandonRestart_gate (s : State) : (abandonRestart s).gate = s.gate := by unfold abandonRestart; split <;> simp
@[simp] theorem abandonRestart_cool (s : State) : (abandonRestart s).cool = s.cool := by unfold abandonRestart; split <;> simp
@[simp] theorem abandonRestart_loop (s : State) : (abandonRestart s).loop = s.loop := by unfold abandonRestart; split <;> simp
@[simp] theorem abandonRestart_fire (s : State) : (abandonRestart s).fire = s.fire := by unfold abandonRestart; split <;> simp
@[simp] theorem abandonRestart_seqr (s : State) : (abandonRestart s).seqr = s.seqr := by unfold abandonRestart; split <;> simp
@[simp] theorem abandonRestart_lines (s : State) : (abandonRestart s).lines = s.lines := by unfold abandonRestart; split <;> simp
@[simp] theorem abandonRestart_store (s : State) : (abandonRestart s).store = s.store := by unfold abandonRestart; split <;> simp
@[simp] theorem abandonRestart_pending (s : State) : (abandonRestart s).pending = s.pending := by unfold abandonRestart; split <;> simp

@[simp] theorem leaveQuiet_now (s : State) : (leaveQuiet s).now = s.now := by simp [leaveQuiet]
@[simp] theorem leaveQuiet_phase (s : State) : (leaveQuiet s).phase = s.phase := by simp [leaveQuiet]
@[simp] theorem leaveQuiet_rst (s : State) : (leaveQuiet s).rst = s.rst := by simp [leaveQuiet]
@[simp] theorem leaveQuiet_cell (s : State) : (leaveQuiet s).cell = s.cell := by simp [leaveQuiet]
@[simp] theorem leaveQuiet_gate (s : State) : (leaveQuiet s).gate = s.gate := by simp [leaveQuiet]
@[simp] theorem leaveQuiet_fire (s : State) : (leaveQuiet s).fire = s.fire := by simp [leaveQuiet]
@[simp] theorem leaveQuiet_store (s : State) : (leaveQuiet s).store = s.store := by simp [leaveQuiet]
@[simp] theorem leaveQuiet_pending (s : State) : (leaveQuiet s).pending = s.pending := by simp [leaveQuiet]

@[simp] theorem fireTo_now (st : FireState) (s : State) : (fireTo st s).now = s.now := by simp only [fireTo]; split_ifs <;> simp
@[simp] theorem fireTo_phase (st : FireState) (s : State) : (fireTo st s).phase = s.phase := by simp only [fireTo]; split_ifs <;> simp
@[simp] theorem fireTo_rst (st : FireState) (s : State) : (fireTo st s).rst = s.rst := by simp only [fireTo]; split_ifs <;> simp
@[simp] theorem fireTo_cell (st : FireState) (s : State) : (fireTo st s).cell = s.cell := by simp only [fireTo]; split_ifs <;> simp
@[simp] theorem fireTo_gate (st : FireState) (s : State) : (fireTo st s).gate = s.gate := by simp only [fireTo]; split_ifs <;> simp
@[simp] theorem fireTo_store (st : FireState) (s : State) : (fireTo st s).store = s.store := by simp only [fireTo]; split_ifs <;> simp
@[simp] theorem fireTo_pending (st : FireState) (s : State) : (fireTo st s).pending = s.pending := by simp only [fireTo]; split_ifs <;> simp

@[simp] theorem expireCountdown_now (s : State) : (expireCountdown s).now = s.now := by unfold expireCountdown; split <;> simp
@[simp] theorem expireCountdown_phase (s : State) : (expireCountdown s).phase = s.phase := by unfold expireCountdown; split <;> simp
@[simp] theorem expireCountdown_rst (s : State) : (expireCountdown s).rst = s.rst := by unfold expireCountdown; split <;> simp
@[simp] theorem expireCountdown_cell (s : State) : (expireCountdown s).cell = s.cell := by unfold expireCountdown; split <;> simp
@[simp] theorem expireCountdown_gate (s : State) : (expireCountdown s).gate = s.gate := by unfold expireCountdown; split <;> simp
@[simp] theorem expireCountdown_store (s : State) : (expireCountdown s).store = s.store := by unfold expireCountdown; split <;> simp
@[simp] theorem expireCountdown_pending (s : State) : (expireCountdown s).pending = s.pending := by unfold expireCountdown; split <;> simp

@[simp] theorem releaseTest_now (b : Bool) (s : State) : (releaseTest b s).now = s.now := by simp only [releaseTest]; split_ifs <;> simp
@[simp] theorem releaseTest_phase (b : Bool) (s : State) : (releaseTest b s).phase = s.phase := by simp only [releaseTest]; split_ifs <;> simp
@[simp] theorem releaseTest_rst (b : Bool) (s : State) : (releaseTest b s).rst = s.rst := by simp only [releaseTest]; split_ifs <;> simp
@[simp] theorem releaseTest_cell (b : Bool) (s : State) : (releaseTest b s).cell = s.cell := by simp only [releaseTest]; split_ifs <;> simp
@[simp] theorem releaseTest_gate (b : Bool) (s : State) : (releaseTest b s).gate = s.gate := by simp only [releaseTest]; split_ifs <;> simp
@[simp] theorem releaseTest_store (b : Bool) (s : State) : (releaseTest b s).store = s.store := by simp only [releaseTest]; split_ifs <;> simp
@[simp] theorem releaseTest_pending (b : Bool) (s : State) : (releaseTest b s).pending = s.pending := by simp only [releaseTest]; split_ifs <;> simp

@[simp] theorem holdFollow_now (s : State) : (holdFollow s).now = s.now := by simp only [holdFollow]; split <;> (try split) <;> (try split) <;> simp
@[simp] theorem holdFollow_phase (s : State) : (holdFollow s).phase = s.phase := by simp only [holdFollow]; split <;> (try split) <;> (try split) <;> simp
@[simp] theorem holdFollow_rst (s : State) : (holdFollow s).rst = s.rst := by simp only [holdFollow]; split <;> (try split) <;> (try split) <;> simp
@[simp] theorem holdFollow_cell (s : State) : (holdFollow s).cell = s.cell := by simp only [holdFollow]; split <;> (try split) <;> (try split) <;> simp
@[simp] theorem holdFollow_gate (s : State) : (holdFollow s).gate = s.gate := by simp only [holdFollow]; split <;> (try split) <;> (try split) <;> simp
@[simp] theorem holdFollow_store (s : State) : (holdFollow s).store = s.store := by simp only [holdFollow]; split <;> (try split) <;> (try split) <;> simp
@[simp] theorem holdFollow_pending (s : State) : (holdFollow s).pending = s.pending := by simp only [holdFollow]; split <;> (try split) <;> (try split) <;> simp

@[simp] theorem pendingEval_now (s : State) : (pendingEval s).now = s.now := by unfold pendingEval; split_ifs <;> simp
@[simp] theorem pendingEval_phase (s : State) : (pendingEval s).phase = s.phase := by unfold pendingEval; split_ifs <;> simp
@[simp] theorem pendingEval_rst (s : State) : (pendingEval s).rst = s.rst := by unfold pendingEval; split_ifs <;> simp
@[simp] theorem pendingEval_cell (s : State) : (pendingEval s).cell = s.cell := by unfold pendingEval; split_ifs <;> simp
@[simp] theorem pendingEval_gate (s : State) : (pendingEval s).gate = s.gate := by unfold pendingEval; split_ifs <;> simp
@[simp] theorem pendingEval_store (s : State) : (pendingEval s).store = s.store := by unfold pendingEval; split_ifs <;> simp
@[simp] theorem pendingEval_pending (s : State) : (pendingEval s).pending = s.pending := by unfold pendingEval; split_ifs <;> simp

@[simp] theorem fireEval_now (b : Bool) (s : State) : (fireEval b s).now = s.now := by unfold fireEval; split <;> (try split_ifs) <;> simp
@[simp] theorem fireEval_phase (b : Bool) (s : State) : (fireEval b s).phase = s.phase := by unfold fireEval; split <;> (try split_ifs) <;> simp
@[simp] theorem fireEval_rst (b : Bool) (s : State) : (fireEval b s).rst = s.rst := by unfold fireEval; split <;> (try split_ifs) <;> simp
@[simp] theorem fireEval_cell (b : Bool) (s : State) : (fireEval b s).cell = s.cell := by unfold fireEval; split <;> (try split_ifs) <;> simp
@[simp] theorem fireEval_gate (b : Bool) (s : State) : (fireEval b s).gate = s.gate := by unfold fireEval; split <;> (try split_ifs) <;> simp
@[simp] theorem fireEval_store (b : Bool) (s : State) : (fireEval b s).store = s.store := by unfold fireEval; split <;> (try split_ifs) <;> simp
@[simp] theorem fireEval_pending (b : Bool) (s : State) : (fireEval b s).pending = s.pending := by unfold fireEval; split <;> (try split_ifs) <;> simp

@[simp] theorem detBlindEval_now (s : State) : (detBlindEval s).now = s.now := by simp only [detBlindEval, refreshLines_now]; rw [foldl_keeps State.now _ (fun b a => by simp [detBlindZone])]
@[simp] theorem detBlindEval_phase (s : State) : (detBlindEval s).phase = s.phase := by simp only [detBlindEval, refreshLines_phase]; rw [foldl_keeps State.phase _ (fun b a => by simp [detBlindZone])]
@[simp] theorem detBlindEval_rst (s : State) : (detBlindEval s).rst = s.rst := by simp only [detBlindEval, refreshLines_rst]; rw [foldl_keeps State.rst _ (fun b a => by simp [detBlindZone])]
@[simp] theorem detBlindEval_ring (s : State) : (detBlindEval s).ring = s.ring := by simp only [detBlindEval, refreshLines_ring]; rw [foldl_keeps State.ring _ (fun b a => by simp [detBlindZone])]
@[simp] theorem detBlindEval_cell (s : State) : (detBlindEval s).cell = s.cell := by simp only [detBlindEval, refreshLines_cell]; rw [foldl_keeps State.cell _ (fun b a => by simp [detBlindZone])]
@[simp] theorem detBlindEval_env (s : State) : (detBlindEval s).env = s.env := by simp only [detBlindEval, refreshLines_env]; rw [foldl_keeps State.env _ (fun b a => by simp [detBlindZone])]
@[simp] theorem detBlindEval_gate (s : State) : (detBlindEval s).gate = s.gate := by simp only [detBlindEval, refreshLines_gate]; rw [foldl_keeps State.gate _ (fun b a => by simp [detBlindZone])]
@[simp] theorem detBlindEval_cool (s : State) : (detBlindEval s).cool = s.cool := by simp only [detBlindEval, refreshLines_cool]; rw [foldl_keeps State.cool _ (fun b a => by simp [detBlindZone])]
@[simp] theorem detBlindEval_loop (s : State) : (detBlindEval s).loop = s.loop := by simp only [detBlindEval, refreshLines_loop]; rw [foldl_keeps State.loop _ (fun b a => by simp [detBlindZone])]
@[simp] theorem detBlindEval_seqr (s : State) : (detBlindEval s).seqr = s.seqr := by simp only [detBlindEval, refreshLines_seqr]; rw [foldl_keeps State.seqr _ (fun b a => by simp [detBlindZone])]
@[simp] theorem detBlindEval_mgmt (s : State) : (detBlindEval s).mgmt = s.mgmt := by simp only [detBlindEval, refreshLines_mgmt]; rw [foldl_keeps State.mgmt _ (fun b a => by simp [detBlindZone])]
@[simp] theorem detBlindEval_store (s : State) : (detBlindEval s).store = s.store := by simp only [detBlindEval, refreshLines_store]; rw [foldl_keeps State.store _ (fun b a => by simp [detBlindZone])]
@[simp] theorem detBlindEval_pending (s : State) : (detBlindEval s).pending = s.pending := by simp only [detBlindEval, refreshLines_pending]; rw [foldl_keeps State.pending _ (fun b a => by simp [detBlindZone])]

@[simp] theorem nodeReaders_now (a : Nat) (b : Bool) (s : State) : (nodeReaders a b s).now = s.now := by simp [nodeReaders, coolNode]
@[simp] theorem nodeReaders_phase (a : Nat) (b : Bool) (s : State) : (nodeReaders a b s).phase = s.phase := by simp [nodeReaders, coolNode]
@[simp] theorem nodeReaders_rst (a : Nat) (b : Bool) (s : State) : (nodeReaders a b s).rst = s.rst := by simp [nodeReaders, coolNode]
@[simp] theorem nodeReaders_cell (a : Nat) (b : Bool) (s : State) : (nodeReaders a b s).cell = s.cell := by simp [nodeReaders, coolNode]
@[simp] theorem nodeReaders_gate (a : Nat) (b : Bool) (s : State) : (nodeReaders a b s).gate = s.gate := by simp [nodeReaders, coolNode]
@[simp] theorem nodeReaders_loop (a : Nat) (b : Bool) (s : State) : (nodeReaders a b s).loop = s.loop := by simp [nodeReaders, coolNode]
@[simp] theorem nodeReaders_store (a : Nat) (b : Bool) (s : State) : (nodeReaders a b s).store = s.store := by simp [nodeReaders, coolNode]
@[simp] theorem nodeReaders_pending (a : Nat) (b : Bool) (s : State) : (nodeReaders a b s).pending = s.pending := by simp [nodeReaders, coolNode]

@[simp] theorem ringBrokenEval_now (s : State) : (ringBrokenEval s).now = s.now := by simp [ringBrokenEval]
@[simp] theorem ringBrokenEval_phase (s : State) : (ringBrokenEval s).phase = s.phase := by simp [ringBrokenEval]
@[simp] theorem ringBrokenEval_rst (s : State) : (ringBrokenEval s).rst = s.rst := by simp [ringBrokenEval]
@[simp] theorem ringBrokenEval_cell (s : State) : (ringBrokenEval s).cell = s.cell := by simp [ringBrokenEval]
@[simp] theorem ringBrokenEval_env (s : State) : (ringBrokenEval s).env = s.env := by simp [ringBrokenEval]
@[simp] theorem ringBrokenEval_gate (s : State) : (ringBrokenEval s).gate = s.gate := by simp [ringBrokenEval]
@[simp] theorem ringBrokenEval_cool (s : State) : (ringBrokenEval s).cool = s.cool := by simp [ringBrokenEval]
@[simp] theorem ringBrokenEval_loop (s : State) : (ringBrokenEval s).loop = s.loop := by simp [ringBrokenEval]
@[simp] theorem ringBrokenEval_fire (s : State) : (ringBrokenEval s).fire = s.fire := by simp [ringBrokenEval]
@[simp] theorem ringBrokenEval_seqr (s : State) : (ringBrokenEval s).seqr = s.seqr := by simp [ringBrokenEval]
@[simp] theorem ringBrokenEval_lines (s : State) : (ringBrokenEval s).lines = s.lines := by simp [ringBrokenEval]
@[simp] theorem ringBrokenEval_mgmt (s : State) : (ringBrokenEval s).mgmt = s.mgmt := by simp [ringBrokenEval]
@[simp] theorem ringBrokenEval_store (s : State) : (ringBrokenEval s).store = s.store := by simp [ringBrokenEval]
@[simp] theorem ringBrokenEval_pending (s : State) : (ringBrokenEval s).pending = s.pending := by simp [ringBrokenEval]

@[simp] theorem nodeTo_now (a : Nat) (st : NodeState) (f : NodeLive → NodeLive) (s : State) : (nodeTo a st f s).now = s.now := by simp [nodeTo]
@[simp] theorem nodeTo_phase (a : Nat) (st : NodeState) (f : NodeLive → NodeLive) (s : State) : (nodeTo a st f s).phase = s.phase := by simp [nodeTo]
@[simp] theorem nodeTo_rst (a : Nat) (st : NodeState) (f : NodeLive → NodeLive) (s : State) : (nodeTo a st f s).rst = s.rst := by simp [nodeTo]
@[simp] theorem nodeTo_cell (a : Nat) (st : NodeState) (f : NodeLive → NodeLive) (s : State) : (nodeTo a st f s).cell = s.cell := by simp [nodeTo]
@[simp] theorem nodeTo_gate (a : Nat) (st : NodeState) (f : NodeLive → NodeLive) (s : State) : (nodeTo a st f s).gate = s.gate := by simp [nodeTo]
@[simp] theorem nodeTo_loop (a : Nat) (st : NodeState) (f : NodeLive → NodeLive) (s : State) : (nodeTo a st f s).loop = s.loop := by simp [nodeTo]
@[simp] theorem nodeTo_store (a : Nat) (st : NodeState) (f : NodeLive → NodeLive) (s : State) : (nodeTo a st f s).store = s.store := by simp [nodeTo]
@[simp] theorem nodeTo_pending (a : Nat) (st : NodeState) (f : NodeLive → NodeLive) (s : State) : (nodeTo a st f s).pending = s.pending := by simp [nodeTo]


end Sys2Proof.Machine
end

