-- ==== Sys2Proof/Laws/Requests.lean ====
section
/-! SUPPORT. What the queues leave alone, and how a request reaches its own body. -/

namespace Sys2Proof.Machine

/-! What a frame that joins a queue, or is taken from one, leaves alone in the link (R173 to R177). -/

@[simp] theorem queueJoin_station (f : UpFrame) (l : Link) : (queueJoin f l).station = l.station := by unfold queueJoin; split <;> (try split) <;> rfl
@[simp] theorem queueJoin_service (f : UpFrame) (l : Link) : (queueJoin f l).service = l.service := by unfold queueJoin; split <;> (try split) <;> rfl
@[simp] theorem queueJoin_holder (f : UpFrame) (l : Link) : (queueJoin f l).holder = l.holder := by unfold queueJoin; split <;> (try split) <;> rfl
@[simp] theorem queueJoin_serviceSince (f : UpFrame) (l : Link) : (queueJoin f l).serviceSince = l.serviceSince := by unfold queueJoin; split <;> (try split) <;> rfl
@[simp] theorem queueJoin_policy (f : UpFrame) (l : Link) : (queueJoin f l).policy = l.policy := by unfold queueJoin; split <;> (try split) <;> rfl
@[simp] theorem queueJoin_records (f : UpFrame) (l : Link) : (queueJoin f l).records = l.records := by unfold queueJoin; split <;> (try split) <;> rfl
@[simp] theorem queueJoin_enables (f : UpFrame) (l : Link) : (queueJoin f l).enables = l.enables := by unfold queueJoin; split <;> (try split) <;> rfl

@[simp] theorem stationTake_station (now rate : Nat) (l : Link) : (stationTake now rate l).station = l.station := by unfold stationTake; split <;> (try split) <;> rfl
@[simp] theorem stationTake_service (now rate : Nat) (l : Link) : (stationTake now rate l).service = l.service := by unfold stationTake; split <;> (try split) <;> rfl
@[simp] theorem stationTake_holder (now rate : Nat) (l : Link) : (stationTake now rate l).holder = l.holder := by unfold stationTake; split <;> (try split) <;> rfl
@[simp] theorem stationTake_serviceSince (now rate : Nat) (l : Link) : (stationTake now rate l).serviceSince = l.serviceSince := by unfold stationTake; split <;> (try split) <;> rfl
@[simp] theorem stationTake_policy (now rate : Nat) (l : Link) : (stationTake now rate l).policy = l.policy := by unfold stationTake; split <;> (try split) <;> rfl
@[simp] theorem stationTake_records (now rate : Nat) (l : Link) : (stationTake now rate l).records = l.records := by unfold stationTake; split <;> (try split) <;> rfl
@[simp] theorem stationTake_enables (now rate : Nat) (l : Link) : (stationTake now rate l).enables = l.enables := by unfold stationTake; split <;> (try split) <;> rfl

@[simp] theorem fifoJoin_station (f : UpFrame) (l : Link) : (fifoJoin f l).station = l.station := by unfold fifoJoin; split <;> rfl
@[simp] theorem fifoJoin_service (f : UpFrame) (l : Link) : (fifoJoin f l).service = l.service := by unfold fifoJoin; split <;> rfl
@[simp] theorem fifoJoin_holder (f : UpFrame) (l : Link) : (fifoJoin f l).holder = l.holder := by unfold fifoJoin; split <;> rfl
@[simp] theorem fifoJoin_serviceSince (f : UpFrame) (l : Link) : (fifoJoin f l).serviceSince = l.serviceSince := by unfold fifoJoin; split <;> rfl
@[simp] theorem fifoJoin_policy (f : UpFrame) (l : Link) : (fifoJoin f l).policy = l.policy := by unfold fifoJoin; split <;> rfl
@[simp] theorem fifoJoin_records (f : UpFrame) (l : Link) : (fifoJoin f l).records = l.records := by unfold fifoJoin; split <;> rfl
@[simp] theorem fifoJoin_enables (f : UpFrame) (l : Link) : (fifoJoin f l).enables = l.enables := by unfold fifoJoin; split <;> rfl

@[simp] theorem serviceTake_station (now : Nat) (l : Link) : (serviceTake now l).station = l.station := by unfold serviceTake; split <;> (try split) <;> rfl
@[simp] theorem serviceTake_service (now : Nat) (l : Link) : (serviceTake now l).service = l.service := by unfold serviceTake; split <;> (try split) <;> rfl
@[simp] theorem serviceTake_holder (now : Nat) (l : Link) : (serviceTake now l).holder = l.holder := by unfold serviceTake; split <;> (try split) <;> rfl
@[simp] theorem serviceTake_serviceSince (now : Nat) (l : Link) : (serviceTake now l).serviceSince = l.serviceSince := by unfold serviceTake; split <;> (try split) <;> rfl
@[simp] theorem serviceTake_policy (now : Nat) (l : Link) : (serviceTake now l).policy = l.policy := by unfold serviceTake; split <;> (try split) <;> rfl
@[simp] theorem serviceTake_records (now : Nat) (l : Link) : (serviceTake now l).records = l.records := by unfold serviceTake; split <;> (try split) <;> rfl
@[simp] theorem serviceTake_enables (now : Nat) (l : Link) : (serviceTake now l).enables = l.enables := by unfold serviceTake; split <;> (try split) <;> rfl

@[simp] theorem sendUp_station (now rate : Nat) (p : FramePort) (f : UpFrame) (l : Link) : (sendUp now rate p f l).station = l.station := by cases p <;> simp [sendUp]
@[simp] theorem sendUp_service (now rate : Nat) (p : FramePort) (f : UpFrame) (l : Link) : (sendUp now rate p f l).service = l.service := by cases p <;> simp [sendUp]
@[simp] theorem sendUp_holder (now rate : Nat) (p : FramePort) (f : UpFrame) (l : Link) : (sendUp now rate p f l).holder = l.holder := by cases p <;> simp [sendUp]
@[simp] theorem sendUp_serviceSince (now rate : Nat) (p : FramePort) (f : UpFrame) (l : Link) : (sendUp now rate p f l).serviceSince = l.serviceSince := by cases p <;> simp [sendUp]
@[simp] theorem sendUp_policy (now rate : Nat) (p : FramePort) (f : UpFrame) (l : Link) : (sendUp now rate p f l).policy = l.policy := by cases p <;> simp [sendUp]
@[simp] theorem sendUp_records (now rate : Nat) (p : FramePort) (f : UpFrame) (l : Link) : (sendUp now rate p f l).records = l.records := by cases p <;> simp [sendUp]
@[simp] theorem sendUp_enables (now rate : Nat) (p : FramePort) (f : UpFrame) (l : Link) : (sendUp now rate p f l).enables = l.enables := by cases p <;> simp [sendUp]

@[simp] theorem linkNotice_station (now rate round : Nat) (n : Notice) (l : Link) : (linkNotice now rate round n l).station = l.station := by simp only [linkNotice]; split_ifs <;> simp
@[simp] theorem linkNotice_service (now rate round : Nat) (n : Notice) (l : Link) : (linkNotice now rate round n l).service = l.service := by simp only [linkNotice]; split_ifs <;> simp
@[simp] theorem linkNotice_holder (now rate round : Nat) (n : Notice) (l : Link) : (linkNotice now rate round n l).holder = l.holder := by simp only [linkNotice]; split_ifs <;> simp
@[simp] theorem linkNotice_serviceSince (now rate round : Nat) (n : Notice) (l : Link) : (linkNotice now rate round n l).serviceSince = l.serviceSince := by simp only [linkNotice]; split_ifs <;> simp
@[simp] theorem linkNotice_policy (now rate round : Nat) (n : Notice) (l : Link) : (linkNotice now rate round n l).policy = l.policy := by simp only [linkNotice]; split_ifs <;> simp
@[simp] theorem linkNotice_records (now rate round : Nat) (n : Notice) (l : Link) : (linkNotice now rate round n l).records = l.records := by simp only [linkNotice]; split_ifs <;> simp
@[simp] theorem linkNotice_enables (now rate round : Nat) (n : Notice) (l : Link) : (linkNotice now rate round n l).enables = l.enables := by simp only [linkNotice]; split_ifs <;> simp

@[simp] theorem raiseNotice_link_station (n : Notice) (s : State) : (raiseNotice n s).link.station = s.link.station := by simp [raiseNotice]
@[simp] theorem raiseNotice_link_service (n : Notice) (s : State) : (raiseNotice n s).link.service = s.link.service := by simp [raiseNotice]
@[simp] theorem raiseNotice_link_holder (n : Notice) (s : State) : (raiseNotice n s).link.holder = s.link.holder := by simp [raiseNotice]
@[simp] theorem raiseNotice_link_serviceSince (n : Notice) (s : State) : (raiseNotice n s).link.serviceSince = s.link.serviceSince := by simp [raiseNotice]
@[simp] theorem raiseNotice_link_policy (n : Notice) (s : State) : (raiseNotice n s).link.policy = s.link.policy := by simp [raiseNotice]
@[simp] theorem raiseNotice_link_records (n : Notice) (s : State) : (raiseNotice n s).link.records = s.link.records := by simp [raiseNotice]
@[simp] theorem raiseNotice_link_enables (n : Notice) (s : State) : (raiseNotice n s).link.enables = s.link.enables := by simp [raiseNotice]

@[simp] theorem raiseIf_link_station (b : Bool) (n : Notice) (s : State) : (raiseIf b n s).link.station = s.link.station := by cases b <;> simp [raiseIf]
@[simp] theorem raiseIf_link_service (b : Bool) (n : Notice) (s : State) : (raiseIf b n s).link.service = s.link.service := by cases b <;> simp [raiseIf]
@[simp] theorem raiseIf_link_holder (b : Bool) (n : Notice) (s : State) : (raiseIf b n s).link.holder = s.link.holder := by cases b <;> simp [raiseIf]
@[simp] theorem raiseIf_link_serviceSince (b : Bool) (n : Notice) (s : State) : (raiseIf b n s).link.serviceSince = s.link.serviceSince := by cases b <;> simp [raiseIf]
@[simp] theorem raiseIf_link_policy (b : Bool) (n : Notice) (s : State) : (raiseIf b n s).link.policy = s.link.policy := by cases b <;> simp [raiseIf]
@[simp] theorem raiseIf_link_records (b : Bool) (n : Notice) (s : State) : (raiseIf b n s).link.records = s.link.records := by cases b <;> simp [raiseIf]
@[simp] theorem raiseIf_link_enables (b : Bool) (n : Notice) (s : State) : (raiseIf b n s).link.enables = s.link.enables := by cases b <;> simp [raiseIf]

@[simp] theorem answer_link_station (r : Request) (code : Nat) (st : Status) (rs : List Byte) (s : State) : (answer r code st rs s).link.station = s.link.station := by simp [answer, answerAs]
@[simp] theorem answer_link_service (r : Request) (code : Nat) (st : Status) (rs : List Byte) (s : State) : (answer r code st rs s).link.service = s.link.service := by simp [answer, answerAs]
@[simp] theorem answer_link_holder (r : Request) (code : Nat) (st : Status) (rs : List Byte) (s : State) : (answer r code st rs s).link.holder = s.link.holder := by simp [answer, answerAs]
@[simp] theorem answer_link_serviceSince (r : Request) (code : Nat) (st : Status) (rs : List Byte) (s : State) : (answer r code st rs s).link.serviceSince = s.link.serviceSince := by simp [answer, answerAs]
@[simp] theorem answer_link_policy (r : Request) (code : Nat) (st : Status) (rs : List Byte) (s : State) : (answer r code st rs s).link.policy = s.link.policy := by simp [answer, answerAs]
@[simp] theorem answer_link_records (r : Request) (code : Nat) (st : Status) (rs : List Byte) (s : State) : (answer r code st rs s).link.records = s.link.records := by simp [answer, answerAs]
@[simp] theorem answer_link_enables (r : Request) (code : Nat) (st : Status) (rs : List Byte) (s : State) : (answer r code st rs s).link.enables = s.link.enables := by simp [answer, answerAs]


/-! A valid frame of a frame port changes the gate's silence timer and the link alone (R168, R172, R77). -/

@[simp] theorem frameReceived_now (p : FramePort) (s : State) : (frameReceived p s).now = s.now := by cases p <;> simp [frameReceived, validFrame, linkSearching, silenceFrame]
@[simp] theorem frameReceived_phase (p : FramePort) (s : State) : (frameReceived p s).phase = s.phase := by cases p <;> simp [frameReceived, validFrame, linkSearching, silenceFrame]
@[simp] theorem frameReceived_rst (p : FramePort) (s : State) : (frameReceived p s).rst = s.rst := by cases p <;> simp [frameReceived, validFrame, linkSearching, silenceFrame]
@[simp] theorem frameReceived_ring (p : FramePort) (s : State) : (frameReceived p s).ring = s.ring := by cases p <;> simp [frameReceived, validFrame, linkSearching, silenceFrame]
@[simp] theorem frameReceived_cell (p : FramePort) (s : State) : (frameReceived p s).cell = s.cell := by cases p <;> simp [frameReceived, validFrame, linkSearching, silenceFrame]
@[simp] theorem frameReceived_env (p : FramePort) (s : State) : (frameReceived p s).env = s.env := by cases p <;> simp [frameReceived, validFrame, linkSearching, silenceFrame]
@[simp] theorem frameReceived_cool (p : FramePort) (s : State) : (frameReceived p s).cool = s.cool := by cases p <;> simp [frameReceived, validFrame, linkSearching, silenceFrame]
@[simp] theorem frameReceived_loop (p : FramePort) (s : State) : (frameReceived p s).loop = s.loop := by cases p <;> simp [frameReceived, validFrame, linkSearching, silenceFrame]
@[simp] theorem frameReceived_fire (p : FramePort) (s : State) : (frameReceived p s).fire = s.fire := by cases p <;> simp [frameReceived, validFrame, linkSearching, silenceFrame]
@[simp] theorem frameReceived_seqr (p : FramePort) (s : State) : (frameReceived p s).seqr = s.seqr := by cases p <;> simp [frameReceived, validFrame, linkSearching, silenceFrame]
@[simp] theorem frameReceived_lines (p : FramePort) (s : State) : (frameReceived p s).lines = s.lines := by cases p <;> simp [frameReceived, validFrame, linkSearching, silenceFrame]
@[simp] theorem frameReceived_mgmt (p : FramePort) (s : State) : (frameReceived p s).mgmt = s.mgmt := by cases p <;> simp [frameReceived, validFrame, linkSearching, silenceFrame]
@[simp] theorem frameReceived_store (p : FramePort) (s : State) : (frameReceived p s).store = s.store := by cases p <;> simp [frameReceived, validFrame, linkSearching, silenceFrame]
@[simp] theorem frameReceived_pending (p : FramePort) (s : State) : (frameReceived p s).pending = s.pending := by cases p <;> simp [frameReceived, validFrame, linkSearching, silenceFrame]

@[simp] theorem received_now (r : Request) (s : State) : (received r s).now = s.now := by simp [received]
@[simp] theorem received_phase (r : Request) (s : State) : (received r s).phase = s.phase := by simp [received]
@[simp] theorem received_rst (r : Request) (s : State) : (received r s).rst = s.rst := by simp [received]
@[simp] theorem received_ring (r : Request) (s : State) : (received r s).ring = s.ring := by simp [received]
@[simp] theorem received_cell (r : Request) (s : State) : (received r s).cell = s.cell := by simp [received]
@[simp] theorem received_env (r : Request) (s : State) : (received r s).env = s.env := by simp [received]
@[simp] theorem received_cool (r : Request) (s : State) : (received r s).cool = s.cool := by simp [received]
@[simp] theorem received_loop (r : Request) (s : State) : (received r s).loop = s.loop := by simp [received]
@[simp] theorem received_fire (r : Request) (s : State) : (received r s).fire = s.fire := by simp [received]
@[simp] theorem received_seqr (r : Request) (s : State) : (received r s).seqr = s.seqr := by simp [received]
@[simp] theorem received_lines (r : Request) (s : State) : (received r s).lines = s.lines := by simp [received]
@[simp] theorem received_mgmt (r : Request) (s : State) : (received r s).mgmt = s.mgmt := by simp [received]
@[simp] theorem received_store (r : Request) (s : State) : (received r s).store = s.store := by simp [received]
@[simp] theorem received_pending (r : Request) (s : State) : (received r s).pending = s.pending := by simp [received]

@[simp] theorem frameReceived_link_holder (p : FramePort) (s : State) : (frameReceived p s).link.holder = s.link.holder := by
  cases p <;> simp [frameReceived, validFrame, linkSearching, silenceFrame, modRx]
@[simp] theorem received_link_holder (r : Request) (s : State) : (received r s).link.holder = s.link.holder := by simp [received]
@[simp] theorem frameReceived_link_policy (p : FramePort) (s : State) : (frameReceived p s).link.policy = s.link.policy := by
  cases p <;> simp [frameReceived, validFrame, linkSearching, silenceFrame, modRx]
@[simp] theorem received_link_policy (r : Request) (s : State) : (received r s).link.policy = s.link.policy := by simp [received]
@[simp] theorem frameReceived_link_enables (p : FramePort) (s : State) : (frameReceived p s).link.enables = s.link.enables := by
  cases p <;> simp [frameReceived, validFrame, linkSearching, silenceFrame, modRx]
@[simp] theorem received_link_enables (r : Request) (s : State) : (received r s).link.enables = s.link.enables := by simp [received]
@[simp] theorem frameReceived_link_records (p : FramePort) (s : State) : (frameReceived p s).link.records = s.link.records := by
  cases p <;> simp [frameReceived, validFrame, linkSearching, silenceFrame, modRx]
@[simp] theorem received_link_records (r : Request) (s : State) : (received r s).link.records = s.link.records := by simp [received]
@[simp] theorem frameReceived_gate_requested (p : FramePort) (s : State) : (frameReceived p s).gate.requested = s.gate.requested := by
  cases p <;> simp [frameReceived, validFrame, linkSearching, silenceFrame]
@[simp] theorem frameReceived_gate_forwarded (p : FramePort) (s : State) : (frameReceived p s).gate.forwarded = s.gate.forwarded := by
  cases p <;> simp [frameReceived, validFrame, linkSearching, silenceFrame]
@[simp] theorem frameReceived_gate_inFlight (p : FramePort) (s : State) : (frameReceived p s).gate.inFlight = s.gate.inFlight := by
  cases p <;> simp [frameReceived, validFrame, linkSearching, silenceFrame]
@[simp] theorem frameReceived_gate_ackCount (p : FramePort) (s : State) : (frameReceived p s).gate.ackCount = s.gate.ackCount := by
  cases p <;> simp [frameReceived, validFrame, linkSearching, silenceFrame]
@[simp] theorem frameReceived_gate_sent (p : FramePort) (s : State) : (frameReceived p s).gate.sent = s.gate.sent := by
  cases p <;> simp [frameReceived, validFrame, linkSearching, silenceFrame]
@[simp] theorem frameReceived_gate_lastAck (p : FramePort) (s : State) : (frameReceived p s).gate.lastAck = s.gate.lastAck := by
  cases p <;> simp [frameReceived, validFrame, linkSearching, silenceFrame]
@[simp] theorem frameReceived_gate_conv (p : FramePort) (s : State) : (frameReceived p s).gate.conv = s.gate.conv := by
  cases p <;> simp [frameReceived, validFrame, linkSearching, silenceFrame]

/-! When a command acts: on a running part, and when its premise holds. -/

theorem act_running {s : State} (f : State → State) (h : s.phase = .running) : act s f = .next (f s) := by simp [act, h]
theorem whenDue_true {b : Bool} (f : State → State) (s : State) (h : b = true) : whenDue b f s = f s := by simp [whenDue, h]
theorem whenDue_false {b : Bool} (f : State → State) (s : State) (h : b = false) : whenDue b f s = s := by simp [whenDue, h]

/-- A request that reaches the Management Unit goes to the checks of R182. -/
theorem request_reaches {r : Request} {s : State} (code : Nat) (ch : Bool) (body : State → State) (h : reaches r s) :
    request r code ch body s = .next (requestChecks r code ch body (received r s)) := by
  obtain ⟨h1, h2, h3⟩ := h
  simp [request, act, whenDue, requestArrives, received, frameReceived, h1, h2, h3]

/-- A request that changes nothing and passes the checks is given to its own body. -/
theorem request_taken {r : Request} {s : State} (code : Nat) (body : State → State) (h : taken r s) :
    request r code false body s = .next (body (received r s)) := by
  rw [request_reaches _ _ _ h.1]
  simp [requestChecks, h.2]

/-- A state-changing request from the holder of authority is given to its own body. -/
theorem request_held {r : Request} {s : State} (code : Nat) (ch : Bool) (body : State → State) (h : held r s) :
    request r code ch body s = .next (body (received r s)) := by
  rw [request_reaches _ _ _ h.1.1]
  simp [requestChecks, h.1.2, h.2]

end Sys2Proof.Machine
end

