-- ==== Sys2Proof/Laws/Link.lean ====
section
/-! SUPPORT. What the shared operations leave alone in the link. -/

namespace Sys2Proof.Machine

/-! Receivers, authority, policy and enables stay through every notice raised, state changed and line driven. -/

@[simp] theorem raiseAll_link_station (ns : List Notice) (s : State) : (raiseAll ns s).link.station = s.link.station := by
  induction ns generalizing s with
  | nil => rfl
  | cons n r ih => simpa [raiseAll] using ih (raiseNotice n s)
@[simp] theorem raiseAll_link_service (ns : List Notice) (s : State) : (raiseAll ns s).link.service = s.link.service := by
  induction ns generalizing s with
  | nil => rfl
  | cons n r ih => simpa [raiseAll] using ih (raiseNotice n s)
@[simp] theorem raiseAll_link_holder (ns : List Notice) (s : State) : (raiseAll ns s).link.holder = s.link.holder := by
  induction ns generalizing s with
  | nil => rfl
  | cons n r ih => simpa [raiseAll] using ih (raiseNotice n s)
@[simp] theorem raiseAll_link_serviceSince (ns : List Notice) (s : State) : (raiseAll ns s).link.serviceSince = s.link.serviceSince := by
  induction ns generalizing s with
  | nil => rfl
  | cons n r ih => simpa [raiseAll] using ih (raiseNotice n s)
@[simp] theorem raiseAll_link_policy (ns : List Notice) (s : State) : (raiseAll ns s).link.policy = s.link.policy := by
  induction ns generalizing s with
  | nil => rfl
  | cons n r ih => simpa [raiseAll] using ih (raiseNotice n s)
@[simp] theorem raiseAll_link_enables (ns : List Notice) (s : State) : (raiseAll ns s).link.enables = s.link.enables := by
  induction ns generalizing s with
  | nil => rfl
  | cons n r ih => simpa [raiseAll] using ih (raiseNotice n s)

@[simp] theorem passUp_link_station (p : FramePort) (f : Frame) (s : State) : (passUp p f s).link.station = s.link.station := by simp [passUp]
@[simp] theorem passUp_link_service (p : FramePort) (f : Frame) (s : State) : (passUp p f s).link.service = s.link.service := by simp [passUp]
@[simp] theorem passUp_link_holder (p : FramePort) (f : Frame) (s : State) : (passUp p f s).link.holder = s.link.holder := by simp [passUp]
@[simp] theorem passUp_link_serviceSince (p : FramePort) (f : Frame) (s : State) : (passUp p f s).link.serviceSince = s.link.serviceSince := by simp [passUp]
@[simp] theorem passUp_link_policy (p : FramePort) (f : Frame) (s : State) : (passUp p f s).link.policy = s.link.policy := by simp [passUp]
@[simp] theorem passUp_link_enables (p : FramePort) (f : Frame) (s : State) : (passUp p f s).link.enables = s.link.enables := by simp [passUp]

@[simp] theorem answerAs_link_station (b : Bool) (p : FramePort) (src id : Byte) (code : Nat) (st : Status) (rs : List Byte) (s : State) : (answerAs b p src id code st rs s).link.station = s.link.station := by simp [answerAs]
@[simp] theorem answerAs_link_service (b : Bool) (p : FramePort) (src id : Byte) (code : Nat) (st : Status) (rs : List Byte) (s : State) : (answerAs b p src id code st rs s).link.service = s.link.service := by simp [answerAs]
@[simp] theorem answerAs_link_holder (b : Bool) (p : FramePort) (src id : Byte) (code : Nat) (st : Status) (rs : List Byte) (s : State) : (answerAs b p src id code st rs s).link.holder = s.link.holder := by simp [answerAs]
@[simp] theorem answerAs_link_serviceSince (b : Bool) (p : FramePort) (src id : Byte) (code : Nat) (st : Status) (rs : List Byte) (s : State) : (answerAs b p src id code st rs s).link.serviceSince = s.link.serviceSince := by simp [answerAs]
@[simp] theorem answerAs_link_policy (b : Bool) (p : FramePort) (src id : Byte) (code : Nat) (st : Status) (rs : List Byte) (s : State) : (answerAs b p src id code st rs s).link.policy = s.link.policy := by simp [answerAs]
@[simp] theorem answerAs_link_enables (b : Bool) (p : FramePort) (src id : Byte) (code : Nat) (st : Status) (rs : List Byte) (s : State) : (answerAs b p src id code st rs s).link.enables = s.link.enables := by simp [answerAs]

@[simp] theorem setLimits_link_station (c d : Nat) (s : State) : (setLimits c d s).link.station = s.link.station := by simp only [setLimits]; split <;> simp
@[simp] theorem setLimits_link_service (c d : Nat) (s : State) : (setLimits c d s).link.service = s.link.service := by simp only [setLimits]; split <;> simp
@[simp] theorem setLimits_link_holder (c d : Nat) (s : State) : (setLimits c d s).link.holder = s.link.holder := by simp only [setLimits]; split <;> simp
@[simp] theorem setLimits_link_serviceSince (c d : Nat) (s : State) : (setLimits c d s).link.serviceSince = s.link.serviceSince := by simp only [setLimits]; split <;> simp
@[simp] theorem setLimits_link_policy (c d : Nat) (s : State) : (setLimits c d s).link.policy = s.link.policy := by simp only [setLimits]; split <;> simp
@[simp] theorem setLimits_link_enables (c d : Nat) (s : State) : (setLimits c d s).link.enables = s.link.enables := by simp only [setLimits]; split <;> simp

@[simp] theorem gateOnset_link_station (g : Nat) (s : State) : (gateOnset g s).link.station = s.link.station := by simp [gateOnset]
@[simp] theorem gateOnset_link_service (g : Nat) (s : State) : (gateOnset g s).link.service = s.link.service := by simp [gateOnset]
@[simp] theorem gateOnset_link_holder (g : Nat) (s : State) : (gateOnset g s).link.holder = s.link.holder := by simp [gateOnset]
@[simp] theorem gateOnset_link_serviceSince (g : Nat) (s : State) : (gateOnset g s).link.serviceSince = s.link.serviceSince := by simp [gateOnset]
@[simp] theorem gateOnset_link_policy (g : Nat) (s : State) : (gateOnset g s).link.policy = s.link.policy := by simp [gateOnset]
@[simp] theorem gateOnset_link_enables (g : Nat) (s : State) : (gateOnset g s).link.enables = s.link.enables := by simp [gateOnset]

@[simp] theorem gateEnd_link_station (g : Nat) (s : State) : (gateEnd g s).link.station = s.link.station := by simp [gateEnd]
@[simp] theorem gateEnd_link_service (g : Nat) (s : State) : (gateEnd g s).link.service = s.link.service := by simp [gateEnd]
@[simp] theorem gateEnd_link_holder (g : Nat) (s : State) : (gateEnd g s).link.holder = s.link.holder := by simp [gateEnd]
@[simp] theorem gateEnd_link_serviceSince (g : Nat) (s : State) : (gateEnd g s).link.serviceSince = s.link.serviceSince := by simp [gateEnd]
@[simp] theorem gateEnd_link_policy (g : Nat) (s : State) : (gateEnd g s).link.policy = s.link.policy := by simp [gateEnd]
@[simp] theorem gateEnd_link_enables (g : Nat) (s : State) : (gateEnd g s).link.enables = s.link.enables := by simp [gateEnd]

@[simp] theorem readbackEval_link_station (c : Contactor) (s : State) : (readbackEval c s).link.station = s.link.station := by simp [readbackEval]
@[simp] theorem readbackEval_link_service (c : Contactor) (s : State) : (readbackEval c s).link.service = s.link.service := by simp [readbackEval]
@[simp] theorem readbackEval_link_holder (c : Contactor) (s : State) : (readbackEval c s).link.holder = s.link.holder := by simp [readbackEval]
@[simp] theorem readbackEval_link_serviceSince (c : Contactor) (s : State) : (readbackEval c s).link.serviceSince = s.link.serviceSince := by simp [readbackEval]
@[simp] theorem readbackEval_link_policy (c : Contactor) (s : State) : (readbackEval c s).link.policy = s.link.policy := by simp [readbackEval]
@[simp] theorem readbackEval_link_enables (c : Contactor) (s : State) : (readbackEval c s).link.enables = s.link.enables := by simp [readbackEval]

@[simp] theorem faultEval_link_station (s : State) : (faultEval s).link.station = s.link.station := by simp [faultEval]
@[simp] theorem faultEval_link_service (s : State) : (faultEval s).link.service = s.link.service := by simp [faultEval]
@[simp] theorem faultEval_link_holder (s : State) : (faultEval s).link.holder = s.link.holder := by simp [faultEval]
@[simp] theorem faultEval_link_serviceSince (s : State) : (faultEval s).link.serviceSince = s.link.serviceSince := by simp [faultEval]
@[simp] theorem faultEval_link_policy (s : State) : (faultEval s).link.policy = s.link.policy := by simp [faultEval]
@[simp] theorem faultEval_link_enables (s : State) : (faultEval s).link.enables = s.link.enables := by simp [faultEval]

@[simp] theorem refreshLines_link_station (s : State) : (refreshLines s).link.station = s.link.station := by unfold refreshLines; split <;> simp
@[simp] theorem refreshLines_link_service (s : State) : (refreshLines s).link.service = s.link.service := by unfold refreshLines; split <;> simp
@[simp] theorem refreshLines_link_holder (s : State) : (refreshLines s).link.holder = s.link.holder := by unfold refreshLines; split <;> simp
@[simp] theorem refreshLines_link_serviceSince (s : State) : (refreshLines s).link.serviceSince = s.link.serviceSince := by unfold refreshLines; split <;> simp
@[simp] theorem refreshLines_link_policy (s : State) : (refreshLines s).link.policy = s.link.policy := by unfold refreshLines; split <;> simp
@[simp] theorem refreshLines_link_enables (s : State) : (refreshLines s).link.enables = s.link.enables := by unfold refreshLines; split <;> simp

@[simp] theorem endForce_link_station (o : Nat) (s : State) : (endForce o s).link.station = s.link.station := by unfold endForce; split <;> simp
@[simp] theorem endForce_link_service (o : Nat) (s : State) : (endForce o s).link.service = s.link.service := by unfold endForce; split <;> simp
@[simp] theorem endForce_link_holder (o : Nat) (s : State) : (endForce o s).link.holder = s.link.holder := by unfold endForce; split <;> simp
@[simp] theorem endForce_link_serviceSince (o : Nat) (s : State) : (endForce o s).link.serviceSince = s.link.serviceSince := by unfold endForce; split <;> simp
@[simp] theorem endForce_link_policy (o : Nat) (s : State) : (endForce o s).link.policy = s.link.policy := by unfold endForce; split <;> simp
@[simp] theorem endForce_link_enables (o : Nat) (s : State) : (endForce o s).link.enables = s.link.enables := by unfold endForce; split <;> simp

@[simp] theorem endContactorForces_link_station (s : State) : (endContactorForces s).link.station = s.link.station := by simp [endContactorForces]
@[simp] theorem endContactorForces_link_service (s : State) : (endContactorForces s).link.service = s.link.service := by simp [endContactorForces]
@[simp] theorem endContactorForces_link_holder (s : State) : (endContactorForces s).link.holder = s.link.holder := by simp [endContactorForces]
@[simp] theorem endContactorForces_link_serviceSince (s : State) : (endContactorForces s).link.serviceSince = s.link.serviceSince := by simp [endContactorForces]
@[simp] theorem endContactorForces_link_policy (s : State) : (endContactorForces s).link.policy = s.link.policy := by simp [endContactorForces]
@[simp] theorem endContactorForces_link_enables (s : State) : (endContactorForces s).link.enables = s.link.enables := by simp [endContactorForces]

@[simp] theorem blindEval_link_station (s : State) : (blindEval s).link.station = s.link.station := by simp only [blindEval]; split_ifs <;> simp [blindOnset, blindEnd]
@[simp] theorem blindEval_link_service (s : State) : (blindEval s).link.service = s.link.service := by simp only [blindEval]; split_ifs <;> simp [blindOnset, blindEnd]
@[simp] theorem blindEval_link_holder (s : State) : (blindEval s).link.holder = s.link.holder := by simp only [blindEval]; split_ifs <;> simp [blindOnset, blindEnd]
@[simp] theorem blindEval_link_serviceSince (s : State) : (blindEval s).link.serviceSince = s.link.serviceSince := by simp only [blindEval]; split_ifs <;> simp [blindOnset, blindEnd]
@[simp] theorem blindEval_link_policy (s : State) : (blindEval s).link.policy = s.link.policy := by simp only [blindEval]; split_ifs <;> simp [blindOnset, blindEnd]
@[simp] theorem blindEval_link_enables (s : State) : (blindEval s).link.enables = s.link.enables := by simp only [blindEval]; split_ifs <;> simp [blindOnset, blindEnd]

@[simp] theorem strayStart_link_station (c : Cause) (s : State) : (strayStart c s).link.station = s.link.station := by simp [strayStart]
@[simp] theorem strayStart_link_service (c : Cause) (s : State) : (strayStart c s).link.service = s.link.service := by simp [strayStart]
@[simp] theorem strayStart_link_holder (c : Cause) (s : State) : (strayStart c s).link.holder = s.link.holder := by simp [strayStart]
@[simp] theorem strayStart_link_serviceSince (c : Cause) (s : State) : (strayStart c s).link.serviceSince = s.link.serviceSince := by simp [strayStart]
@[simp] theorem strayStart_link_policy (c : Cause) (s : State) : (strayStart c s).link.policy = s.link.policy := by simp [strayStart]
@[simp] theorem strayStart_link_enables (c : Cause) (s : State) : (strayStart c s).link.enables = s.link.enables := by simp [strayStart]

@[simp] theorem seqTo_link_station (st : SeqState) (s : State) : (seqTo st s).link.station = s.link.station := by simp only [seqTo]; split_ifs <;> simp
@[simp] theorem seqTo_link_service (st : SeqState) (s : State) : (seqTo st s).link.service = s.link.service := by simp only [seqTo]; split_ifs <;> simp
@[simp] theorem seqTo_link_holder (st : SeqState) (s : State) : (seqTo st s).link.holder = s.link.holder := by simp only [seqTo]; split_ifs <;> simp
@[simp] theorem seqTo_link_serviceSince (st : SeqState) (s : State) : (seqTo st s).link.serviceSince = s.link.serviceSince := by simp only [seqTo]; split_ifs <;> simp
@[simp] theorem seqTo_link_policy (st : SeqState) (s : State) : (seqTo st s).link.policy = s.link.policy := by simp only [seqTo]; split_ifs <;> simp
@[simp] theorem seqTo_link_enables (st : SeqState) (s : State) : (seqTo st s).link.enables = s.link.enables := by simp only [seqTo]; split_ifs <;> simp

@[simp] theorem lockOut_link_station (r : Lockout) (s : State) : (lockOut r s).link.station = s.link.station := by simp [lockOut]
@[simp] theorem lockOut_link_service (r : Lockout) (s : State) : (lockOut r s).link.service = s.link.service := by simp [lockOut]
@[simp] theorem lockOut_link_holder (r : Lockout) (s : State) : (lockOut r s).link.holder = s.link.holder := by simp [lockOut]
@[simp] theorem lockOut_link_serviceSince (r : Lockout) (s : State) : (lockOut r s).link.serviceSince = s.link.serviceSince := by simp [lockOut]
@[simp] theorem lockOut_link_policy (r : Lockout) (s : State) : (lockOut r s).link.policy = s.link.policy := by simp [lockOut]
@[simp] theorem lockOut_link_enables (r : Lockout) (s : State) : (lockOut r s).link.enables = s.link.enables := by simp [lockOut]

@[simp] theorem tripTo_link_station (c : Cause) (cl : CauseClass) (k : Continuation) (s : State) : (tripTo c cl k s).link.station = s.link.station := by simp [tripTo]
@[simp] theorem tripTo_link_service (c : Cause) (cl : CauseClass) (k : Continuation) (s : State) : (tripTo c cl k s).link.service = s.link.service := by simp [tripTo]
@[simp] theorem tripTo_link_holder (c : Cause) (cl : CauseClass) (k : Continuation) (s : State) : (tripTo c cl k s).link.holder = s.link.holder := by simp [tripTo]
@[simp] theorem tripTo_link_serviceSince (c : Cause) (cl : CauseClass) (k : Continuation) (s : State) : (tripTo c cl k s).link.serviceSince = s.link.serviceSince := by simp [tripTo]
@[simp] theorem tripTo_link_policy (c : Cause) (cl : CauseClass) (k : Continuation) (s : State) : (tripTo c cl k s).link.policy = s.link.policy := by simp [tripTo]
@[simp] theorem tripTo_link_enables (c : Cause) (cl : CauseClass) (k : Continuation) (s : State) : (tripTo c cl k s).link.enables = s.link.enables := by simp [tripTo]

@[simp] theorem takeBay_link_station (c : Cause) (s : State) : (takeBay c s).link.station = s.link.station := by unfold takeBay; split <;> (try split) <;> simp
@[simp] theorem takeBay_link_service (c : Cause) (s : State) : (takeBay c s).link.service = s.link.service := by unfold takeBay; split <;> (try split) <;> simp
@[simp] theorem takeBay_link_holder (c : Cause) (s : State) : (takeBay c s).link.holder = s.link.holder := by unfold takeBay; split <;> (try split) <;> simp
@[simp] theorem takeBay_link_serviceSince (c : Cause) (s : State) : (takeBay c s).link.serviceSince = s.link.serviceSince := by unfold takeBay; split <;> (try split) <;> simp
@[simp] theorem takeBay_link_policy (c : Cause) (s : State) : (takeBay c s).link.policy = s.link.policy := by unfold takeBay; split <;> (try split) <;> simp
@[simp] theorem takeBay_link_enables (c : Cause) (s : State) : (takeBay c s).link.enables = s.link.enables := by unfold takeBay; split <;> (try split) <;> simp

@[simp] theorem zoneEval_link_station (z : Nat) (s : State) : (zoneEval z s).link.station = s.link.station := by simp [zoneEval]
@[simp] theorem zoneEval_link_service (z : Nat) (s : State) : (zoneEval z s).link.service = s.link.service := by simp [zoneEval]
@[simp] theorem zoneEval_link_holder (z : Nat) (s : State) : (zoneEval z s).link.holder = s.link.holder := by simp [zoneEval]
@[simp] theorem zoneEval_link_serviceSince (z : Nat) (s : State) : (zoneEval z s).link.serviceSince = s.link.serviceSince := by simp [zoneEval]
@[simp] theorem zoneEval_link_policy (z : Nat) (s : State) : (zoneEval z s).link.policy = s.link.policy := by simp [zoneEval]
@[simp] theorem zoneEval_link_enables (z : Nat) (s : State) : (zoneEval z s).link.enables = s.link.enables := by simp [zoneEval]

@[simp] theorem bayEval_link_station (s : State) : (bayEval s).link.station = s.link.station := by simp only [bayEval]; split <;> simp
@[simp] theorem bayEval_link_service (s : State) : (bayEval s).link.service = s.link.service := by simp only [bayEval]; split <;> simp
@[simp] theorem bayEval_link_holder (s : State) : (bayEval s).link.holder = s.link.holder := by simp only [bayEval]; split <;> simp
@[simp] theorem bayEval_link_serviceSince (s : State) : (bayEval s).link.serviceSince = s.link.serviceSince := by simp only [bayEval]; split <;> simp
@[simp] theorem bayEval_link_policy (s : State) : (bayEval s).link.policy = s.link.policy := by simp only [bayEval]; split <;> simp
@[simp] theorem bayEval_link_enables (s : State) : (bayEval s).link.enables = s.link.enables := by simp only [bayEval]; split <;> simp

@[simp] theorem coolSettle_link_station (old : State) (also : Nat → Bool) (s : State) : (coolSettle old also s).link.station = s.link.station := by
  simp only [coolSettle, refreshLines_link_station, bayEval_link_station]
  rw [foldl_keeps (fun t : State => t.link.station) _ (fun b a => by split <;> simp)]
  simp
@[simp] theorem coolSettle_link_service (old : State) (also : Nat → Bool) (s : State) : (coolSettle old also s).link.service = s.link.service := by
  simp only [coolSettle, refreshLines_link_service, bayEval_link_service]
  rw [foldl_keeps (fun t : State => t.link.service) _ (fun b a => by split <;> simp)]
  simp
@[simp] theorem coolSettle_link_holder (old : State) (also : Nat → Bool) (s : State) : (coolSettle old also s).link.holder = s.link.holder := by
  simp only [coolSettle, refreshLines_link_holder, bayEval_link_holder]
  rw [foldl_keeps (fun t : State => t.link.holder) _ (fun b a => by split <;> simp)]
  simp
@[simp] theorem coolSettle_link_serviceSince (old : State) (also : Nat → Bool) (s : State) : (coolSettle old also s).link.serviceSince = s.link.serviceSince := by
  simp only [coolSettle, refreshLines_link_serviceSince, bayEval_link_serviceSince]
  rw [foldl_keeps (fun t : State => t.link.serviceSince) _ (fun b a => by split <;> simp)]
  simp
@[simp] theorem coolSettle_link_policy (old : State) (also : Nat → Bool) (s : State) : (coolSettle old also s).link.policy = s.link.policy := by
  simp only [coolSettle, refreshLines_link_policy, bayEval_link_policy]
  rw [foldl_keeps (fun t : State => t.link.policy) _ (fun b a => by split <;> simp)]
  simp
@[simp] theorem coolSettle_link_enables (old : State) (also : Nat → Bool) (s : State) : (coolSettle old also s).link.enables = s.link.enables := by
  simp only [coolSettle, refreshLines_link_enables, bayEval_link_enables]
  rw [foldl_keeps (fun t : State => t.link.enables) _ (fun b a => by split <;> simp)]
  simp

@[simp] theorem reformOne_link_station (o : Nat) (s : State) : (reformOne o s).link.station = s.link.station := by simp [reformOne]
@[simp] theorem reformOne_link_service (o : Nat) (s : State) : (reformOne o s).link.service = s.link.service := by simp [reformOne]
@[simp] theorem reformOne_link_holder (o : Nat) (s : State) : (reformOne o s).link.holder = s.link.holder := by simp [reformOne]
@[simp] theorem reformOne_link_serviceSince (o : Nat) (s : State) : (reformOne o s).link.serviceSince = s.link.serviceSince := by simp [reformOne]
@[simp] theorem reformOne_link_policy (o : Nat) (s : State) : (reformOne o s).link.policy = s.link.policy := by simp [reformOne]
@[simp] theorem reformOne_link_enables (o : Nat) (s : State) : (reformOne o s).link.enables = s.link.enables := by simp [reformOne]

@[simp] theorem dropForce_link_station (s : State) (o : Nat) : (dropForce s o).link.station = s.link.station := by unfold dropForce; split <;> (try split) <;> simp
@[simp] theorem dropForce_link_service (s : State) (o : Nat) : (dropForce s o).link.service = s.link.service := by unfold dropForce; split <;> (try split) <;> simp
@[simp] theorem dropForce_link_holder (s : State) (o : Nat) : (dropForce s o).link.holder = s.link.holder := by unfold dropForce; split <;> (try split) <;> simp
@[simp] theorem dropForce_link_serviceSince (s : State) (o : Nat) : (dropForce s o).link.serviceSince = s.link.serviceSince := by unfold dropForce; split <;> (try split) <;> simp
@[simp] theorem dropForce_link_policy (s : State) (o : Nat) : (dropForce s o).link.policy = s.link.policy := by unfold dropForce; split <;> (try split) <;> simp
@[simp] theorem dropForce_link_enables (s : State) (o : Nat) : (dropForce s o).link.enables = s.link.enables := by unfold dropForce; split <;> (try split) <;> simp

@[simp] theorem dropAllForces_link_station (s : State) : (dropAllForces s).link.station = s.link.station := by
  simp only [dropAllForces, refreshLines_link_station]
  rw [foldl_keeps (fun t : State => t.link.station) _ (fun b a => by simp)]
@[simp] theorem dropAllForces_link_service (s : State) : (dropAllForces s).link.service = s.link.service := by
  simp only [dropAllForces, refreshLines_link_service]
  rw [foldl_keeps (fun t : State => t.link.service) _ (fun b a => by simp)]
@[simp] theorem dropAllForces_link_holder (s : State) : (dropAllForces s).link.holder = s.link.holder := by
  simp only [dropAllForces, refreshLines_link_holder]
  rw [foldl_keeps (fun t : State => t.link.holder) _ (fun b a => by simp)]
@[simp] theorem dropAllForces_link_serviceSince (s : State) : (dropAllForces s).link.serviceSince = s.link.serviceSince := by
  simp only [dropAllForces, refreshLines_link_serviceSince]
  rw [foldl_keeps (fun t : State => t.link.serviceSince) _ (fun b a => by simp)]
@[simp] theorem dropAllForces_link_policy (s : State) : (dropAllForces s).link.policy = s.link.policy := by
  simp only [dropAllForces, refreshLines_link_policy]
  rw [foldl_keeps (fun t : State => t.link.policy) _ (fun b a => by simp)]
@[simp] theorem dropAllForces_link_enables (s : State) : (dropAllForces s).link.enables = s.link.enables := by
  simp only [dropAllForces, refreshLines_link_enables]
  rw [foldl_keeps (fun t : State => t.link.enables) _ (fun b a => by simp)]


end Sys2Proof.Machine
end

