-- ==== Sys2Proof/Laws/Loop.lean ====
section
/-! SUPPORT. The signalling of the Detector Loop (R103, R107): the actions of a step take the lines from where one bus state leaves them to where the
next one does; and the checks that close the records of the store (R194). -/

namespace Sys2Proof.Machine

/-- The lines after a list of actions. -/
abbrev driven (l : List LineSignal) (x : LoopLines) : LoopLines := l.foldl drive x

@[simp] theorem driven_bitOut (b : Bool) (x : LoopLines) : driven (bitOut b) x = ⟨false, b⟩ := by cases b <;> rfl
@[simp] theorem driven_bitIn (x : LoopLines) : driven bitIn x = ⟨false, true⟩ := rfl
theorem driven_append (a b : List LineSignal) (x : LoopLines) : driven (a ++ b) x = driven b (driven a x) := List.foldl_append ..

/-- A written byte leaves the clock low and the data line released, whatever the byte. -/
theorem driven_write (b : Byte) (x : LoopLines) : driven (writeSignals b) x = ⟨false, true⟩ := by
  rw [writeSignals, driven_append, driven_bitIn]

/-- A byte read leaves the data line low where it was acknowledged. -/
theorem driven_read (ack : Bool) (x : LoopLines) : driven (readSignals ack) x = ⟨false, !ack⟩ := by
  rw [readSignals, driven_append, driven_bitOut]

theorem driven_stop (x : LoopLines) : driven stopSignals x = ⟨true, true⟩ := rfl

/-- A step that is done without a byte not acknowledged leaves the lines as its bus state has them. -/
theorem driven_step (o : ScriptOwner) (st : ScriptStep) (x : LoopLines) (h : st.lead ≠ .release) :
    driven ((stepSignals o st).body ++ (stepSignals o st).tail) x = restLines (busAfter st) := by
  obtain ⟨lead, read, value, tail⟩ := st
  cases read <;> cases tail <;> cases lead <;>
    first
    | exact absurd rfl h
    | simp only [stepSignals, driven_append, driven_write, driven_read] <;> rfl

/-- A byte not acknowledged leaves both lines released. -/
theorem driven_notAck (o : ScriptOwner) (st : ScriptStep) (x : LoopLines) (h : st.read = false) :
    driven ((stepSignals o st).body ++ (stepSignals o st).ifNotAck) x = restLines .free := by
  simp [stepSignals, h, driven_append, driven_stop, restLines]

/-- A closing and a recovery leave both lines released. -/
theorem driven_close (b : BusState) (x : LoopLines) : driven (closeSignals b).body x = restLines .free := by
  simp only [closeSignals, driven_append]; rfl
theorem driven_recovery (x : LoopLines) : driven recoverySignals.body x = restLines .free := rfl

/-- A closed record's check matches; a record that was cut off has none that does. -/
@[simp] theorem closedLatch_checkOk (f : Bool) (r : Nat) : (closedLatch f r).checkOk = true := by simp [closedLatch, LatchRec.checkOk]
@[simp] theorem closeImage_checkOk (i : Image) : (closeImage i).checkOk = true := by simp [closeImage, Image.checkOk, imageBytes]
theorem latch_cut (l : LatchRec) : ({ l with check := none } : LatchRec).checkOk = false := rfl
theorem image_cut (i : Image) : ({ i with check := none } : Image).checkOk = false := rfl

end Sys2Proof.Machine
end

