-- ==== Sys2Proof/Laws/Ring.lean ====
section
/-! SUPPORT. What the ring operations do to sequences, waits, windows and live fields, and what a change of the fire state, the sequencer or a
node leaves alone in the ring and in the Management Unit. -/

namespace Sys2Proof.Machine


theorem waitLapse_id (t0 : Nat) (s : State) (h : waitsOpen s) : waitLapse t0 s = s := by
  have key : ∀ side, lapseSide t0 s side = s := by
    intro side
    unfold lapseSide
    split
    · rename_i a p second since hw
      have := h _ _ _ _ _ hw
      simp only [waitOver, ran, replyTime, Config.ms] at *
      have h2 : ¬ (since + 2 * 1000 ≤ s.now) := by omega
      simp [h2]
    · rfl
  simp [waitLapse, key]

theorem waitLapse_none (t0 : Nat) (s : State) (h1 : waitOf s.ring .a = none) (h2 : waitOf s.ring .b = none) : waitLapse t0 s = s := by
  apply waitLapse_id; intro side a p second since h; cases side <;> simp_all

theorem seqOf_modPort (p : RingPort) (f) (r : Ring) (side) : seqOf (modPort p f r) side = seqOf r side := by
  cases p <;> cases side <;> rfl

theorem waitOf_modPort (p : RingPort) (f) (r : Ring) (side) : waitOf (modPort p f r) side = waitOf r side := by
  simp [waitOf, seqOf_modPort]

theorem seqOf_setLive (a f) (r : Ring) (side) : seqOf (setLive a f r) side = seqOf r side := by
  cases a <;> cases side <;> rfl

theorem waitOf_setLive (a f) (r : Ring) (side) : waitOf (setLive a f r) side = waitOf r side := by
  simp [waitOf, seqOf_setLive]

theorem liveOf_searching (p s a) : liveOf (searching p s) a = liveOf s a := by
  cases p <;> cases a <;> rfl

theorem waitOf_searching (p s side) : waitOf (searching p s).ring side = waitOf s.ring side := waitOf_modPort _ _ _ _

theorem admitted_entry {s : State} {f : Frame} (h : admitted s f) : hasEntry s f.src.toNat := by
  obtain ⟨h1, h2, h3, h4, h5⟩ := h
  refine ⟨by omega, ?_⟩
  by_contra hc
  obtain ⟨k, hk⟩ : ∃ k, f.src.toNat = k + 1 := ⟨f.src.toNat - 1, by omega⟩
  rw [hk] at h4 hc
  apply h4
  simp only [liveOf, liveIn, List.getD]
  rw [List.getElem?_eq_none (by omega)]
  rfl

theorem liveIn_setLive (a : Nat) (f) (r : Ring) (h1 : 1 ≤ a) (h2 : a ≤ r.nodes.length) : liveIn (setLive a f r).nodes a = f (liveIn r.nodes a) := by
  obtain ⟨k, rfl⟩ : ∃ k, a = k + 1 := ⟨a - 1, by omega⟩
  simp [liveIn, setLive, List.getD, List.getElem?_modify]
  rw [List.getElem?_eq_getElem (by omega)]; rfl

theorem setLive_congr (a : Nat) (f g) (r : Ring) (h : f (liveIn r.nodes a) = g (liveIn r.nodes a)) : setLive a f r = setLive a g r := by
  cases a with
  | zero => rfl
  | succ k =>
    simp only [setLive]; congr 1
    apply List.ext_getElem?
    intro i
    simp only [List.getElem?_modify]
    by_cases hi : k = i
    · subst hi
      by_cases hk : k < r.nodes.length
      · have e : r.nodes.getD k noNode = r.nodes[k] := by simp [List.getD, hk]
        simp only [liveIn, e] at h
        simp [List.getElem?_eq_getElem hk, h]
      · simp [List.getElem?_eq_none (by omega : r.nodes.length ≤ k)]
    · simp [hi]

theorem screen_passes {s : State} {f : Frame} (p) (h : admitted s f) (hk : f.kind = kSample ∨ f.kind = kNodeRsp ∨ (f.kind = kSetpointAck ∧ (cfgOf s f.src.toNat).role = .conv)) :
   screen (searching p s) f = .passes := by
  obtain ⟨h1, h2, h3, h4, h5⟩ := h
  simp only [screen, liveOf_searching]
  have hc : cfgOf (searching p s) f.src.toNat = cfgOf s f.src.toNat := rfl
  rw [hc]
  have : ¬ 40 < f.src.toNat := by omega
  rcases hk with hk | hk | ⟨hk, hr⟩ <;> simp [h1, h3, h4, h5, hk, this, kSample, kNodeRsp, kSetpointAck] 
  exact hr


theorem setLive_setLive (a : Nat) (g h : NodeLive → NodeLive) (r : Ring) : setLive a h (setLive a g r) = setLive a (h ∘ g) r := by
  cases a <;> simp [setLive, List.modify_modify_eq]

theorem ringBrokenEval_nodes (s : State) : (ringBrokenEval s).ring.nodes = s.ring.nodes := by simp [ringBrokenEval]

theorem ringBrokenEval_seqOf (s : State) (side) : seqOf (ringBrokenEval s).ring side = seqOf s.ring side := by cases side <;> simp [ringBrokenEval, seqOf]

theorem ringBrokenEval_splitEff (s : State) : (ringBrokenEval s).ring.splitEff = s.ring.splitEff := by simp [ringBrokenEval]

/-- A poll changes the ring alone, keeps every live field, and leaves no wait open on its side. -/
theorem nextPoll_frame (side) (s : State) : nextPoll side s = { s with ring := (nextPoll side s).ring } ∧ (nextPoll side s).ring.nodes = s.ring.nodes ∧ ∀ sd, (sd = side → waitOf (nextPoll side s).ring sd = none) ∧ (sd ≠ side → seqOf (nextPoll side s).ring sd = seqOf s.ring sd) := by
  unfold nextPoll
  split
  · refine ⟨rfl, ?_, ?_⟩
    · cases side <;> rfl
    · intro sd; cases sd <;> cases side <;> simp [setPhase, modSeq, waitOf, seqOf]
  · refine ⟨rfl, ?_, ?_⟩
    · cases side <;> simp only [State.onRing_ring, sendPoll, modSeq, sendOn, advance] <;> (cases firstPort s _ _ <;> rfl)
    · intro sd; cases sd <;> cases side <;> simp only [sendPoll, modSeq, waitOf, seqOf, sendOn, advance, State.onRing_ring] <;> (cases firstPort s _ _ <;> simp [modPort])

theorem opportunity_frame (side) (s : State) : opportunity side s = { s with ring := (opportunity side s).ring } ∧ (opportunity side s).ring.nodes = s.ring.nodes ∧ ∀ sd, (sd = side → waitOf (opportunity side s).ring sd = none) ∧ (sd ≠ side → seqOf (opportunity side s).ring sd = seqOf s.ring sd) := by
  unfold opportunity
  split
  · refine ⟨rfl, ?_, ?_⟩
    · cases side <;> rfl
    · intro sd; cases sd <;> cases side <;> simp [setPhase, modSeq, waitOf, seqOf]
  · exact nextPoll_frame side s

theorem offer_frame (a x f) (s : State) : offer a x f s = { s with link := (offer a x f s).link } := by
  simp only [offer]; split <;> simp [passUp, State.onLink]

theorem changeRec_frame (a f) (s : State) : changeRec a f s = { s with cell := (changeRec a f s).cell, link := (changeRec a f s).link } := by
  unfold changeRec; split
  · rfl
  · apply State.eq_of_fields <;> simp

theorem recOf_changeRec (a f) (s : State) (m) (h : recOf s a = some m) : recOf (changeRec a f s) a = some { f m with cond := moduleCond (f m) } := by
  unfold changeRec; simp only [h]
  cases a with
  | zero => simp [recOf] at h
  | succ k =>
    simp only [recOf, raiseIf_cell, State.onCell_cell] at *
    have hk : k < s.cell.recs.length := by
      by_contra hc
      simp [List.getD, List.getElem?_eq_none (by omega : s.cell.recs.length ≤ k)] at h
    simp [List.getD, hk]

theorem setLive_len (a f) (r : Ring) : (setLive a f r).nodes.length = r.nodes.length := by cases a <;> simp [setLive]

theorem searching_nodes (p s) : (searching p s).ring.nodes = s.ring.nodes := by cases p <;> rfl

/-! A change of the fire state, the sequencer or a node leaves the ring alone but for the Setpoint Slot. -/

theorem nodes_of_slot {a b : Ring} (h : a = { b with slot := a.slot }) : a.nodes = b.nodes := by rw [h]

theorem reissueCheck_ring (s : State) : (reissueCheck s).ring = { s.ring with slot := (reissueCheck s).ring.slot } := by
  unfold reissueCheck; split <;> (try split) <;> rfl

theorem slotRewrite_ring (s : State) : (slotRewrite s).ring = { s.ring with slot := (slotRewrite s).ring.slot } := by
  unfold slotRewrite; split <;> rfl

theorem limitsHanded_ring (s : State) : (limitsHanded s).ring = { s.ring with slot := (limitsHanded s).ring.slot } := by
  unfold limitsHanded; rw [reissueCheck_ring, slotRewrite_ring]

theorem setLimits_ring (c d) (s : State) : (setLimits c d s).ring = { s.ring with slot := (setLimits c d s).ring.slot } := by
  simp only [setLimits]; split
  · simp
  · rw [limitsHanded_ring]; simp

theorem gateOnset_ring (g) (s : State) : (gateOnset g s).ring = { s.ring with slot := (gateOnset g s).ring.slot } := by
  simp only [gateOnset]; rw [setLimits_ring]; simp

theorem seqTo_ring (st) (s : State) : (seqTo st s).ring = { s.ring with slot := (seqTo st s).ring.slot } := by
  simp only [seqTo]
  split_ifs <;> simp <;> (rw [gateOnset_ring]; simp)

theorem lockOut_ring (r) (s : State) : (lockOut r s).ring = { s.ring with slot := (lockOut r s).ring.slot } := by
  simp only [lockOut]; simp; rw [seqTo_ring]; simp

theorem tripTo_ring (c cl k) (s : State) : (tripTo c cl k s).ring = { s.ring with slot := (tripTo c cl k s).ring.slot } := by
  simp only [tripTo]; rw [seqTo_ring]; simp

theorem takeBay_ring (c) (s : State) : (takeBay c s).ring = { s.ring with slot := (takeBay c s).ring.slot } := by
  unfold takeBay
  split <;> (try split) <;> (first | (rw [seqTo_ring]; simp; done) | (rw [tripTo_ring]; done) | (rw [lockOut_ring]; simp; done) | simp)

theorem takeGrid_ring (c) (s : State) : (takeGrid c s).ring = { s.ring with slot := (takeGrid c s).ring.slot } := by
  unfold takeGrid; split
  · rw [tripTo_ring]
  · rfl

theorem seqNodes_ring (c) (s : State) : (seqNodes c s).ring = { s.ring with slot := (seqNodes c s).ring.slot } := by
  simp only [seqNodes]; split_ifs <;> (first | (rw [takeBay_ring]; simp; done) | simp)

theorem bayEval_ring (s : State) : (bayEval s).ring = { s.ring with slot := (bayEval s).ring.slot } := by
  simp only [bayEval]; split
  · rw [takeBay_ring]; simp
  · simp

theorem coolSettle_ring (o al) (s : State) : (coolSettle o al s).ring = { s.ring with slot := (coolSettle o al s).ring.slot } := by
  simp only [coolSettle, refreshLines_ring]
  rw [bayEval_ring]
  rw [foldl_keeps State.ring _ (fun b a => by split <;> simp)]
  simp

theorem nodeReaders_ring (a c) (s : State) : (nodeReaders a c s).ring = { s.ring with slot := (nodeReaders a c s).ring.slot } := by
  simp only [nodeReaders, detBlindEval_ring, coolNode]
  rw [seqNodes_ring, coolSettle_ring]

theorem nodeTo_nodes (a st f) (s : State) : (nodeTo a st f s).ring.nodes = (setLive a (fun l => { f l with state := st }) s.ring).nodes := by
  simp only [nodeTo]; rw [nodes_of_slot (nodeReaders_ring _ _ _)]; simp [ringBrokenEval_nodes]

theorem nodeTo_seqOf (a st f) (s : State) (sd) : seqOf (nodeTo a st f s).ring sd = seqOf s.ring sd := by
  have h : ∀ {a b : Ring}, a = { b with slot := a.slot } → seqOf a sd = seqOf b sd := by intro a b h; rw [h]; cases sd <;> rfl
  simp only [nodeTo]; rw [h (nodeReaders_ring _ _ _), ringBrokenEval_seqOf]; simp [seqOf_setLive]

theorem nodeTo_splitEff (a st f) (s : State) : (nodeTo a st f s).ring.splitEff = s.ring.splitEff := by
  have h : ∀ {a b : Ring}, a = { b with slot := a.slot } → a.splitEff = b.splitEff := by intro a b h; rw [h]
  simp only [nodeTo]; rw [h (nodeReaders_ring _ _ _), ringBrokenEval_splitEff]; cases a <;> simp [setLive]

theorem reformAll_ring (s : State) : (reformAll s).ring = { s.ring with slot := (reformAll s).ring.slot } := by
  simp only [reformAll]; rw [coolSettle_ring]; simp

/-! The meter record and the aux source stay through everything but a METER sample. -/

theorem seqTo_meter (st) (s : State) : (seqTo st s).seqr.meter = s.seqr.meter ∧ (seqTo st s).seqr.auxBackup = s.seqr.auxBackup := by
  simp only [seqTo]
  split_ifs <;> simp [blindEval, strayStart] <;> (try split_ifs) <;> simp [blindOnset, blindEnd, seqEnter]

theorem lockOut_meter (r) (s : State) : (lockOut r s).seqr.meter = s.seqr.meter ∧ (lockOut r s).seqr.auxBackup = s.seqr.auxBackup := by
  have := seqTo_meter .lockedOut (s.onSeqr fun q => { q with reason := r })
  simp [lockOut] at *; exact this

theorem tripTo_meter (c cl k) (s : State) : (tripTo c cl k s).seqr.meter = s.seqr.meter ∧ (tripTo c cl k s).seqr.auxBackup = s.seqr.auxBackup := by
  have := seqTo_meter .tripping ((raiseNotice (nSeqTrip (cl == .grid) c s.seqr.reclose) s).onSeqr fun q => { q with trip := some ⟨c, cl, k⟩ })
  simp [tripTo] at *; exact this

theorem takeBay_meter (c) (s : State) : (takeBay c s).seqr.meter = s.seqr.meter ∧ (takeBay c s).seqr.auxBackup = s.seqr.auxBackup := by
  have h1 : ∀ st n t, (seqTo st (raiseNotice n t)).seqr.meter = t.seqr.meter ∧ (seqTo st (raiseNotice n t)).seqr.auxBackup = t.seqr.auxBackup := by
    intro st n t; have := seqTo_meter st (raiseNotice n t); simpa using this
  have h2 : ∀ st n t, (lockOut st (raiseNotice n t)).seqr.meter = t.seqr.meter ∧ (lockOut st (raiseNotice n t)).seqr.auxBackup = t.seqr.auxBackup := by
    intro st n t; have := lockOut_meter st (raiseNotice n t); simpa using this
  unfold takeBay
  split
  · exact h1 _ _ _
  · exact h1 _ _ _
  · exact h1 _ _ _
  · exact tripTo_meter _ _ _ _
  · exact tripTo_meter _ _ _ _
  · split
    · simp
    · exact ⟨rfl, rfl⟩
  · split
    · exact h2 _ _ _
    · exact ⟨rfl, rfl⟩
  · exact ⟨rfl, rfl⟩
  · exact ⟨rfl, rfl⟩

theorem takeGrid_meter (c) (s : State) : (takeGrid c s).seqr.meter = s.seqr.meter ∧ (takeGrid c s).seqr.auxBackup = s.seqr.auxBackup := by
  unfold takeGrid; split
  · exact tripTo_meter _ _ _ _
  · simp

theorem bayEval_meter (s : State) : (bayEval s).seqr.meter = s.seqr.meter ∧ (bayEval s).seqr.auxBackup = s.seqr.auxBackup := by
  simp only [bayEval]; split
  · rw [(takeBay_meter _ _).1, (takeBay_meter _ _).2]; simp
  · simp

theorem coolSettle_meter (o al) (s : State) : (coolSettle o al s).seqr.meter = s.seqr.meter ∧ (coolSettle o al s).seqr.auxBackup = s.seqr.auxBackup := by
  simp only [coolSettle, refreshLines_seqr]
  rw [(bayEval_meter _).1, (bayEval_meter _).2, foldl_keeps State.seqr _ (fun b a => by split <;> simp)]
  simp

theorem reformAll_meter (s : State) : (reformAll s).seqr.meter = s.seqr.meter ∧ (reformAll s).seqr.auxBackup = s.seqr.auxBackup := by
  simp only [reformAll]; rw [(coolSettle_meter _ _ _).1, (coolSettle_meter _ _ _).2]; simp

theorem stagesSample_meter (m) (s : State) : (stagesSample m s).seqr.meter = s.seqr.meter ∧ (stagesSample m s).seqr.auxBackup = s.seqr.auxBackup := by
  have h1 : ∀ c f, (∀ q : Sequencer, (f q).meter = q.meter ∧ (f q).auxBackup = q.auxBackup) → (takeGrid c (s.onSeqr f)).seqr.meter = s.seqr.meter ∧ (takeGrid c (s.onSeqr f)).seqr.auxBackup = s.seqr.auxBackup := by
    intro c f hf; have := takeGrid_meter c (s.onSeqr f); simpa [hf] using this
  simp only [stagesSample]
  split_ifs <;> (try exact ⟨rfl, rfl⟩) <;> split <;> (try split) <;>
    first
      | exact h1 _ _ (fun q => ⟨rfl, rfl⟩)
      | exact ⟨rfl, rfl⟩

theorem meterSample_seqr (d) (s : State) : (meterSample d s).seqr.auxBackup = d.backup ∧ (meterSample d s).seqr.meter =
   (let n := s.mgmt.ringTables.grid.nominalV; some ⟨d.v1, d.v2, d.v3, ratio d.v1 n, ratio d.v2 n, ratio d.v3 n, d.freq, d.rocof, d.power, d.backup, s.now⟩) := by
  simp only [meterSample]
  generalize hm : (⟨d.v1, d.v2, d.v3, _, _, _, d.freq, d.rocof, d.power, d.backup, s.now⟩ : MeterRec) = m
  have h1 : (healthySample m (stagesSample m (s.onSeqr fun q => { q with meter := some m }))).seqr.meter = some m := by
    unfold healthySample; split <;> simp [(stagesSample_meter _ _).1]
  unfold auxTo; split
  · rename_i h; exact ⟨h, h1⟩
  · rw [(reformAll_meter _).1, (reformAll_meter _).2]; simp [h1]

theorem meterSample_ring (d) (s : State) : (meterSample d s).ring = { s.ring with slot := (meterSample d s).ring.slot } := by
  have hst : ∀ m t, (stagesSample m t).ring = { t.ring with slot := (stagesSample m t).ring.slot } := by
    intro m t
    have h1 : ∀ c f, (takeGrid c (t.onSeqr f)).ring = { t.ring with slot := (takeGrid c (t.onSeqr f)).ring.slot } := by
      intro c f; rw [takeGrid_ring]; simp
    simp only [stagesSample]
    split_ifs <;> (try rfl) <;> split <;> (try split) <;>
      first
        | exact h1 _ _
        | rfl
  have hh : ∀ m t, (healthySample m t).ring = t.ring := by intro m t; unfold healthySample; split <;> simp
  have ha : ∀ b t, (auxTo b t).ring = { t.ring with slot := (auxTo b t).ring.slot } := by
    intro b t; unfold auxTo; split
    · rfl
    · rw [reformAll_ring]; simp
  simp only [meterSample]; rw [ha, hh, hst]; simp

/-! A change of the fire state, the sequencer or a node leaves the Management Unit alone but for a latch record handed to the store. -/

theorem storeStart_latch (m : Mgmt) : storeStart m = { m with store := (storeStart m).store, latchWaiting := (storeStart m).latchWaiting, latchWriting := (storeStart m).latchWriting } := by
  unfold storeStart; split <;> rfl

theorem handLatch_latch (b r) (m : Mgmt) : handLatch b r m = { m with store := (handLatch b r m).store, latchWaiting := (handLatch b r m).latchWaiting, latchWriting := (handLatch b r m).latchWriting } := by
  unfold handLatch; rw [storeStart_latch]

theorem lockOut_latch (r) (s : State) : (lockOut r s).mgmt = { s.mgmt with store := (lockOut r s).mgmt.store, latchWaiting := (lockOut r s).mgmt.latchWaiting, latchWriting := (lockOut r s).mgmt.latchWriting } := by
  have h : (lockOut r s).mgmt = handLatch true r s.mgmt := by simp [lockOut]
  rw [h, handLatch_latch]

theorem takeBay_latch (c) (s : State) : (takeBay c s).mgmt = { s.mgmt with store := (takeBay c s).mgmt.store, latchWaiting := (takeBay c s).mgmt.latchWaiting, latchWriting := (takeBay c s).mgmt.latchWriting } := by
  unfold takeBay
  split <;> (try split) <;> (first | (rw [lockOut_latch]; simp; done) | simp)

theorem bayEval_latch (s : State) : (bayEval s).mgmt = { s.mgmt with store := (bayEval s).mgmt.store, latchWaiting := (bayEval s).mgmt.latchWaiting, latchWriting := (bayEval s).mgmt.latchWriting } := by
  simp only [bayEval]; split
  · rw [takeBay_latch]; simp
  · simp

theorem coolSettle_latch (o al) (s : State) : (coolSettle o al s).mgmt = { s.mgmt with store := (coolSettle o al s).mgmt.store, latchWaiting := (coolSettle o al s).mgmt.latchWaiting, latchWriting := (coolSettle o al s).mgmt.latchWriting } := by
  simp only [coolSettle, refreshLines_mgmt]
  rw [bayEval_latch]
  rw [foldl_keeps State.mgmt _ (fun b a => by split <;> simp)]
  simp

theorem seqNodes_latch (c) (s : State) : (seqNodes c s).mgmt = { s.mgmt with store := (seqNodes c s).mgmt.store, latchWaiting := (seqNodes c s).mgmt.latchWaiting, latchWriting := (seqNodes c s).mgmt.latchWriting } := by
  simp only [seqNodes]; split_ifs <;> (first | (rw [takeBay_latch]; simp; done) | simp)

theorem nodeReaders_latch (a c) (s : State) : (nodeReaders a c s).mgmt = { s.mgmt with store := (nodeReaders a c s).mgmt.store, latchWaiting := (nodeReaders a c s).mgmt.latchWaiting, latchWriting := (nodeReaders a c s).mgmt.latchWriting } := by
  simp only [nodeReaders, detBlindEval_mgmt, coolNode]
  rw [seqNodes_latch, coolSettle_latch]

theorem nodeTo_latch (a st f) (s : State) : (nodeTo a st f s).mgmt = { s.mgmt with store := (nodeTo a st f s).mgmt.store, latchWaiting := (nodeTo a st f s).mgmt.latchWaiting, latchWriting := (nodeTo a st f s).mgmt.latchWriting } := by
  simp only [nodeTo]; rw [nodeReaders_latch]; simp

theorem reformAll_latch (s : State) : (reformAll s).mgmt = { s.mgmt with store := (reformAll s).mgmt.store, latchWaiting := (reformAll s).mgmt.latchWaiting, latchWriting := (reformAll s).mgmt.latchWriting } := by
  simp only [reformAll]; rw [coolSettle_latch]; simp


/-! A METER sample leaves these blocks alone (R137, R140, R141). -/

@[simp] theorem stagesSample_now (m : MeterRec) (s : State) : (stagesSample m s).now = s.now := by
  simp only [stagesSample]; split_ifs <;> (try rfl) <;> split <;> simp
@[simp] theorem stagesSample_phase (m : MeterRec) (s : State) : (stagesSample m s).phase = s.phase := by
  simp only [stagesSample]; split_ifs <;> (try rfl) <;> split <;> simp
@[simp] theorem stagesSample_rst (m : MeterRec) (s : State) : (stagesSample m s).rst = s.rst := by
  simp only [stagesSample]; split_ifs <;> (try rfl) <;> split <;> simp
@[simp] theorem stagesSample_cell (m : MeterRec) (s : State) : (stagesSample m s).cell = s.cell := by
  simp only [stagesSample]; split_ifs <;> (try rfl) <;> split <;> simp
@[simp] theorem stagesSample_gate (m : MeterRec) (s : State) : (stagesSample m s).gate = s.gate := by
  simp only [stagesSample]; split_ifs <;> (try rfl) <;> split <;> simp
@[simp] theorem stagesSample_cool (m : MeterRec) (s : State) : (stagesSample m s).cool = s.cool := by
  simp only [stagesSample]; split_ifs <;> (try rfl) <;> split <;> simp
@[simp] theorem stagesSample_loop (m : MeterRec) (s : State) : (stagesSample m s).loop = s.loop := by
  simp only [stagesSample]; split_ifs <;> (try rfl) <;> split <;> simp
@[simp] theorem stagesSample_fire (m : MeterRec) (s : State) : (stagesSample m s).fire = s.fire := by
  simp only [stagesSample]; split_ifs <;> (try rfl) <;> split <;> simp
@[simp] theorem stagesSample_mgmt (m : MeterRec) (s : State) : (stagesSample m s).mgmt = s.mgmt := by
  simp only [stagesSample]; split_ifs <;> (try rfl) <;> split <;> simp
@[simp] theorem stagesSample_store (m : MeterRec) (s : State) : (stagesSample m s).store = s.store := by
  simp only [stagesSample]; split_ifs <;> (try rfl) <;> split <;> simp
@[simp] theorem stagesSample_pending (m : MeterRec) (s : State) : (stagesSample m s).pending = s.pending := by
  simp only [stagesSample]; split_ifs <;> (try rfl) <;> split <;> simp

@[simp] theorem healthySample_now (m : MeterRec) (s : State) : (healthySample m s).now = s.now := by
  unfold healthySample; split <;> simp
@[simp] theorem healthySample_phase (m : MeterRec) (s : State) : (healthySample m s).phase = s.phase := by
  unfold healthySample; split <;> simp
@[simp] theorem healthySample_rst (m : MeterRec) (s : State) : (healthySample m s).rst = s.rst := by
  unfold healthySample; split <;> simp
@[simp] theorem healthySample_ring (m : MeterRec) (s : State) : (healthySample m s).ring = s.ring := by
  unfold healthySample; split <;> simp
@[simp] theorem healthySample_cell (m : MeterRec) (s : State) : (healthySample m s).cell = s.cell := by
  unfold healthySample; split <;> simp
@[simp] theorem healthySample_env (m : MeterRec) (s : State) : (healthySample m s).env = s.env := by
  unfold healthySample; split <;> simp
@[simp] theorem healthySample_gate (m : MeterRec) (s : State) : (healthySample m s).gate = s.gate := by
  unfold healthySample; split <;> simp
@[simp] theorem healthySample_cool (m : MeterRec) (s : State) : (healthySample m s).cool = s.cool := by
  unfold healthySample; split <;> simp
@[simp] theorem healthySample_loop (m : MeterRec) (s : State) : (healthySample m s).loop = s.loop := by
  unfold healthySample; split <;> simp
@[simp] theorem healthySample_fire (m : MeterRec) (s : State) : (healthySample m s).fire = s.fire := by
  unfold healthySample; split <;> simp
@[simp] theorem healthySample_lines (m : MeterRec) (s : State) : (healthySample m s).lines = s.lines := by
  unfold healthySample; split <;> simp
@[simp] theorem healthySample_link (m : MeterRec) (s : State) : (healthySample m s).link = s.link := by
  unfold healthySample; split <;> simp
@[simp] theorem healthySample_mgmt (m : MeterRec) (s : State) : (healthySample m s).mgmt = s.mgmt := by
  unfold healthySample; split <;> simp
@[simp] theorem healthySample_store (m : MeterRec) (s : State) : (healthySample m s).store = s.store := by
  unfold healthySample; split <;> simp
@[simp] theorem healthySample_pending (m : MeterRec) (s : State) : (healthySample m s).pending = s.pending := by
  unfold healthySample; split <;> simp

@[simp] theorem auxTo_now (b : Bool) (s : State) : (auxTo b s).now = s.now := by unfold auxTo; split <;> simp
@[simp] theorem auxTo_phase (b : Bool) (s : State) : (auxTo b s).phase = s.phase := by unfold auxTo; split <;> simp
@[simp] theorem auxTo_rst (b : Bool) (s : State) : (auxTo b s).rst = s.rst := by unfold auxTo; split <;> simp
@[simp] theorem auxTo_cell (b : Bool) (s : State) : (auxTo b s).cell = s.cell := by unfold auxTo; split <;> simp
@[simp] theorem auxTo_gate (b : Bool) (s : State) : (auxTo b s).gate = s.gate := by unfold auxTo; split <;> simp
@[simp] theorem auxTo_loop (b : Bool) (s : State) : (auxTo b s).loop = s.loop := by unfold auxTo; split <;> simp
@[simp] theorem auxTo_fire (b : Bool) (s : State) : (auxTo b s).fire = s.fire := by unfold auxTo; split <;> simp
@[simp] theorem auxTo_store (b : Bool) (s : State) : (auxTo b s).store = s.store := by unfold auxTo; split <;> simp
@[simp] theorem auxTo_pending (b : Bool) (s : State) : (auxTo b s).pending = s.pending := by unfold auxTo; split <;> simp

@[simp] theorem meterSample_now (d : MeterSample) (s : State) : (meterSample d s).now = s.now := by simp [meterSample]
@[simp] theorem meterSample_phase (d : MeterSample) (s : State) : (meterSample d s).phase = s.phase := by simp [meterSample]
@[simp] theorem meterSample_rst (d : MeterSample) (s : State) : (meterSample d s).rst = s.rst := by simp [meterSample]
@[simp] theorem meterSample_cell (d : MeterSample) (s : State) : (meterSample d s).cell = s.cell := by simp [meterSample]
@[simp] theorem meterSample_gate (d : MeterSample) (s : State) : (meterSample d s).gate = s.gate := by simp [meterSample]
@[simp] theorem meterSample_loop (d : MeterSample) (s : State) : (meterSample d s).loop = s.loop := by simp [meterSample]
@[simp] theorem meterSample_fire (d : MeterSample) (s : State) : (meterSample d s).fire = s.fire := by simp [meterSample]
@[simp] theorem meterSample_store (d : MeterSample) (s : State) : (meterSample d s).store = s.store := by simp [meterSample]
@[simp] theorem meterSample_pending (d : MeterSample) (s : State) : (meterSample d s).pending = s.pending := by simp [meterSample]

/-! Detection blind changes nothing else of the Fire Supervisor, and a change of a node's state no more than that (R125). -/

@[simp] theorem detBlindEval_fire_dets (s : State) : (detBlindEval s).fire.dets = s.fire.dets := by
  simp only [detBlindEval, refreshLines_fire]
  exact foldl_keeps (fun t : State => t.fire.dets) detBlindZone (fun b a => by simp [detBlindZone]) _ _
@[simp] theorem detBlindEval_fire_state (s : State) : (detBlindEval s).fire.state = s.fire.state := by
  simp only [detBlindEval, refreshLines_fire]
  exact foldl_keeps (fun t : State => t.fire.state) detBlindZone (fun b a => by simp [detBlindZone]) _ _
@[simp] theorem detBlindEval_fire_countdown (s : State) : (detBlindEval s).fire.countdown = s.fire.countdown := by
  simp only [detBlindEval, refreshLines_fire]
  exact foldl_keeps (fun t : State => t.fire.countdown) detBlindZone (fun b a => by simp [detBlindZone]) _ _
@[simp] theorem detBlindEval_fire_pulse (s : State) : (detBlindEval s).fire.pulse = s.fire.pulse := by
  simp only [detBlindEval, refreshLines_fire]
  exact foldl_keeps (fun t : State => t.fire.pulse) detBlindZone (fun b a => by simp [detBlindZone]) _ _
@[simp] theorem detBlindEval_fire_silenced (s : State) : (detBlindEval s).fire.silenced = s.fire.silenced := by
  simp only [detBlindEval, refreshLines_fire]
  exact foldl_keeps (fun t : State => t.fire.silenced) detBlindZone (fun b a => by simp [detBlindZone]) _ _
@[simp] theorem detBlindEval_fire_sounder (s : State) : (detBlindEval s).fire.sounder = s.fire.sounder := by
  simp only [detBlindEval, refreshLines_fire]
  exact foldl_keeps (fun t : State => t.fire.sounder) detBlindZone (fun b a => by simp [detBlindZone]) _ _
@[simp] theorem detBlindEval_fire_sounderSince (s : State) : (detBlindEval s).fire.sounderSince = s.fire.sounderSince := by
  simp only [detBlindEval, refreshLines_fire]
  exact foldl_keeps (fun t : State => t.fire.sounderSince) detBlindZone (fun b a => by simp [detBlindZone]) _ _
@[simp] theorem detBlindEval_fire_picture (s : State) : (detBlindEval s).fire.picture = s.fire.picture := by
  simp only [detBlindEval, refreshLines_fire]
  exact foldl_keeps (fun t : State => t.fire.picture) detBlindZone (fun b a => by simp [detBlindZone]) _ _

@[simp] theorem nodeTo_fire_dets (a : Nat) (st : NodeState) (g : NodeLive → NodeLive) (s : State) : (nodeTo a st g s).fire.dets = s.fire.dets := by
  simp [nodeTo, nodeReaders, coolNode]
@[simp] theorem nodeTo_fire_state (a : Nat) (st : NodeState) (g : NodeLive → NodeLive) (s : State) : (nodeTo a st g s).fire.state = s.fire.state := by
  simp [nodeTo, nodeReaders, coolNode]
@[simp] theorem nodeTo_fire_countdown (a : Nat) (st : NodeState) (g : NodeLive → NodeLive) (s : State) : (nodeTo a st g s).fire.countdown = s.fire.countdown := by
  simp [nodeTo, nodeReaders, coolNode]
@[simp] theorem nodeTo_fire_pulse (a : Nat) (st : NodeState) (g : NodeLive → NodeLive) (s : State) : (nodeTo a st g s).fire.pulse = s.fire.pulse := by
  simp [nodeTo, nodeReaders, coolNode]
@[simp] theorem nodeTo_fire_silenced (a : Nat) (st : NodeState) (g : NodeLive → NodeLive) (s : State) : (nodeTo a st g s).fire.silenced = s.fire.silenced := by
  simp [nodeTo, nodeReaders, coolNode]
@[simp] theorem nodeTo_fire_sounder (a : Nat) (st : NodeState) (g : NodeLive → NodeLive) (s : State) : (nodeTo a st g s).fire.sounder = s.fire.sounder := by
  simp [nodeTo, nodeReaders, coolNode]
@[simp] theorem nodeTo_fire_sounderSince (a : Nat) (st : NodeState) (g : NodeLive → NodeLive) (s : State) : (nodeTo a st g s).fire.sounderSince = s.fire.sounderSince := by
  simp [nodeTo, nodeReaders, coolNode]
@[simp] theorem nodeTo_fire_picture (a : Nat) (st : NodeState) (g : NodeLive → NodeLive) (s : State) : (nodeTo a st g s).fire.picture = s.fire.picture := by
  simp [nodeTo, nodeReaders, coolNode]

end Sys2Proof.Machine
end

