-- ==== Sys2Proof/Laws/Outcomes.lean ====
section
/-! SUPPORT. What can come of a wait at the end of a frame that is no reply (R10), and of the sequencer's record at a change of its state and at the weld check
(R143, R151). -/

namespace Sys2Proof.Machine

/-! ## A frame that is no reply (R10, R11) -/

theorem noneHeld_iff (s : State) (limit : Nat) : noneHeld s limit ↔ frameHeld s.ring limit = false := by
  have h : noneHeld s limit ↔ (∀ t1, s.ring.portA.rx.syncAt = some t1 → limit < t1) ∧ ∀ t1, s.ring.portB.rx.syncAt = some t1 → limit < t1 :=
    ⟨fun h => ⟨fun t1 e => h _ t1 (.inl rfl) e, fun t1 e => h _ t1 (.inr rfl) e⟩, fun h x t1 hx e => by
      rcases hx with rfl | rfl
      · exact h.1 t1 e
      · exact h.2 t1 e⟩
  rw [h, frameHeld]
  cases ea : s.ring.portA.rx.syncAt <;> cases eb : s.ring.portB.rx.syncAt <;> simp [ea, eb]

theorem slotReady_iff (side) (s : State) : slotReady s side = false ↔ slotElsewhere s side := by
  unfold slotReady slotElsewhere
  cases h : s.ring.slot <;> simp [joined]
theorem headReady_iff (side) (s : State) : headReady s side = false ↔ queueElsewhere s side := by
  unfold headReady queueElsewhere
  cases h : s.ring.downQueue <;> simp [joined, headRefused] <;> tauto

theorem nextPoll_pollsNext (side) (s : State) : pollsNext side s (nextPoll side s) := by
  refine ⟨fun a r h => ?_, fun h => ?_⟩
  · simp only [nextPoll, h, firstPort, joined]
    by_cases h0 : s.ring.splitEff = 0 <;> simp [h0, State.onRing]
  · simp [nextPoll, h, setPhase, State.onRing]

/-- An opportunity that arises in a round (R21). -/
theorem opportunity_arises (side) (s : State) : opportunityArises side s (opportunity side s) := by
  refine ⟨fun h1 h2 => ?_, fun h => ?_⟩
  · rw [← slotReady_iff] at h1; rw [← headReady_iff] at h2
    simp only [opportunity, h1, h2]; exact nextPoll_pollsNext side s
  · rw [← slotReady_iff, ← headReady_iff] at h
    have : (slotReady s side || headReady s side) = true := by
      cases h1 : slotReady s side <;> cases h2 : headReady s side <;> simp_all
    simp [opportunity, this, setPhase, State.onRing]

/-- A sequence that has taken up what concerned node `a` goes on at an opportunity (R21). -/
theorem opportunity_goesOn (side a r) (s u : State) (hl : ∀ c, c ≠ a → liveOf u c = liveOf s c)
    (hr : u.ring = { r with nodes := u.ring.nodes, slot := u.ring.slot, broken := u.ring.broken })
    (hm : u.mgmt.ringTables = s.mgmt.ringTables) (hn : u.now = s.now) : goesOn side a r s (opportunity side u) :=
  ⟨u, opportunity_arises side u, hl, by simp only [liveOf, (opportunity_frame side u).2.1], hr, hm, hn⟩

theorem liveIn_setLive_ne (a c : Nat) (f) (r : Ring) (h : c ≠ a) : liveIn (setLive a f r).nodes c = liveIn r.nodes c := by
  cases c with
  | zero => rfl
  | succ n =>
    cases a with
    | zero => rfl
    | succ k => simp [liveIn, setLive, List.getD, show k ≠ n from fun e => h (by rw [e])]

/-- What a node's change of state leaves of the ring, of the other nodes and of the tables (R6). -/
theorem nodeTo_frame (a st f) (s : State) :
    (nodeTo a st f s).ring = { s.ring with nodes := (nodeTo a st f s).ring.nodes, slot := (nodeTo a st f s).ring.slot,
                                           broken := (nodeTo a st f s).ring.broken } ∧
    (∀ c, c ≠ a → liveOf (nodeTo a st f s) c = liveOf s c) ∧ (nodeTo a st f s).mgmt.ringTables = s.mgmt.ringTables := by
  refine ⟨?_, ?_, ?_⟩
  · have h : ∀ {x y z : Ring}, x = { y with slot := x.slot } → y = { z with nodes := y.nodes, broken := y.broken } →
        x = { z with nodes := x.nodes, slot := x.slot, broken := x.broken } := by
      intro x y z h1 h2; rw [h1, h2]
    refine h (nodeReaders_ring _ _ _) ?_
    cases a <;> simp [ringBrokenEval, setLive]
  · intro c hc; simp only [liveOf, nodeTo_nodes]; exact liveIn_setLive_ne _ _ _ _ hc
  · rw [nodeTo_latch]

/-- What a missed poll leaves. -/
theorem pollMissed_frame (a) (s : State) :
    (pollMissed a s).ring = { s.ring with nodes := (pollMissed a s).ring.nodes, slot := (pollMissed a s).ring.slot,
                                          broken := (pollMissed a s).ring.broken } ∧
    (∀ c, c ≠ a → liveOf (pollMissed a s) c = liveOf s c) ∧ (pollMissed a s).mgmt.ringTables = s.mgmt.ringTables := by
  have h0 : ∀ f, (setLive a f s.ring) = { s.ring with nodes := (setLive a f s.ring).nodes } := by intro f; cases a <;> rfl
  have hn : ∀ f c, c ≠ a → liveOf (s.onRing (setLive a f)) c = liveOf s c := fun f c hc => liveIn_setLive_ne _ _ _ _ hc
  simp only [pollMissed]; split_ifs
  · obtain ⟨h1, h2, h3⟩ := nodeTo_frame a .silent id (s.onRing (setLive a fun l => { l with missed := min 3 ((liveOf s a).missed + 1) }))
    exact ⟨by rw [h1, State.onRing_ring, h0], fun c hc => (h2 c hc).trans (hn _ c hc), h3⟩
  · exact ⟨by rw [State.onRing_ring, h0], hn _, rfl⟩

/-- A missed poll (R11). -/
theorem pollMissed_counts (a) (s : State) (ha : hasEntry s a) :
    (liveOf (pollMissed a s) a).missed = min 3 ((liveOf s a).missed + 1) ∧ (liveOf (pollMissed a s) a).side = (liveOf s a).side ∧
    (liveOf (pollMissed a s) a).state = (if (liveOf s a).state = .inService ∧ 2 ≤ (liveOf s a).missed then .silent else (liveOf s a).state) ∧
    (∀ o, seqOf (pollMissed a s).ring o = seqOf s.ring o) ∧
    (pollMissed a s).loop = s.loop ∧ (pollMissed a s).store = s.store ∧ (pollMissed a s).cell = s.cell ∧ (pollMissed a s).now = s.now ∧
    (pollMissed a s).pending = s.pending := by
  have hl : ∀ g, liveIn (setLive a g s.ring).nodes a = g (liveOf s a) := fun g => liveIn_setLive _ _ _ ha.1 ha.2
  by_cases h : (liveOf s a).state = .inService ∧ min 3 ((liveOf s a).missed + 1) = 3
  · have e : pollMissed a s = nodeTo a .silent id (s.onRing (setLive a fun l => { l with missed := min 3 ((liveOf s a).missed + 1) })) := if_pos h
    have h2 : (liveOf s a).state = .inService ∧ 2 ≤ (liveOf s a).missed := ⟨h.1, by omega⟩
    have hl2 : liveOf (pollMissed a s) a = { liveOf s a with missed := min 3 ((liveOf s a).missed + 1), state := .silent } := by
      rw [e]; show liveIn _ a = _
      rw [nodeTo_nodes, State.onRing_ring, liveIn_setLive _ _ _ ha.1 (by rw [setLive_len]; exact ha.2), hl]; rfl
    refine ⟨by rw [hl2], by rw [hl2], by rw [hl2, if_pos h2], ?_, ?_⟩
    · intro o; rw [e, nodeTo_seqOf]; simp [seqOf_setLive]
    · rw [e]; simp
  · have e : pollMissed a s = s.onRing (setLive a fun l => { l with missed := min 3 ((liveOf s a).missed + 1) }) := if_neg h
    have h2 : ¬((liveOf s a).state = .inService ∧ 2 ≤ (liveOf s a).missed) := by intro hc; exact h ⟨hc.1, by omega⟩
    have hl2 : liveOf (pollMissed a s) a = { liveOf s a with missed := min 3 ((liveOf s a).missed + 1) } := by
      rw [e]; show liveIn _ a = _
      rw [State.onRing_ring, hl]
    refine ⟨by rw [hl2], by rw [hl2], by rw [hl2, if_neg h2], ?_, ?_⟩
    · intro o; rw [e]; simp [seqOf_setLive]
    · rw [e]; simp

/-- An unanswered attempt (R10, R11, R15). -/
theorem attemptFailed_ends (side a q second) (s : State) : attemptEnds side a q second s (attemptFailed side a q second s) := by
  refine ⟨?_, ?_⟩
  · intro h1 h2
    subst h2
    simp only [attemptFailed, joined, h1]
    cases q <;> rfl
  · intro h1 ha
    have : (joined s.ring && !second) = false := by
      rcases h1 with h | h <;> simp [joined, h]
    simp only [attemptFailed, this, Bool.false_eq_true, if_false]
    obtain ⟨f1, f2, f3⟩ := opportunity_frame side (pollMissed a s)
    obtain ⟨g1, g2, g3, g4, g5, g6, g7, g8, g9⟩ := pollMissed_counts a s ha
    have hlv : liveOf (opportunity side (pollMissed a s)) a = liveOf (pollMissed a s) a := by simp only [liveOf, f2]
    obtain ⟨k1, k2, k3⟩ := pollMissed_frame a s
    refine ⟨by rw [hlv, g1], by rw [hlv, g2], by rw [hlv, g3], opportunity_goesOn _ _ _ _ _ k2 k1 k3 g8, (f3 side).1 rfl, ?_, ?_, ?_, ?_, ?_, ?_⟩
    · intro o ho; rw [(f3 o).2 ho, g4]
    all_goals (rw [f1]; assumption)

theorem lapseSide_lapses (t0 side) (s : State) : sideLapses t0 side s (lapseSide t0 s side) := by
  refine ⟨?_, ?_⟩
  · intro h; simp [lapseSide, h]
  · intro a q second since h
    refine ⟨?_, ?_⟩
    · intro h1 h2 h3
      rw [noneHeld_iff] at h3
      have : lapseSide t0 s side = attemptFailed side a q second s := by
        simp [lapseSide, h, waitOver, ran, replyTime, Config.ms, h1, h2, h3]
      rw [this]; exact attemptFailed_ends _ _ _ _ _
    · intro h1
      rw [noneHeld_iff] at h1
      have hc : (waitOver s since && decide (t0 ≤ since + replyTime)) = false := by
        have e : since + replyTime = since + 2000 := rfl
        have e2 : ran since replyTime s.now = decide (since + 2000 ≤ s.now) := rfl
        simp only [waitOver, e, e2]
        rcases h1 with h1 | h1 | h1
        · simp [Nat.not_le.mpr h1]
        · simp [Nat.not_le.mpr h1]
        · simp [h1]
      simp only [lapseSide, h, hc, Bool.false_eq_true, if_false]

/-- What the end of a frame that is no reply does to the waits of both sides (R10). -/
theorem waitLapse_lapses (t0) (s : State) : lapses t0 s (waitLapse t0 s) := ⟨_, lapseSide_lapses _ _ _, lapseSide_lapses _ _ _⟩

/-! ## The record of the sequencer at a change of its state (R143) -/

theorem blindEval_seqr (s : State) : (blindEval s).seqr = { s.seqr with
    blind := (blindEval s).seqr.blind, blindSince := (blindEval s).seqr.blindSince, stages := (blindEval s).seqr.stages,
    rocofRun := (blindEval s).seqr.rocofRun } := by
  simp only [blindEval]; split_ifs <;> simp [blindOnset, blindEnd, State.onSeqr]
theorem strayStart_seqr (c) (s : State) : (strayStart c s).seqr = { s.seqr with stray := (strayStart c s).seqr.stray } := by
  simp [strayStart, State.onSeqr]
/-- What a change of state leaves in the record, but for metering blind, the stage timers and the stray trip. -/
theorem seqTo_seqr (st) (s : State) : (seqTo st s).seqr = { seqEnter st s.now s.seqr with
    blind := (seqTo st s).seqr.blind, blindSince := (seqTo st s).seqr.blindSince, stages := (seqTo st s).seqr.stages,
    rocofRun := (seqTo st s).seqr.rocofRun, stray := (seqTo st s).seqr.stray } := by
  simp only [seqTo]
  split_ifs <;> (try rw [strayStart_seqr]) <;> simp only [refreshLines_seqr, endContactorForces_seqr] <;> rw [blindEval_seqr] <;>
    simp [State.onSeqr, seqEnter]
@[simp] theorem seqTo_state (st) (s : State) : (seqTo st s).seqr.state = st := by rw [seqTo_seqr]; rfl
@[simp] theorem seqTo_trip (st) (s : State) : (seqTo st s).seqr.trip = if st = .tripping then s.seqr.trip else none := by rw [seqTo_seqr]; rfl
@[simp] theorem seqTo_stepSince (st) (s : State) : (seqTo st s).seqr.stepSince = if timed st then some s.now else none := by rw [seqTo_seqr]; rfl
@[simp] theorem seqTo_closePulse (st) (s : State) : (seqTo st s).seqr.closePulse = (st == .closing) := by rw [seqTo_seqr]; rfl
@[simp] theorem seqTo_connectedSince (st) (s : State) : (seqTo st s).seqr.connectedSince = if st = .connected then some s.now else none := by rw [seqTo_seqr]; rfl
@[simp] theorem seqTo_reclose (st) (s : State) : (seqTo st s).seqr.reclose = if st = .open_ ∨ st = .lockedOut then 0 else s.seqr.reclose := by rw [seqTo_seqr]; rfl
@[simp] theorem seqTo_reason (st) (s : State) : (seqTo st s).seqr.reason = s.seqr.reason := by rw [seqTo_seqr]; rfl
@[simp] theorem seqTo_pendingLockout (st) (s : State) : (seqTo st s).seqr.pendingLockout = if st = .lockedOut then none else s.seqr.pendingLockout := by rw [seqTo_seqr]; rfl

/-! ## The weld check (R151) -/

/-- A met weld check ends the opening. -/
theorem openingTest_ends (s : State) (h1 : s.seqr.state = .opening) (h2 : s.seqr.discharged = true) (h3 : inputReads s .contPosAux = some false)
    (h4 : inputReads s .contNegAux = some false) : openingEnds s (openingTest s) := by
  have hb : 2 ≤ s.fire.state.code ↔ (s.fire.state = .alarm ∨ s.fire.state = .releasePending ∨ s.fire.state = .released) := by
    cases s.fire.state <;> simp [FireState.code]
  have hlk : ∀ r, (lockOut r s).seqr.state = .lockedOut ∧ (lockOut r s).seqr.reason = r ∧ (lockOut r s).mgmt = handLatch true r s.mgmt ∧
      (lockOut r s).seqr.stepSince = none ∧ (lockOut r s).seqr.reclose = 0 := by
    intro r; simp [lockOut, timed, State.onMgmt, State.onSeqr]
  have e : openingTest s = match s.seqr.pendingLockout with
    | some r => lockOut r s
    | none => if 2 ≤ s.fire.state.code then lockOut .fire s else seqTo .open_ s := by
    refine (if_pos ⟨h1, h2, h3, h4⟩).trans ?_; cases s.seqr.pendingLockout <;> rfl
  rw [e]
  cases hp : s.seqr.pendingLockout with
  | some r =>
    obtain ⟨a1, a2, a3, a4, a5⟩ := hlk r
    simp [openingEnds, hp, a1, a2, a3, a4, a5]
  | none =>
    by_cases hf : 2 ≤ s.fire.state.code
    · obtain ⟨a1, a2, a3, a4, a5⟩ := hlk .fire
      simp only [hf, if_true]
      have := hb.mp hf
      simp [openingEnds, hp, a1, a2, a3, a4, a5, this]
    · simp only [hf, if_false]
      have : ¬(s.fire.state = .alarm ∨ s.fire.state = .releasePending ∨ s.fire.state = .released) := fun h => hf (hb.mpr h)
      simp [openingEnds, hp, timed, this]

theorem openingTest_stays (s : State) (h : ¬(s.seqr.state = .opening ∧ s.seqr.discharged = true ∧ inputReads s .contPosAux = some false ∧
    inputReads s .contNegAux = some false)) : openingTest s = s := by
  simp only [openingTest]; rw [if_neg h]

end Sys2Proof.Machine
end

