-- ==== Sys2Proof/Laws/Replies.lean ====
section
/-! SUPPORT. What a reply leaves of the ring and the tables, so that its sequence can go on (R10, R11, R16, R18, R21). -/

namespace Sys2Proof.Machine

/-- `u` is `s` but for the live fields of node `a`, the slot and the ring-broken flag, as far as the ring and the tables go. -/
def ringKept (a : Nat) (s u : State) : Prop :=
  u.ring = { s.ring with nodes := u.ring.nodes, slot := u.ring.slot, broken := u.ring.broken } ∧
    (∀ c, c ≠ a → liveOf u c = liveOf s c) ∧ u.mgmt.ringTables = s.mgmt.ringTables ∧ u.now = s.now

theorem ringKept_trans {a} {s u v : State} (h1 : ringKept a s u) (h2 : ringKept a u v) : ringKept a s v :=
  ⟨by rw [h2.1, h1.1], fun c hc => (h2.2.1 c hc).trans (h1.2.1 c hc), h2.2.2.1.trans h1.2.2.1, h2.2.2.2.trans h1.2.2.2⟩
theorem ringKept_same {a} {s u : State} (h1 : u.ring = { s.ring with slot := u.ring.slot }) (h2 : u.mgmt.ringTables = s.mgmt.ringTables)
    (h3 : u.now = s.now) : ringKept a s u :=
  ⟨by rw [h1], fun c _ => by simp only [liveOf]; rw [h1], h2, h3⟩
theorem ringKept_setLive (a f) (s : State) : ringKept a s (s.onRing (setLive a f)) :=
  ⟨by cases a <;> rfl, fun c hc => liveIn_setLive_ne _ _ _ _ hc, rfl, rfl⟩
theorem ringKept_nodeTo (a st f) (s : State) : ringKept a s (nodeTo a st f s) :=
  ⟨(nodeTo_frame a st f s).1, (nodeTo_frame a st f s).2.1, (nodeTo_frame a st f s).2.2, nodeTo_now _ _ _ _⟩

/-- A sample handed to its owner (R18). -/
theorem ringKept_deliver (a x) (s : State) : ringKept a s (deliver a x s) := by
  cases x with
  | mod d =>
    have h := changeRec_frame a (recSample (cfgOf s a) (profileOf s a) d) s
    refine ringKept_same ?_ ?_ ?_ <;> simp only [deliver, moduleSample] <;> rw [h]
  | cool d =>
    simp only [deliver, coolantSample]
    split
    · exact ringKept_same rfl rfl rfl
    · rename_i z _
      have hf : ∀ z fl (s : State), flowTest z fl s = { s with cool := (flowTest z fl s).cool } := by
        intro z fl s; unfold flowTest; split <;> rfl
      refine ringKept_same ?_ ?_ ?_
      · rw [coolSettle_ring, hf]; rfl
      · rw [coolSettle_latch, hf]; rfl
      · rw [coolSettle_now, hf]; rfl
  | meter d =>
    refine ringKept_same (meterSample_ring d s) ?_ ?_
    · have : ∀ b (t : State), (auxTo b t).mgmt.ringTables = t.mgmt.ringTables := by
        intro b t; unfold auxTo; split
        · rfl
        · rw [reformAll_latch]; rfl
      simp only [deliver, meterSample]; rw [this]; simp
    · simp [deliver]
  | conv d =>
    refine ringKept_same ?_ ?_ ?_ <;> simp only [deliver]
    · have h1 : ∀ (t : State), (converterState d.state t).ring = { t.ring with slot := (converterState d.state t).ring.slot } := by
        intro t; simp only [converterState]; split_ifs
        · rfl
        · rw [reissueCheck_ring]; simp
        · simp
      have h2 : (converterSample d s).ring = { s.ring with slot := (converterSample d s).ring.slot } := by
        simp only [converterSample, seqEnterTested, openingTest]
        split_ifs <;> (try rfl) <;> (split <;> (try split_ifs) <;> first | (rw [takeBay_ring, seqTo_ring]; rfl) | (rw [lockOut_ring]; rfl) | (rw [seqTo_ring]; rfl))
      rw [h1, h2]
    · have h1 : ∀ (t : State), (converterState d.state t).mgmt.ringTables = t.mgmt.ringTables := by
        intro t; simp only [converterState]; split_ifs <;> simp
      have h3 : ∀ r (t : State), (lockOut r t).mgmt.ringTables = t.mgmt.ringTables := by intro r t; rw [lockOut_latch]
      have h4 : ∀ c (t : State), (takeBay c t).mgmt.ringTables = t.mgmt.ringTables := by intro c t; rw [takeBay_latch]
      rw [h1]
      simp only [converterSample, seqEnterTested, openingTest]
      split_ifs <;> (try rfl) <;> (split <;> (try split_ifs) <;> simp [h3, h4])
    · simp only [converterState, converterSample]; split_ifs <;> simp

/-- The payload of a reply (R18). -/
theorem ringKept_reply (a f) (s : State) : ringKept a s (replyPayload a f s) := by
  unfold replyPayload
  split
  · rename_i x _
    have ho : ∀ (s : State), ringKept a s (offer a x f s) := by
      intro s; have h := offer_frame a x f s; refine ringKept_same ?_ ?_ ?_ <;> rw [h]
    simp only [wellFormedReply]
    refine ringKept_trans (ringKept_trans (ringKept_setLive a (fun l => { l with malformed := false }) s) ?_) (ringKept_trans (ringKept_deliver a x _) (ho _))
    split_ifs
    · exact ringKept_nodeTo _ _ _ _
    · exact ringKept_same rfl rfl rfl
  · simp only [malformedReply]
    refine ringKept_trans (ringKept_setLive a (fun l => { l with malformed := true, malformedCount := satInc l.malformedCount }) s)
      (ringKept_same ?_ ?_ ?_) <;> simp

/-- An answered attempt (R11). -/
theorem ringKept_answered (a p) (s : State) : ringKept a s (attemptAnswered a p s) := by
  simp only [attemptAnswered]
  refine ringKept_trans (ringKept_setLive a (fun l => { l with missed := 0, side := if joined s.ring then p else l.side }) s) ?_
  refine ⟨?_, fun c hc => ?_, ?_, ?_⟩ <;> simp [ringBrokenEval, liveOf]

/-- A restart of a node (R17). -/
theorem ringKept_restarted (a) (s : State) : ringKept a s (nodeRestarted a s) := by
  simp only [nodeRestarted]; split_ifs
  · refine ringKept_same ?_ ?_ ?_ <;> simp only [moduleRestart] <;> (rw [changeRec_frame]; simp)
  · refine ringKept_same ?_ ?_ ?_ <;> simp

end Sys2Proof.Machine
end

