-- ==== Sys2Proof/Laws/Zones.lean ====
section
/-! SUPPORT. What an evaluation of the zones leaves: their detection blind (R125), their cooling states, and the bay cooling state as the sequencer's cause COOLING
(R99, R100, R148). -/

namespace Sys2Proof.Machine

/-! ## Detection blind (R125) -/

theorem zoneHasModule_iff (s : State) (z) : zoneHasModule s z = true ↔ moduleServes s z := by
  simp only [zoneHasModule, moduleCount, decide_eq_true_eq, List.length_pos_iff_exists_mem, List.mem_filter, moduleServes, hasEntry]
  constructor
  · rintro ⟨x, hx, hp⟩
    obtain ⟨i, hi, rfl⟩ := List.getElem_of_mem hx
    simp only [List.length_zip] at hi
    simp only [List.getElem_zip, Bool.and_eq_true, beq_iff_eq] at hp
    refine ⟨i + 1, ⟨by omega, by omega⟩, ?_⟩
    have h1 : cfgOf s (i + 1) = s.mgmt.ringTables.nodes[i] := by
      simp [cfgOf, cfgIn, List.getD, List.getElem?_eq_getElem (show i < s.mgmt.ringTables.nodes.length by omega)]
    have h2 : liveOf s (i + 1) = s.ring.nodes[i] := by
      simp [liveOf, liveIn, List.getD, List.getElem?_eq_getElem (show i < s.ring.nodes.length by omega)]
    rw [h1, h2]; exact ⟨hp.1.1, hp.1.2, hp.2⟩
  · rintro ⟨a, ⟨h1, h2⟩, h3, h4, h5⟩
    obtain ⟨k, rfl⟩ : ∃ k, a = k + 1 := ⟨a - 1, by omega⟩
    have hk : k < s.ring.nodes.length := by omega
    have hk2 : k < s.mgmt.ringTables.nodes.length := by
      by_contra hc
      have : (cfgOf s (k + 1)).role = .unused := by
        simp [cfgOf, cfgIn, List.getD, List.getElem?_eq_none (show s.mgmt.ringTables.nodes.length ≤ k by omega), defaultNode]
      rw [this] at h3; cases h3
    have e1 : cfgOf s (k + 1) = s.mgmt.ringTables.nodes[k] := by
      simp [cfgOf, cfgIn, List.getD, List.getElem?_eq_getElem hk2]
    have e2 : liveOf s (k + 1) = s.ring.nodes[k] := by
      simp [liveOf, liveIn, List.getD, List.getElem?_eq_getElem hk]
    rw [e1] at h3 h4; rw [e2] at h5
    refine ⟨(s.mgmt.ringTables.nodes[k], s.ring.nodes[k]), ?_, by simp [h3, h4, h5]⟩
    have : (s.mgmt.ringTables.nodes.zip s.ring.nodes)[k]'(by simp; omega) = (s.mgmt.ringTables.nodes[k], s.ring.nodes[k]) := by simp
    rw [← this]; exact List.getElem_mem _

theorem detBlindNow_iff (s : State) (z) : detBlindNow s z = true ↔ moduleServes s z ∧
    ¬∃ d, (detCfg s d).zone = z ∧ (detIn s d .normal ∨ detIn s d .preAlarm ∨ detIn s d .alarm) := by
  simp only [detBlindNow, Bool.and_eq_true, zoneHasModule_iff, Bool.not_eq_true', List.any_eq_false, List.mem_range, watches, DetCfg.supervised,
    detIn, Bool.or_eq_true, beq_iff_eq, bne_iff_ne, not_exists]
  refine and_congr_right fun _ => forall_congr' fun d => ?_
  tauto

theorem detBlindNow_congr {s t : State} (h1 : t.ring.nodes = s.ring.nodes) (h2 : t.mgmt.ringTables = s.mgmt.ringTables)
    (h3 : t.mgmt.loopTables = s.mgmt.loopTables) (h4 : t.fire.dets = s.fire.dets) (z) : detBlindNow t z = detBlindNow s z := by
  have hw : watches t z = watches s z := by funext d; simp only [watches, detLive, detCfg, h3, h4]
  have hm : zoneHasModule t z = zoneHasModule s z := by
    unfold zoneHasModule moduleCount; rw [h1, h2]
  simp only [detBlindNow, hw, hm]

theorem blindsCurrent_congr {s t : State} (h1 : t.ring.nodes = s.ring.nodes) (h2 : t.mgmt.ringTables = s.mgmt.ringTables)
    (h3 : t.mgmt.loopTables = s.mgmt.loopTables) (h4 : t.fire.dets = s.fire.dets) (h5 : t.fire.blind = s.fire.blind)
    (h : blindsCurrent s) : blindsCurrent t := by
  intro z hz hl
  rw [← detBlindNow_iff, detBlindNow_congr h1 h2 h3 h4, h5, detBlindNow_iff]
  exact h z hz (by rwa [h5] at hl)

/-- The flags once every zone has been evaluated. -/
theorem detBlindEval_blind (s : State) : (detBlindEval s).fire.blind =
    (((s.fire.blind.set 0 (detBlindNow s 0)).set 1 (detBlindNow s 1)).set 2 (detBlindNow s 2)).set 3 (detBlindNow s 3) := by
  have h : ∀ z (t : State) y, detBlindNow (detBlindZone t z) y = detBlindNow t y := by
    intro z t y; apply detBlindNow_congr <;> simp [detBlindZone]
  have hb : ∀ z (t : State), (detBlindZone t z).fire.blind = t.fire.blind.set z (detBlindNow t z) := by
    intro z t; simp [detBlindZone]
  simp only [detBlindEval, refreshLines_fire, show List.range 4 = [0, 1, 2, 3] from rfl, List.foldl_cons, List.foldl_nil, hb, h]

/-- Every zone's flag stands as R125 has it once the zones have been evaluated. -/
theorem detBlindEval_current (s : State) : blindsCurrent (detBlindEval s) := by
  intro z hz hl
  have hN : detBlindNow (detBlindEval s) z = detBlindNow s z := by apply detBlindNow_congr <;> simp
  rw [← detBlindNow_iff, hN, detBlindEval_blind]
  rw [detBlindEval_blind] at hl; simp only [List.length_set] at hl
  have : z = 0 ∨ z = 1 ∨ z = 2 ∨ z = 3 := by omega
  rcases this with rfl | rfl | rfl | rfl <;> simp [List.getD, List.getElem?_set, hl]

/-! ## Zone and bay cooling states (R99, R100) -/

/-- What the state of a zone is made of, and the zone's own record but for that state. -/
structure ZoneAlike (z : Nat) (s t : State) : Prop where
  nodes : t.ring.nodes = s.ring.nodes
  tables : t.mgmt.ringTables = s.mgmt.ringTables
  pumps : t.cool.pumps = s.cool.pumps
  outs : t.cool.outs = s.cool.outs
  zone : zoneLive t z = { zoneLive s z with state := (zoneLive t z).state }

/-- The outlet in use (R84). -/
theorem outletReaches_iff (s : State) (z) (l : Int) :
    outletReaches s z l ↔ (match outletInUse s z with | some t => decide (l ≤ t) | none => false) = true := by
  unfold outletReaches outletInUse effInService effNode
  cases h : (zoneCfg s.mgmt.ringTables.cooling z).node with
  | none => simp
  | some a =>
    by_cases h1 : (cfgOf s a).role = .cool ∧ (cfgOf s a).zone = z
    · by_cases h2 : (liveOf s a).state = .inService
      · cases h3 : (zoneLive s z).outlet <;> simp [h1, h2]
      · simp [h1, h2]
    · simp only [h1, if_false]
      refine ⟨fun ⟨b, v, hb, hr, hz, _⟩ => absurd ⟨by rw [Option.some.inj hb]; exact hr, by rw [Option.some.inj hb]; exact hz⟩ h1, fun h => by simp at h⟩

/-- The table of R99 is what the state of a zone is computed by. -/
theorem zoneStands_iff (s : State) (z) : zoneStands s z ↔ (zoneLive s z).state = zoneStateOf s z := by
  have hA : (∃ p, (zoneCfg s.mgmt.ringTables.cooling z).pump = some p ∧ (pumpLive s p).state = .locked) ↔
      ((match (zoneCfg s.mgmt.ringTables.cooling z).pump with | some p => some (pumpLive s p).state | none => none) == some .locked) = true := by
    cases (zoneCfg s.mgmt.ringTables.cooling z).pump <;> simp
  have hB : (∃ p, (zoneCfg s.mgmt.ringTables.cooling z).pump = some p ∧ (pumpLive s p).state = .restartWait) ↔
      ((match (zoneCfg s.mgmt.ringTables.cooling z).pump with | some p => some (pumpLive s p).state | none => none) == some .restartWait) = true := by
    cases (zoneCfg s.mgmt.ringTables.cooling z).pump <;> simp
  have hC : ((∃ p, (zoneCfg s.mgmt.ringTables.cooling z).pump = some p ∧ 0 < (outLive s p).applied) ∨
      ((zoneCfg s.mgmt.ringTables.cooling z).pump = none ∧ ∃ f ∈ (zoneCfg s.mgmt.ringTables.cooling z).fans, 0 < (outLive s (4 + f)).applied)) ↔
      (match (zoneCfg s.mgmt.ringTables.cooling z).pump with
        | some p => decide (0 < (outLive s p).applied)
        | none => (zoneCfg s.mgmt.ringTables.cooling z).fans.any fun f => decide (0 < (outLive s (4 + f)).applied)) = true := by
    cases (zoneCfg s.mgmt.ringTables.cooling z).pump <;> simp
  have key : ∀ (f d r : Bool) (x : CoolState), ((f = true → x = .failed) ∧ (¬f = true → d = true → x = .degraded) ∧
      (¬f = true → ¬d = true → r = true → x = .running) ∧ (¬f = true → ¬d = true → ¬r = true → x = .idle)) ↔
      x = if f = true then .failed else if d = true then .degraded else if r = true then .running else .idle := by
    intro f d r x; cases f <;> cases d <;> cases r <;> simp
  simp only [zoneStands, hA, hB, hC, outletReaches_iff, ← Bool.or_eq_true, ← Bool.or_assoc]
  exact key _ _ _ _

theorem zoneStateOf_congr {z : Nat} {s t : State} (h : ZoneAlike z s t) : zoneStateOf t z = zoneStateOf s z := by
  have hp : ∀ p, pumpLive t p = pumpLive s p := fun p => by simp only [pumpLive, h.pumps]
  have ho : ∀ o, outLive t o = outLive s o := fun p => by simp only [outLive, h.outs]
  have he : effInService t z = effInService s z := by simp only [effInService, effNode, cfgOf, liveOf, h.tables, h.nodes]; rfl
  have hu : outletInUse t z = outletInUse s z := by rw [outletInUse, outletInUse, he, h.zone]
  have h1 : (zoneLive t z).trip = (zoneLive s z).trip := by rw [h.zone]
  have h2 : (zoneLive t z).warn = (zoneLive s z).warn := by rw [h.zone]
  have h3 : (zoneLive t z).blind = (zoneLive s z).blind := by rw [h.zone]
  simp only [zoneStateOf, hu, h1, h2, h3, hp, ho, h.tables]

theorem zoneLive_zoneEval (z k : Nat) (s : State) (hk : k < s.cool.zones.length) :
    zoneLive (zoneEval z s) k = if k = z then { zoneLive s k with state := zoneStateOf s z } else zoneLive s k := by
  simp only [zoneEval, zoneLive, raiseIf_cool, State.onCool_cool, modZone, List.getD, List.getElem?_modify]
  by_cases h : k = z
  · subst h; simp [List.getElem?_eq_getElem hk]
  · simp [h, show ¬z = k from fun e => h e.symm]

theorem zoneAlike_refl (z) (s : State) : ZoneAlike z s s := ⟨rfl, rfl, rfl, rfl, rfl⟩
theorem zoneAlike_trans {z} {s t u : State} (a : ZoneAlike z s t) (b : ZoneAlike z t u) : ZoneAlike z s u :=
  ⟨b.nodes.trans a.nodes, b.tables.trans a.tables, b.pumps.trans a.pumps, b.outs.trans a.outs, by rw [b.zone, a.zone]⟩
theorem zoneAlike_eval (z k : Nat) (s : State) (hk : k < s.cool.zones.length) : ZoneAlike k s (zoneEval z s) := by
  refine ⟨by simp, by simp, by simp [zoneEval, modZone], by simp [zoneEval, modZone], ?_⟩
  rw [zoneLive_zoneEval z k s hk]; split_ifs <;> rfl

/-- A zone that is evaluated among four stands in its state, whatever stood before. -/
theorem zones_evaluated (c : Nat → Bool) (z : Nat) (s : State) (hz : z < 4) (hl : z < s.cool.zones.length) :
    let t := (List.range 4).foldl (fun x k => if c k then zoneEval k x else x) s
    ZoneAlike z s t ∧ (zoneLive t z).state = if c z then zoneStateOf s z else (zoneLive s z).state := by
  have hlen : ∀ k (x : State), (zoneEval k x).cool.zones.length = x.cool.zones.length := by intro k x; simp [zoneEval, modZone]
  have step : ∀ (k : Nat) (x : State), z < x.cool.zones.length → z < (if c k then zoneEval k x else x).cool.zones.length ∧
      ZoneAlike z x (if c k then zoneEval k x else x) ∧
      (zoneLive (if c k then zoneEval k x else x) z).state = if k = z ∧ c k = true then zoneStateOf x z else (zoneLive x z).state := by
    intro k x hx
    by_cases h : c k = true
    · simp only [h, if_true, hlen, and_true]
      refine ⟨hx, zoneAlike_eval _ _ _ hx, ?_⟩
      rw [zoneLive_zoneEval k z x hx]
      by_cases hk : k = z
      · simp [hk]
      · simp [hk, show ¬z = k from fun e => hk e.symm]
    · simp [h, hx, zoneAlike_refl]
  simp only [show List.range 4 = [0, 1, 2, 3] from rfl, List.foldl_cons, List.foldl_nil]
  obtain ⟨l0, a0, e0⟩ := step 0 s hl
  obtain ⟨l1, a1, e1⟩ := step 1 _ l0
  obtain ⟨l2, a2, e2⟩ := step 2 _ l1
  obtain ⟨l3, a3, e3⟩ := step 3 _ l2
  have b1 := zoneAlike_trans a0 a1
  have b2 := zoneAlike_trans b1 a2
  refine ⟨zoneAlike_trans b2 a3, ?_⟩
  rw [e3, e2, e1, e0, zoneStateOf_congr b2, zoneStateOf_congr b1, zoneStateOf_congr a0]
  have : z = 0 ∨ z = 1 ∨ z = 2 ∨ z = 3 := by omega
  rcases this with rfl | rfl | rfl | rfl <;> simp

theorem bayEval_cool (s : State) : (bayEval s).cool = { s.cool with bay := bayOf s.cool } := by
  simp only [bayEval]; split_ifs <;> simp [State.onCool]

theorem zoneAlike_stands {z : Nat} {s t : State} (h : ZoneAlike z s t) (e : (zoneLive t z).state = (zoneLive s z).state) :
    zoneStands t z ↔ zoneStands s z := by rw [zoneStands_iff, zoneStands_iff, e, zoneStateOf_congr h]

/-- A zone that an event touches, or that it names, stands in its state afterwards (R99). -/
theorem coolSettle_stands (old : State) (also : Nat → Bool) (s : State) (z : Nat) (hz : z < 4) (hl : z < s.cool.zones.length)
    (h : also z = true ∨ zoneTouched old (followPumps s) z = true) : zoneStands (coolSettle old also s) z := by
  have hl' : z < (followPumps s).cool.zones.length := hl
  obtain ⟨h1, h2⟩ := zones_evaluated (fun z => also z || zoneTouched old (followPumps s) z) z (followPumps s) hz hl'
  simp only [coolSettle]
  generalize hx : (List.range 4).foldl (fun x z => if also z || zoneTouched old (followPumps s) z then zoneEval z x else x) (followPumps s) = x at *
  have hf : zoneStands x z := by
    rw [zoneStands_iff, h2, zoneStateOf_congr h1]; simp [h]
  have hk : ZoneAlike z x (refreshLines (bayEval x)) := by
    refine ⟨?_, ?_, ?_, ?_, ?_⟩
    · simp only [refreshLines_ring]; rw [bayEval_ring]
    · simp only [refreshLines_mgmt]; rw [bayEval_latch]
    · simp only [refreshLines_cool]; rw [bayEval_cool]
    · simp only [refreshLines_cool]; rw [bayEval_cool]
    · simp only [zoneLive, refreshLines_cool]; rw [bayEval_cool]
  rw [zoneAlike_stands hk]
  · exact hf
  · simp only [zoneLive, refreshLines_cool]; rw [bayEval_cool]

/-- The worst of the counted zones (R100). -/
theorem bayOf_stands (s : State) (h : s.cool.bay = bayOf s.cool) : bayStands s := by
  have key : ∀ (l : List ZoneLive) (m : CoolState), l.foldl (fun m z => if z.counted then worse m z.state else m) m =
      if m = .failed ∨ (∃ x ∈ l, x.counted = true ∧ x.state = .failed) then .failed
      else if m = .degraded ∨ (∃ x ∈ l, x.counted = true ∧ x.state = .degraded) then .degraded
      else if m = .running ∨ (∃ x ∈ l, x.counted = true ∧ x.state = .running) then .running else .idle := by
    intro l
    induction l with
    | nil => intro m; cases m <;> simp
    | cons x r ih =>
      intro m
      rw [List.foldl_cons, ih]
      cases hc : x.counted <;> cases hs : x.state <;> cases m <;> simp [hc, hs, worse, CoolState.code]
  have e := key s.cool.zones .idle
  simp only [reduceCtorEq, false_or] at e
  simp only [bayStands, h]
  have e2 : bayOf s.cool = _ := e
  rw [e2]
  exact ⟨fun a => if_pos a, fun a b => (if_neg a).trans (if_pos b), fun a b c => (if_neg a).trans ((if_neg b).trans (if_pos c)),
    fun a b c => (if_neg a).trans ((if_neg b).trans (if_neg c))⟩

theorem setLimits_env (c d) (s : State) : (setLimits c d s).env = { s.env with chg := c, dis := d } := by
  simp only [setLimits]; split <;> simp [State.onEnv]
theorem seqTo_closes (st) (s : State) (h1 : s.seqr.state = .connected) (h2 : st ≠ .connected) :
    (seqTo st s).env.chg = 0 ∧ (seqTo st s).env.dis = 0 := by
  have e : (seqTo st s).env = (gateOnset 2 (raiseNotice (nSeqState st) (s.onSeqr (seqEnter st s.now)))).env := by
    simp only [seqTo, h1]
    simp only [ne_eq, h2, not_false_eq_true, and_self, if_true, false_and, if_false, not_true, and_false, reduceCtorEq]
    split_ifs <;> simp
  rw [e]; simp only [gateOnset, setLimits_env, and_self]

/-- A BAY-class cause other than FIRE (R148). -/
theorem takeBay_taken (c) (s : State) (hc : c ≠ .fire) : bayTaken c s (takeBay c s) := by
  have htr : ∀ cl k (x : State), (tripTo c cl k x).seqr.state = .tripping ∧ (tripTo c cl k x).seqr.trip = some ⟨c, cl, k⟩ ∧
      (tripTo c cl k x).seqr.stepSince = some x.now := by intro cl k x; simp [tripTo, timed, State.onSeqr]
  have hop : ∀ n (x : State), (seqTo .opening (raiseNotice n x)).seqr.state = .opening ∧
      (seqTo .opening (raiseNotice n x)).seqr.stepSince = some x.now := by intro n x; simp [timed]
  refine ⟨?_, ?_, ?_, ?_, ?_, ?_⟩
  · rintro (hs | hs) <;> simp only [takeBay, hs] <;> exact htr _ _ _
  · intro hs; simp only [takeBay, hs, tripTo]; exact seqTo_closes _ _ (by simpa [State.onSeqr] using hs) (by simp)
  · rintro (hs | hs | hs) <;> simp only [takeBay, hs] <;> exact hop _ _
  · intro c0 k hs ht; simp [takeBay, hs, ht, State.onSeqr]
  · intro hs ht
    rcases hq : s.seqr.trip with _ | ⟨c0, k, cont⟩
    · simp [takeBay, hs, hq]
    · cases cont
      · exact absurd hq (ht c0 k)
      · simp [takeBay, hs, hq]
  · rintro (hs | hs | hs) <;> simp [takeBay, hs, hc]

/-- What an event leaves of the bay cooling state and the sequencer (R100, R148). -/
theorem coolSettle_seen (old : State) (also : Nat → Bool) (s : State) : coolingSeen s (coolSettle old also s) := by
  simp only [coolSettle]
  have hx : (List.foldl (fun x z => if also z || zoneTouched old (followPumps s) z then zoneEval z x else x) (followPumps s) (List.range 4)).seqr = s.seqr := by
    rw [foldl_keeps State.seqr _ (fun b a => by split <;> simp)]; rfl
  have hn : (List.foldl (fun x z => if also z || zoneTouched old (followPumps s) z then zoneEval z x else x) (followPumps s) (List.range 4)).now = s.now := by
    rw [foldl_keeps State.now _ (fun b a => by split <;> simp)]; rfl
  have hb : (List.foldl (fun x z => if also z || zoneTouched old (followPumps s) z then zoneEval z x else x) (followPumps s) (List.range 4)).cool.bay = s.cool.bay := by
    rw [foldl_keeps (fun t : State => t.cool.bay) _ (fun b a => by split <;> simp [zoneEval, modZone])]; rfl
  generalize (List.foldl (fun x z => if also z || zoneTouched old (followPumps s) z then zoneEval z x else x) (followPumps s) (List.range 4)) = x at *
  have hc : (refreshLines (bayEval x)).cool = { x.cool with bay := bayOf x.cool } := by rw [refreshLines_cool, bayEval_cool]
  refine ⟨bayOf_stands _ ?_, ?_, ?_⟩
  · rw [hc]; rfl
  · intro h1 h2
    rw [hc] at h2; simp only at h2
    have e : (bayEval x) = takeBay .cooling (raiseIf (x.cool.bay != bayOf x.cool) (nBayCooling (bayOf x.cool)) (x.onCool fun c => { c with bay := bayOf x.cool })) := by
      simp only [bayEval]; exact if_pos ⟨by rw [hb]; exact h1, h2⟩
    have k := takeBay_taken .cooling (raiseIf (x.cool.bay != bayOf x.cool) (nBayCooling (bayOf x.cool)) (x.onCool fun c => { c with bay := bayOf x.cool })) (by simp)
    rw [← e] at k
    simp only [bayTaken, raiseIf_seqr, State.onCool_seqr, raiseIf_now, State.onCool_now, hx, hn] at k
    simp only [bayTaken, refreshLines_seqr, refreshLines_env]; exact k
  · intro h
    rw [hc] at h; simp only at h
    rw [refreshLines_seqr]
    simp only [bayEval]
    rw [if_neg (by rw [hb]; rintro ⟨h1, h2⟩; rcases h with h | h <;> contradiction)]
    simp [hx]

end Sys2Proof.Machine
end

