-- ==== Sys2Proof/WellFormed.lean ====
section
/-! DEFINITION. When the operands of a command are ones the line, the pins or the outputs can present: bounds of Table 12-1, section 11.1 and the
output and pump numbers. A command that is not well-formed stands for no event of the part. -/

namespace Sys2Proof

/-- Addresses and the sequence count take 6 bits of meaning (Table 12-1). -/
def sixBit (b : Byte) : Bool := decide (b.toNat < 64)

/-- A payload holds at most 56 bytes (Table 12-1). -/
def Frame.fits (f : Frame) : Bool := decide (f.payload.length ≤ 56)

/-- A frame whose header fields lie in the ranges of Table 12-1. -/
def Frame.wellFormed (f : Frame) : Bool := f.fits && sixBit f.dst && sixBit f.src && sixBit f.seq

/-- A request carries at most 54 bytes of arguments (section 11.1). -/
def Request.wellFormed (r : Request) : Bool := decide (r.args.length ≤ 54) && sixBit r.src

/-- The five header bytes after a sync byte, with a length field above 56 (R1, R168). -/
def longHeader (h : List Byte) : Bool := h.length == 5 && decide (56 < (h.getD 4 0).toNat)

/-- A PWM output is numbered 0 to 11, a pump output 0 to 3, any output 0 to 21 (Table 12-7). -/
def pwmOutput (o : Nat) : Bool := decide (o < 12)
def pumpOutput (p : Nat) : Bool := decide (p < 4)
def anyOutput (o : Nat) : Bool := decide (o < 22)

/-- The three period values (R93). -/
def period (n : Nat) : Bool := n == 250 || n == 500 || n == 1000

/-- Well-formedness of a command. -/
def Instr.wellFormed : Instr → Bool
  | .powerOn => true
  | .rstAssert => true
  | .rstRelease => true
  | .restartResetTaken => true
  | .startUp => true
  | .ringLengthError _ _ header => longHeader header
  | .ringFragmentTimeout _ _ => true
  | .ringFrameDiscarded _ _ frame _ => frame.fits
  | .sampleReceived _ _ frame => frame.wellFormed
  | .nodeRspReceived _ _ frame => frame.wellFormed
  | .setpointAckReceived _ _ frame => frame.wellFormed
  | .roundDue => true
  | .ringTxDone _ => true
  | .replyTimeout _ => true
  | .transmissionOpportunity _ => true
  | .responseWindowTimeout _ => true
  | .roundEnd => true
  | .excludeNode req => req.wellFormed
  | .readmitNode req => req.wellFormed
  | .setSplit req => req.wellFormed
  | .clearTrips req => req.wellFormed
  | .readModule req => req.wellFormed
  | .setpointReceived _ frame => frame.frame.wellFormed
  | .ackTimeout => true
  | .silenceExpiry => true
  | .pwmReferencePeriod n => period n
  | .pwmPeriodStart output => pwmOutput output
  | .pwmHighEnd output => pwmOutput output
  | .flowLossTimeout pump => pumpOutput pump
  | .restartWaitExpiry pump => pumpOutput pump
  | .faultFreeExpiry pump => pumpOutput pump
  | .clearPumpLock req => req.wellFormed
  | .readZone req => req.wellFormed
  | .loopRoundDue => true
  | .loopRoundStart => true
  | .loopByteDone _ _ => true
  | .loopLineStuck _ => true
  | .busRecoveryDone => true
  | .busCloseDone => true
  | .loopRun req => req.wellFormed
  | .holdExpiry => true
  | .loopAbort req => req.wellFormed
  | .countdownExpiry => true
  | .releasePulseExpiry => true
  | .sounderPhaseToggle => true
  | .fireReset req => req.wellFormed
  | .silence req => req.wellFormed
  | .readDetector req => req.wellFormed
  | .prechargeTimeout => true
  | .healthyWaitMet => true
  | .closePulseEnd => true
  | .closeTimeout => true
  | .connectedClockExpiry => true
  | .meterBlindLimit => true
  | .tripMinPulseExpiry => true
  | .tripTimeout => true
  | .openingTimeout => true
  | .connect req => req.wellFormed
  | .disconnect req => req.wellFormed
  | .releaseLockout req => req.wellFormed
  | .strayTripMinPulse => true
  | .strayTripTimeout => true
  | .inputRawChange _ _ => true
  | .debounceStable _ => true
  | .forceOutput req => req.wellFormed
  | .unforceAll req => req.wellFormed
  | .forceExpiry output => anyOutput output
  | .readbackTimeout _ => true
  | .framePortLengthError _ _ header => longHeader header
  | .framePortFragment _ _ => true
  | .stationFrameDiscarded _ frame _ => frame.frame.fits
  | .nodeCmdReceived _ frame => frame.frame.wellFormed
  | .unknownRequest _ req => req.wellFormed
  | .takeAuthority req => req.wellFormed
  | .releaseAuthority req => req.wellFormed
  | .serviceSilenceExpiry => true
  | .stationTxDone => true
  | .serviceTxDone => true
  | .setForward req => req.wellFormed
  | .setNoticeEnable req => req.wellFormed
  | .readStatus req => req.wellFormed
  | .readNode req => req.wellFormed
  | .readCounters req => req.wellFormed
  | .readTable req => req.wellFormed
  | .writeTable req => req.wellFormed
  | .save req => req.wellFormed
  | .imageWriteDone => true
  | .latchWriteDone => true
  | .restart req => req.wellFormed
  | .powerLoss => true

end Sys2Proof
end

