-- ==== Sys2Proof/Tests/Slice0.lean ====
section
/-! SUPPORT. Tests: the smoke test of WellFormed, worked examples of the manual, and for each statement with hypotheses a state and operands
that meet them, clause by clause, in the order of the statement. -/

namespace Sys2Proof.Tests

open Sys2Proof Sys2Proof.Machine

/-! The tests are kernel evaluations, one after another. -/
set_option Elab.async false

/-! ## Small states -/

/-- A frame of a ring node to the S48. -/
def fromNode (addr kind count : Byte) (payload : List Byte) : Frame := ⟨0, addr, kind, count, payload⟩

/-- A frame of the station, address 63, to a destination. -/
def fromStation (dst kind : Byte) (payload : List Byte) : Frame := ⟨dst, 63, kind, 5, payload⟩

/-- A request of the station, and one of the Service Port. -/
def rq (args : List Byte) : Request := ⟨.station, 1000000000, 63, 7, args⟩
def rqService (args : List Byte) : Request := ⟨.service, 1000000000, 63, 8, args⟩

/-- Four nodes: a MODULE with two cells and one temperature, a COOLANT, a METER and a CONVERTER. -/
def bayTables : RingTables :=
  { defaultRingTables with
    nodes := [⟨.mod, 0, 0, .a, 3, 1⟩, ⟨.cool, 0, 0, .a, 0, 0⟩, ⟨.meter, 0, 0, .a, 0, 0⟩, ⟨.conv, 0, 0, .b, 0, 0⟩] ++
      List.replicate 36 defaultNode
    poll := [1, 2, 3, 4]
    envelope := { defaultEnvelope with ratings := { defaultEnvelope.ratings with chgRated := 500, disRated := 600 } } }

/-- Two smoke detectors. -/
def bayLoopTables : LoopTables :=
  { defaultLoopTables with detectors := List.replicate 2 ⟨.smoke, 0, 0, 4, 2, 100, 200, 10, true⟩ ++ List.replicate 22 defaultDetector }

def openRingPort : RingPortState := ⟨openReceiver 0 closedReceiver, [], 0⟩
def inServiceNode (side : RingPort) : NodeLive := ⟨.inService, 0, some 62, side, false, 4, 0, 0⟩

/-- A running part with its four nodes IN_SERVICE, every input reported and inactive or open but for DOOR, which is closed. -/
def up : State :=
  { State.reset with
    now := 1000000000
    phase := .running
    ring := { freshRing bayTables 0 with
      nodes := [inServiceNode .a, inServiceNode .a, inServiceNode .a, inServiceNode .b] ++ List.replicate 36 noNode
      portA := openRingPort
      portB := openRingPort }
    cell := freshCell bayTables
    fire := freshFire bayLoopTables
    lines := { freshLines (List.replicate 6 false) with
      control := true
      inputs := [false, false, false, true, true, false].map fun l => ⟨l, none, some l⟩ }
    link := { State.reset.link with station := openReceiver 0 closedReceiver, service := openReceiver 0 closedReceiver }
    mgmt := freshMgmt bayTables bayLoopTables false clearLatch }

def withRing (f : Ring → Ring) : State := up.onRing f
def withSeqr (f : Sequencer → Sequencer) : State := up.onSeqr f
def withFire (f : Fire → Fire) : State := up.onFire f
def withLoop (f : Loop → Loop) : State := up.onLoop f
def withGate (f : Gate → Gate) : State := up.onGate f
def withLink (f : Link → Link) : State := up.onLink f
def withMgmt (f : Mgmt → Mgmt) : State := up.onMgmt f
def withCool (f : Cooling → Cooling) : State := up.onCool f

/-- An input takes a debounced electrical level. -/
def setInput (i : Input) (l : Bool) (s : State) : State :=
  s.onLines fun x => { x with inputs := x.inputs.set (inputIdx i) ⟨l, none, some l⟩ }

/-- The state a command leaves. -/
def after (c : Instr) (s : State) : State :=
  match exec c s with
  | .next t => t
  | _ => s

/-! ## WellFormed: each check refuses an ill-formed command and takes one at its bound -/

def bigFrame : Frame := fromNode 1 kSample 1 (List.replicate 57 0)

theorem test_wf_header_short : (Instr.ringLengthError .a 0 [0, 0, 0, 0]).wellFormed = false := by decide
theorem test_wf_header_allowed_length : (Instr.framePortLengthError .station 0 [0, 0, 0, 0, 56]).wellFormed = false := by decide
theorem test_wf_header_ok : (Instr.ringLengthError .a 0 [0, 0, 0, 0, 57]).wellFormed = true := by decide
theorem test_wf_payload : (Instr.ringFrameDiscarded .a 0 bigFrame 0).wellFormed = false := by decide
theorem test_wf_dst : (Instr.sampleReceived .a 0 ⟨64, 1, kSample, 1, []⟩).wellFormed = false := by decide
theorem test_wf_src : (Instr.nodeRspReceived .a 0 ⟨0, 64, kNodeRsp, 1, []⟩).wellFormed = false := by decide
theorem test_wf_seq : (Instr.setpointAckReceived .a 0 ⟨0, 1, kSetpointAck, 64, []⟩).wellFormed = false := by decide
theorem test_wf_frame_ok : (Instr.setpointReceived .station ⟨0, 63, 63, kSetpoint, 63, List.replicate 56 0⟩).wellFormed = true := by decide
theorem test_wf_args : (Instr.save (rq (List.replicate 55 0))).wellFormed = false := by decide
theorem test_wf_args_ok : (Instr.writeTable (rq (List.replicate 54 0))).wellFormed = true := by decide
theorem test_wf_request_src : (Instr.restart ⟨.station, 0, 64, 0, []⟩).wellFormed = false := by decide
theorem test_wf_period : (Instr.pwmReferencePeriod 300).wellFormed = false := by decide
theorem test_wf_pwm_output : (Instr.pwmPeriodStart 12).wellFormed = false := by decide
theorem test_wf_pump : (Instr.flowLossTimeout 4).wellFormed = false := by decide
theorem test_wf_force_output : (Instr.forceExpiry 22).wellFormed = false := by decide
theorem test_wf_outputs_ok : ((Instr.pwmHighEnd 11).wellFormed && (Instr.faultFreeExpiry 3).wellFormed && (Instr.forceExpiry 21).wellFormed) = true := by
  decide

/-! ## The queue and the words of the table -/

/-- No row of the table gives bits, so no word spells a command. -/
theorem test_no_word : decodeTableWord 8 0x01 = none ∧ State.reset.withFetchWord 8 0x01 = State.reset := ⟨rfl, rfl⟩

/-- The queue is first in, first out. -/
theorem test_queue : step { up with pending := [.ackTimeout, .powerLoss] } = .next { up with pending := [.powerLoss] } := rfl

/-! ## Worked examples of the manual -/

/-- R194: the check of the ASCII digits 1 to 9 is 0xAEE7. -/
theorem test_crc : crc16 [0x31, 0x32, 0x33, 0x34, 0x35, 0x36, 0x37, 0x38, 0x39] = 0xAEE7 := by decide +kernel

def node9 (f : Frame) : Nat × Option Nat :=
  let l := liveOf (after (.sampleReceived .a 1000000000 f) up) 1
  (l.lost, l.lastCount)

/-- Section 1.12, rows 1 to 3 and 7, sent as late samples, each of which adds 1 to the lost samples. -/
theorem test_sequence_next : node9 (fromNode 1 kSample 63 []) = (5, some 63) := by decide +kernel
theorem test_sequence_duplicate : node9 (fromNode 1 kSample 62 []) = (4, some 62) := by decide +kernel
theorem test_sequence_gap : node9 (fromNode 1 kSample 2 []) = (4 + 2 + 1, some 2) := by decide +kernel

/-- R24: a NODE_RSP outside every window records its count and loses nothing. -/
theorem test_rsp_no_window :
    (let l := liveOf (after (.nodeRspReceived .a 1000000000 (fromNode 1 kNodeRsp 3 [])) up) 1
     (l.lost, l.lastCount)) = (4, some 3) := by decide +kernel

def sampled (readings : List Nat) : Chan :=
  readings.foldl (fun x r => chanEval .cell defaultProfile (cellReading r) x) ⟨some 4100, .normal, 0, none, false⟩

/-- Section 2.4: samples 1 to 6, 9, 10 and 13, then CLEAR_TRIPS. -/
theorem test_cell_6 : sampled [4160, 4170, 4140, 4155, 4260, 4270] = ⟨some 4270, .ovWarn, 0, none, false⟩ := by decide
theorem test_cell_10 : (sampled [4160, 4170, 4140, 4155, 4260, 4270, 4275, 0xFFFF, 4285]).cond = .sensorFault ∧
    sampled [4160, 4170, 4140, 4155, 4260, 4270, 4275, 0xFFFF, 4285, 4200] = ⟨some 4200, .ovWarn, 0, none, false⟩ := by decide
theorem test_cell_13 : sampled [4155, 4155, 4155, 4260, 4265, 4270] = ⟨some 4270, .ovTrip, 0, none, true⟩ ∧
    chanClear .cell defaultProfile ⟨some 4270, .ovTrip, 0, none, true⟩ = ⟨some 4270, .ovTrip, 0, none, true⟩ := by decide

/-- Section 4.6: P −1600 under a charge limit of 1250 is sent as −1250; under 1600 unclamped. -/
theorem test_clamp : clampP (-1600) 1250 2400 = -1250 ∧ clampP (-1600) 1600 2300 = -1600 ∧ clampP 2500 1250 2400 = 2400 := by decide

/-- Section 5.3.1: pump demand 632 at 37.2 °C, fan duty 508 at 31.8 °C, and the first moves. -/
theorem test_demand : curveAt [(250, 0), (300, 200), (350, 500), (400, 800), (450, 1000)] 372 = 632 ∧
    curveAt [(200, 0), (250, 150), (300, 400), (350, 700), (400, 1000)] 318 = 508 := by decide
theorem test_slope : slopeDuty false .auto 632 600 20 150 = 620 ∧ slopeDuty false .auto 508 0 20 150 = 150 ∧
    slopeDuty false .auto 508 490 20 150 = 508 ∧ slopeDuty false .auto 0 160 20 150 = 0 := by decide

/-- Section 6.7: detector 3's address bytes, and the reading of steps 4 and 5. -/
theorem test_poll : addressByte 3 false = 0x26 ∧ addressByte 3 true = 0x27 ∧
    readingOf ⟨.smoke, 0, 0, 4, 2, 100, 200, 10, true⟩ [.ack, .ack, .ack, .byte 0x01, .byte 0xC4] = some 0x01C4 := by decide

/-- Section 6.1: 0x26 on the loop, most significant bit first, and the released data line in the ninth bit. -/
theorem test_bits : clocked ⟨false, true⟩ (writeSignals (addressByte 3 false)) =
    [false, false, true, false, false, true, true, false, true] := by decide

/-- R94: an output that takes a new offset in the middle of its high time keeps its line until its own period ends. -/
theorem test_new_offset : refOut 1000 500 250 ⟨400, 400, 400, .auto, 400, 3, 0, 500, 1200, true, some 1150⟩ =
    ⟨400, 400, 400, .auto, 400, 3, 250, 500, 1250, true, some 1150⟩ := by decide

/-- Section 9.6, row at 100.200 s: the disagreement timer stops at 200 ms, and the contact that agrees again clears the fault. -/
theorem test_readback_stops : readbackNext ⟨some 0, true⟩ false (some true) 200000 = ⟨none, true⟩ ∧
    disagreement ⟨none, true⟩ 900000 = some 200 ∧ readbackNext ⟨none, true⟩ false (some false) 900000 = ⟨none, false⟩ := by decide

/-- Section 10.7: 40 FORWARDED, 20 ROUTINE, 3 RESPONSE and 1 ALARM, then the FIRE_STATE notice and a forwarded sample. -/
def burst (c : QClass) : UpFrame := ⟨c, false, false, fromNode 1 kSample 1 []⟩
def burstLink : Link :=
  { State.reset.link with
    queue := List.replicate 40 (burst .forwarded) ++ List.replicate 20 (burst .routine) ++ List.replicate 3 (burst .response) ++ [burst .alarm] }
theorem test_burst : (queueJoin (burst .alarm) burstLink).losses = [1, 0, 0, 0] ∧
    ((queueJoin (burst .alarm) burstLink).queue.filter fun f => f.cls == .forwarded).length = 39 ∧
    (queueJoin (burst .forwarded) burstLink).losses = [1, 0, 0, 0] := by decide +kernel

/-- After a start-up from reset the part runs, SPLIT goes out on both ports, and the first round is due after 10 ms. -/
theorem test_start_up : (after .startUp State.reset).phase = .running ∧ (after .startUp State.reset).ring.dueAt = some 10000 ∧
    (after .startUp State.reset).ring.portA.tx.length = 1 := by decide +kernel

/-! ## The hypotheses of the statements can be met -/

theorem waitsOpen_of (s : State) (ha : ∀ w, waitOf s.ring .a = some w → s.now < w.2.2.2 + replyTime)
    (hb : ∀ w, waitOf s.ring .b = some w → s.now < w.2.2.2 + replyTime) : waitsOpen s := by
  intro side a p second since h
  cases side
  · exact ha _ h
  · exact hb _ h

/-- A CONNECTED bay with both contactors on, limits above 0 and a clamped setpoint in the slot; a pin changes next. -/
def live : State :=
  { up with
    seqr := { up.seqr with state := .connected, connectedSince := some 5 }
    env := { up.env with chg := 50, dis := 60 }
    gate := { up.gate with requested := some ⟨-100, 0, 17, .station, false⟩ }
    ring := { up.ring with slot := some ⟨4, 63, 5, 17, -50, 0, ⟨true, false, false⟩⟩ }
    lines := { up.lines with
      inputs := [true, true, true, true, true, false].map fun l => ⟨l, none, some l⟩
      outs := [false, false, false, true, true, false, false, false, false, false] }
    pending := [.inputRawChange .estop false] }

theorem live_steps : step live = .next (after (.inputRawChange .estop false) { live with pending := [] }) := rfl
theorem live_slot : slotClamped live := fun f h => by
  cases h
  exact ⟨⟨-100, 0, 17, .station, false⟩, rfl, by decide⟩

theorem test_hyp_IdleStepTicks : up.pending = [] := rfl
theorem test_hyp_LimitsClosedKept : limitsClosed live ∧ ∃ t, step live = .next t :=
  ⟨by unfold limitsClosed powerBarred; decide +kernel, _, live_steps⟩
theorem test_hyp_LimitsRatedKept : limitsRated live ∧ ∃ t, step live = .next t := ⟨by unfold limitsRated; decide +kernel, _, live_steps⟩
theorem test_hyp_SlotClampedKept : slotClamped live ∧ live.ring.slot ≠ none ∧ ∃ t, step live = .next t :=
  ⟨live_slot, by decide +kernel, _, live_steps⟩
theorem live_lines : linesCurrent live ∧ coilsUnforced live :=
  ⟨by unfold linesCurrent; decide +kernel, fun o h => by rcases h with rfl | rfl | rfl <;> decide +kernel⟩
theorem test_hyp_LinesCurrentKept : linesCurrent live ∧ coilsUnforced live ∧ ∃ t, step live = .next t :=
  ⟨live_lines.1, live_lines.2, _, live_steps⟩
theorem test_hyp_CoilsSafeAfterEveryStep : linesCurrent live ∧ coilsUnforced live ∧ ∃ t, step live = .next t :=
  ⟨live_lines.1, live_lines.2, _, live_steps⟩
theorem test_hyp_WithinBoundsKept : withinBounds live ∧ ∃ t, step live = .next t := ⟨by unfold withinBounds; decide +kernel, _, live_steps⟩

/-- A request of the authority holder is taken in `s`. -/
theorem held_of (r : Request) (s : State) (h1 : s.phase = .running) (h2 : frameInTime s r.port r.syncAt = true) (h3 : badAddress r.src = false)
    (h4 : s.mgmt.restart = false) (h5 : s.link.holder = r.port) : held r s := ⟨⟨⟨h1, h2, h3⟩, h4⟩, h5⟩

theorem test_hyp_held : held (rq []) up := held_of _ _ rfl (by decide +kernel) (by decide) rfl rfl

theorem test_hyp_ResetsAndRestart :
    (({ up with phase := .off } : State).phase = .off) ∧
    (State.reset.phase = .startUpDue ∧ up.phase = .running) ∧
    (({ up with phase := .inReset } : State).phase = .inReset) ∧
    (let s := withMgmt fun m => { m with restart := true }
     s.phase = .running ∧ s.mgmt.restart = true ∧ restartOwed s.link = false ∧ s.mgmt.store = .idle ∧ s.mgmt.latchWaiting = none ∧
       s.mgmt.save = none) ∧
    (up.phase ≠ .off) ∧
    (up.mgmt.store = .idle ∧ (withMgmt fun m => { m with store := .writingImage }).mgmt.store = .writingImage ∧
      (withMgmt fun m => { m with store := .writingLatch }).mgmt.store = .writingLatch) ∧
    (held (rq []) up ∧ up.seqr.state = .open_ ∧ up.fire.state = .quiet) ∧
    (let s := withSeqr fun q => { q with state := .connected }
     held (rq []) s ∧ ¬((s.seqr.state = .open_ ∨ s.seqr.state = .lockedOut) ∧ s.fire.state = .quiet)) := by
  simp only [held, taken, reaches]; decide +kernel

theorem test_hyp_StartUpOrder : State.reset.phase = .startUpDue ∧ imageGood State.reset.store.image = false ∧
    imageGood (closeImage blankStore.image) = true := by
  refine ⟨rfl, rfl, ?_⟩
  rw [imageGood, closeImage_checkOk]; decide +kernel

theorem test_hyp_CutRecordIsLost :
    (let s := withMgmt fun m => { m with store := .writingLatch }
     s.phase = .running ∧ s.rst = false ∧ exec .powerLoss s = .next (after .powerLoss s) ∧
       exec .powerOn (after .powerLoss s) = .next (after .powerOn (after .powerLoss s)) ∧ s.mgmt.store = .writingLatch) ∧
    (let s := withMgmt fun m => { m with store := .writingImage }
     s.phase = .running ∧ s.rst = false ∧ exec .powerLoss s = .next (after .powerLoss s) ∧
       exec .powerOn (after .powerLoss s) = .next (after .powerOn (after .powerLoss s)) ∧ s.mgmt.store = .writingImage) :=
  ⟨⟨rfl, rfl, rfl, rfl, rfl⟩, ⟨rfl, rfl, rfl, rfl, rfl⟩⟩

def job : SaveJob := ⟨closeImage blankStore.image, 1, 1, .station, 63, 7⟩

theorem test_hyp_StoreWrites :
    (held (rq []) up ∧ up.mgmt.save = none ∧ up.mgmt.store = .idle ∧ up.mgmt.latchWaiting = none) ∧
    (let s := withMgmt fun m => { m with store := .writingLatch, latchWriting := some clearLatch, latchWaiting := some clearLatch }
     held (rq []) s ∧ s.mgmt.save = none ∧ s.mgmt.store ≠ .idle) ∧
    (let s := withMgmt fun m => { m with store := .writingImage, save := some job }
     s.phase = .running ∧ s.mgmt.store = .writingImage ∧ s.mgmt.save = some job ∧ s.mgmt.latchWaiting = none ∧ s.mgmt.storeFault = false) ∧
    (let s := withMgmt fun m => { m with store := .writingLatch, latchWriting := some clearLatch, save := some job }
     s.phase = .running ∧ s.mgmt.store = .writingLatch ∧ s.mgmt.latchWriting = some clearLatch ∧ s.mgmt.latchWaiting = none ∧
       s.mgmt.save.isSome = true) := by
  simp only [held, taken, reaches]
  exact ⟨by decide +kernel, by decide +kernel, ⟨rfl, rfl, rfl, rfl, rfl⟩, ⟨rfl, rfl, rfl, rfl, rfl⟩⟩

/-! ### The ring -/

/-- Node 1 is awaited on Ring Port A since 1.999 ms, or its response window is open. -/
def awaiting (addr : Nat) (second : Bool) (since : Nat) : State :=
  withRing fun r => { r with running := true, round := 7, seqA := ⟨.waiting addr .a second since, [2, 3]⟩ }
def windowed (running : Bool) (since : Nat) (last : Option Nat) : State :=
  withRing fun r => { r with running := running, round := 10, seqA := ⟨.window 1 .a .station since, [2, 3]⟩
                             nodes := r.nodes.set 0 { inServiceNode .a with lastCount := last } }

/-- The ports were opened at this moment. -/
def openedNow (s : State) : State :=
  let p : RingPortState := ⟨openReceiver s.now closedReceiver, [], 0⟩
  (s.onRing fun r => { r with portA := p, portB := p }).onLink fun l =>
    { l with station := openReceiver s.now closedReceiver, service := openReceiver s.now closedReceiver }

theorem up_waits : waitsOpen up := waitsOpen_of _ (fun w h => by cases h) (fun w h => by cases h)
theorem awaiting_waits : waitsOpen (awaiting 1 false 999998001) :=
  waitsOpen_of _ (fun w h => by cases h; decide +kernel) (fun w h => by cases h)

/-- In split mode both sides wait for a reply since the same moment. -/
def bothWait (since : Nat) : State :=
  withRing fun r => { r with running := true, round := 7, splitReq := 3, splitEff := 3, seqA := ⟨.waiting 1 .a false since, []⟩
                             seqB := ⟨.waiting 4 .b false since, []⟩ }

/-- The wait of one side, just over, with the frame begun at its last moment and none held on the other port, with one held there, or begun after it; the last
attempt; and the waits of both sides in split mode. -/
theorem test_hyp_lapses :
    (let s := awaiting 1 false 999998000
     arrives .a 1000000000 s ∧ waitOf s.ring .a = some (1, .a, false, 999998000) ∧ waitOf s.ring .b = none ∧ 999998000 + 2000 ≤ s.now ∧
       1000000000 ≤ 999998000 + 2000 ∧ noneHeld s (999998000 + 2000) ∧ s.ring.splitEff = 0 ∧
       ¬noneHeld (s.onRing fun r => { r with portB := { r.portB with rx := { r.portB.rx with syncAt := some 1000000000 } } }) (999998000 + 2000)) ∧
    (let s := awaiting 1 true 999998000
     arrives .a 1000000000 s ∧ waitOf s.ring .a = some (1, .a, true, 999998000) ∧ hasEntry s 1) ∧
    (let s := awaiting 1 false 999997999
     arrives .a 1000000000 s ∧ waitOf s.ring .a = some (1, .a, false, 999997999) ∧ 999997999 + 2000 < 1000000000) ∧
    (let s := bothWait 999998000
     arrives .b 1000000000 s ∧ s.ring.splitEff ≠ 0 ∧ waitOf s.ring .a = some (1, .a, false, 999998000) ∧
       waitOf s.ring .b = some (4, .b, false, 999998000) ∧ noneHeld s (999998000 + 2000) ∧ hasEntry s 1 ∧ hasEntry s 4) := by
  simp only [arrives, noneHeld_iff, hasEntry]
  and_intros <;> decide +kernel

/-- R10: a fragment begun within the wait, which ends after its 2 ms, sends the second attempt on Ring Port B. -/
theorem test_lapse_retries : (let t := after (.ringFragmentTimeout .a 999999000) (awaiting 1 false 999998000)
    (t.ring.seqA.phase, t.ring.portB.tx.map (·.frame.dst))) = (.polling 1 .b true, [1]) := by decide +kernel

theorem test_hyp_RingReceiveErrors :
    (arrives .a 1000000000 up ∧ arrives .b 999999000 up ∧ waitsOpen up ∧ ([1, 2, 0xA5, 4, 57] : List Byte).length = 5) ∧
    (up.phase = .running ∧ (portOf up.ring .b).rx.isOpen = true ∧ (portOf up.ring .b).rx.openedAt ≤ 999999000 ∧ 999999000 + 1000 ≤ up.now) ∧
    (999999999 < (portOf (openedNow up).ring .a).rx.openedAt) ∧
    (arrives .a 1000000000 (awaiting 1 false 999998001) ∧ waitsOpen (awaiting 1 false 999998001) ∧
      waitOf (awaiting 1 false 999998001).ring .a = some (1, .a, false, 999998001)) ∧
    (frameCheck (fromNode 1 kSample 63 []) ≠ 0 ∧ waitOf up.ring (sideOfPort up.ring .a) = none) := by
  refine ⟨⟨?_, ?_, up_waits, rfl⟩, ?_, ?_, ⟨?_, awaiting_waits, ?_⟩, ?_⟩ <;> (try simp only [arrives]) <;> decide +kernel

/-- R26, R180: of a frame whose sync byte came before the opening nothing is received; one whose sync byte came with it is (log entry 32). -/
theorem test_before_opening :
    (after (.ringFragmentTimeout .a 999999999) { openedNow up with now := 1000001000 }).ring.portA.rx.counters.fragments = 0 ∧
    (after (.ringFragmentTimeout .a 1000000000) { openedNow up with now := 1000001000 }).ring.portA.rx.counters.fragments = 1 ∧
    ((after (.nodeCmdReceived .station ⟨999999999, fromStation 1 kNodeCmd [1, 2]⟩) (openedNow up)).ring.downQueue.length,
     (after (.nodeCmdReceived .station ⟨1000000000, fromStation 1 kNodeCmd [1, 2]⟩) (openedNow up)).ring.downQueue.length) = (0, 1) := by
  decide +kernel

/-- A SAMPLE of node 1 that nobody awaits: no wait is open, that of another node is, just over, and one that began after the wait of the node. -/
theorem test_hyp_late_sample :
    (∀ side q second since, waitOf up.ring side = some (1, q, second, since) → since + 2000 < 1000000000) ∧
    (arrives .a 1000000000 (awaiting 2 false 999998000) ∧ admitted (awaiting 2 false 999998000) (fromNode 1 kSample 63 []) ∧
      ∀ side q second since, waitOf (awaiting 2 false 999998000).ring side = some (1, q, second, since) → since + 2000 < 1000000000) ∧
    (arrives .a 1000000000 (awaiting 1 false 999997999) ∧ admitted (awaiting 1 false 999997999) (fromNode 1 kSample 63 []) ∧
      ∀ side q second since, waitOf (awaiting 1 false 999997999).ring side = some (1, q, second, since) → since + 2000 < 1000000000) := by
  simp only [arrives, admitted]
  refine ⟨?_, ⟨?_, ?_, ?_⟩, ⟨?_, ?_, ?_⟩⟩
  all_goals first
    | decide +kernel
    | (intro side q second since h; cases side <;> cases h <;> decide)

/-- One frame for each outcome of R2, and one that passes. -/
theorem test_hyp_RingScreening : arrives .a 1000000000 up ∧ waitsOpen up ∧ (fromNode 0 kSample 1 []).src.toNat = 0 ∧
    ((⟨1, 2, kSample, 1, []⟩ : Frame).dst ≠ 0) ∧ 40 < (fromNode 63 kSample 1 []).src.toNat ∧ (liveOf up 5).state = .unconfigured ∧
    (liveOf (withRing fun r => { r with nodes := r.nodes.set 0 { inServiceNode .a with state := .excluded } }) 1).state = .excluded ∧
    up.ring.running = false ∧ admitted up (fromNode 1 kSample 1 []) ∧ admitted up (fromNode 1 kSample 62 []) ∧
    admitted up (fromNode 1 kNodeRsp 62 []) ∧ (liveOf up 1).lastCount = some 62 := by
  refine ⟨?_, up_waits, ?_⟩ <;> simp only [arrives, admitted] <;> decide +kernel

/-- A frame of `a` on `p` with its sync byte at `t0` comes outside the window of its side. -/
def outside (p : RingPort) (t0 a : Nat) (s : State) : Bool :=
  (windowOf s.ring (sideOfPort s.ring p)).all fun w => decide (w.1 ≠ a ∨ w.2.1 ≠ p ∨ t0 < w.2.2.2 ∨ w.2.2.2 + 2000 < t0)

theorem outside_iff (p : RingPort) (t0 a : Nat) (s : State) : outside p t0 a s = true ↔
    ∀ d q up since, windowOf s.ring (sideOfPort s.ring p) = some (d, q, up, since) → d ≠ a ∨ q ≠ p ∨ t0 < since ∨ since + 2000 < t0 := by
  unfold outside
  cases windowOf s.ring (sideOfPort s.ring p) with
  | none => simp
  | some w =>
    simp only [Option.all_some, decide_eq_true_eq]
    exact ⟨fun h _ _ _ _ e => by cases e; exact h, fun h => h _ _ _ _ rfl⟩

/-- Split mode between nodes 2 and 3, with the sequences of its two sides. -/
def inSplit (a b : PollSeq) (s : State) : State :=
  s.onRing fun r => { r with running := true, round := 7, splitReq := 3, splitEff := 3, seqA := a, seqB := b }

/-- In turn: no window is open; another node's is; the node's own on the other port; the sync byte came just before it, and just after it; in it; in it in split mode;
a duplicate SAMPLE, a new one and a restart; and a SAMPLE before which no count is known. -/
theorem test_hyp_SequenceChecks :
    (let f := fromNode 1 kNodeRsp 63 []
     arrives .a 1000000000 up ∧ noWait up ∧ admitted up f ∧ f.kind = kNodeRsp ∧ (liveOf up 1).lastCount = some 62 ∧
       admitted up (fromNode 1 kNodeRsp 62 []) ∧ admitted up (fromNode 1 kNodeRsp 0 []) ∧ outside .a 1000000000 1 up = true) ∧
    (let s := windowed false 999999999 (some 62)
     arrives .a 999999998 s ∧ arrives .b 1000000000 s ∧ noWait s ∧ admitted s (fromNode 2 kNodeRsp 63 []) ∧
       outside .a 1000000000 2 s = true ∧ outside .b 1000000000 1 s = true ∧ outside .a 999999998 1 s = true) ∧
    (let s := windowed false 999997999 (some 62)
     arrives .a 1000000000 s ∧ noWait s ∧ outside .a 1000000000 1 s = true) ∧
    (let s := windowed false 999998000 (some 62)
     arrives .a 1000000000 s ∧ noWait s ∧ s.ring.splitEff = 0 ∧ (seqOf s.ring .a).phase = .window 1 .a .station 999998000 ∧
       999998000 ≤ 1000000000 ∧ 1000000000 ≤ 999998000 + 2000 ∧ admitted s (fromNode 1 kNodeRsp 1 []) ∧ (liveOf s 1).lastCount = some 62 ∧
       admitted s (fromNode 1 kNodeRsp 0 []) ∧ s.ring.running = false ∧ s.ring.fallenDue = false) ∧
    (let s := (inSplit ⟨.idle, []⟩ ⟨.window 3 .b .service 999998000, []⟩ up).onRing fun r => { r with running := false }
     arrives .b 1000000000 s ∧ noWait s ∧ s.ring.splitEff ≠ 0 ∧ (seqOf s.ring .b).phase = .window 3 .b .service 999998000 ∧
       admitted s (fromNode 3 kNodeRsp 0 []) ∧ admitted s (fromNode 3 kNodeRsp 7 []) ∧ (liveOf s 3).lastCount = some 62 ∧
       (cfgOf s 3).role ≠ .mod ∧ s.ring.running = false ∧ s.ring.fallenDue = false) ∧
    (let f := fromNode 1 kSample 62 []
     arrives .a 1000000000 up ∧ noWait up ∧ admitted up f ∧ f.kind = kSample ∧ (liveOf up f.src.toNat).lastCount = some f.seq.toNat) ∧
    (let f := fromNode 1 kSample 1 []
     admitted up f ∧ f.kind = kSample ∧ (liveOf up f.src.toNat).lastCount = some 62 ∧ f.seq.toNat ≠ 62 ∧ f.seq.toNat ≠ 0) ∧
    (let f := fromNode 3 kSample 0 []
     admitted up f ∧ (liveOf up f.src.toNat).lastCount = some 62 ∧ f.seq.toNat ≠ 62 ∧ f.seq.toNat = 0 ∧ (cfgOf up 3).role ≠ .mod) ∧
    (let s := windowed false 999998000 none
     arrives .a 1000000000 s ∧ noWait s ∧ admitted s (fromNode 1 kSample 0 []) ∧ (liveOf s 1).lastCount = none) := by
  simp only [arrives, noWait, admitted]
  and_intros <;> decide +kernel

def moduleFrame : Frame := fromNode 1 kSample 63 [0, 2, 0x0E, 0x74, 0x0E, 0x75, 1, 0x00, 0xFA, 0, 0]
def meterFrame : Frame := fromNode 3 kSample 0 [0, 230, 0, 231, 0, 229, 0xC3, 0x50, 0, 0, 0, 10, 0]

def moduleReading : ModuleSample := ⟨0, [3700, 3701], [250], 0⟩

/-- Node 1 is awaited, in a state and with a last count; its record is `m`, and the policy of MODULE is `p`. -/
def moduleAwaited (st : NodeState) (last : Option Nat) (m : ModuleRec) (p : Policy) : State :=
  (((awaiting 1 false 999998000).onRing fun r => { r with nodes := r.nodes.set 0 { inServiceNode .a with state := st, lastCount := last } }).onCell
    fun x => { x with recs := x.recs.set 0 (some m) }).onLink fun l => { l with policy := l.policy.set 0 ⟨p, 50⟩ }

/-- The record of node 1 once it has shown NORMAL. -/
def heardModule : ModuleRec := { recSample ⟨.mod, 0, 0, .a, 3, 1⟩ defaultProfile moduleReading freshModule with cond := .normal }

theorem test_hyp_ModuleReply :
    (let s := moduleAwaited .inService (some 62) heardModule .onChange
     awaits .a .a 999999999 999998000 false moduleFrame s ∧ (liveOf s 1).state = .inService ∧ newCount moduleFrame s ∧
       payloadOf (cfgOf s 1) moduleFrame.payload = some (.mod moduleReading) ∧ recOf s 1 = some heardModule ∧ (liveOf s 1).side = .a ∧
       s.ring.broken = ringBrokenNow s ∧
       moduleCond (recSample (cfgOf s 1) (profileOf s 1) moduleReading heardModule) = heardModule.cond ∧
       s.link.policy.getD 0 ⟨.onChange, 50⟩ = ⟨.onChange, 50⟩ ∧ (s.link.records.getD 0 ⟨none, 0⟩).mark ≠ some ModCond.normal.code) ∧
    ((moduleAwaited .inService (some 62) heardModule .never).link.policy.getD 0 ⟨.onChange, 50⟩ = ⟨.never, 50⟩) ∧
    (let s := moduleAwaited .silent none freshModule .all
     awaits .b .a 1000000000 999998000 false moduleFrame s ∧ (liveOf s 1).state = .silent ∧ newCount moduleFrame s ∧
       newCount { moduleFrame with seq := 0 } s ∧
       payloadOf (cfgOf s 1) moduleFrame.payload = some (.mod moduleReading) ∧ recOf s 1 = some freshModule) ∧
    (let s := moduleAwaited .inService (some 62) heardModule .all
     let f := { moduleFrame with seq := 0 }
     awaits .a .a 1000000000 999998000 false f s ∧ (liveOf s 1).state = .inService ∧ (liveOf s 1).lastCount = some 62 ∧ f.seq.toNat = 0 ∧
       payloadOf (cfgOf s 1) f.payload = some (.mod moduleReading) ∧ recOf s 1 = some heardModule) ∧
    (let s := moduleAwaited .absent (some 62) freshModule .all
     let f := fromNode 1 kSample 63 [0, 1, 0x0E, 0x74, 1, 0, 0xFA, 0, 0]
     awaits .a .a 1000000000 999998000 false f s ∧ newCount f s ∧ payloadOf (cfgOf s 1) f.payload = none ∧ (liveOf s 1).side = .a ∧
       s.ring.broken = ringBrokenNow s) ∧
    (let s := inSplit ⟨.waiting 1 .a false 999998000, [2]⟩ ⟨.waiting 4 .b false 999998000, []⟩ (moduleAwaited .inService (some 62) heardModule .all)
     waitOf s.ring .b = some (4, .b, false, 999998000) ∧ (4 : Nat) ≠ 1) ∧
    (let s := inSplit ⟨.waiting 1 .a false 999998000, [2]⟩ ⟨.opportunity, [4]⟩ (moduleAwaited .inService (some 62) heardModule .all)
     arrives .b 1000000000 s ∧ s.ring.splitEff ≠ 0 ∧ (seqOf s.ring .a).phase = .waiting 1 .a false 999998000 ∧ waitOf s.ring .b = none ∧
       1000000000 ≤ 999998000 + 2000 ∧ admitted s moduleFrame ∧ (liveOf s 1).state = .inService ∧ newCount moduleFrame s ∧
       payloadOf (cfgOf s 1) moduleFrame.payload = some (.mod moduleReading) ∧ recOf s 1 = some heardModule) := by
  simp only [awaits, newCount, arrives, admitted]
  and_intros <;> decide +kernel

/-- Zone 0 names coolant node 2, and its pump runs at 400 ‰. -/
def cooled : State :=
  ((awaiting 2 false 999998000).onMgmt fun m => { m with ringTables := { m.ringTables with
      cooling := { defaultCooling with zones := defaultCooling.zones.set 0 { defaultZone 0 with node := some 2 } } } }).onCool
    fun c => modPump 0 (fun x => { x with state := .running }) (modOut 0 (fun x => { x with applied := 400 }) c)

def coolantFrame : Frame := fromNode 2 kSample 63 [0, 250, 0x7F, 0xFF, 0, 99, 0, 20, 1]
def converterFrame (bus : Byte) : Frame := fromNode 4 kSample 63 [0, bus, 0, 200, 0, 0, 0, 0, 2, 0]

def converterAwaited (st : SeqState) : State :=
  (withRing fun r => { r with running := true, seqA := ⟨.waiting 4 .b false 999998000, []⟩ }).onSeqr fun q => { q with state := st }

/-- A METER sample with two voltages, a frequency and its rate of change. -/
def meterRead (v1 v3 freq : Nat) (rocof : Int) : MeterSample := ⟨v1, 400, v3, freq, rocof, 10, false⟩
def meterAt (v1 v3 freq : Nat) (rocof : Int) : Frame :=
  fromNode 3 kSample 63 (encU16 v1 ++ encU16 400 ++ encU16 v3 ++ encU16 freq ++ encU16 rocof.toNat ++ [0, 10, 0])

/-- The METER node is awaited, the sequencer in a state with stage timers and a ROCOF run. -/
def metered (st : SeqState) (stages : List (Option Nat)) (run : Nat) : State :=
  (awaiting 3 false 999998000).onSeqr fun q => { q with state := st, stages := stages, rocofRun := run }

theorem violates_iff (g : GridCfg) (m : MeterRec) (i : Nat) : violates g m i ↔ stageViolated g m i = true := by
  unfold violates stageViolated
  split <;> simp

theorem stageTripped_iff (s : State) (m : MeterRec) (i : Nat) : stageTripped s m i ↔ stageViolated s.mgmt.ringTables.grid m i = true ∧
    (s.seqr.stages.getD i none).getD s.now + 1000 * stageTime s.mgmt.ringTables.grid i ≤ s.now := by
  rw [stageTripped, violates_iff]

theorem none_trips (s : State) (m : MeterRec) (h : ∀ i, i < 6 → stageViolated s.mgmt.ringTables.grid m i = true →
    s.now < (s.seqr.stages.getD i none).getD s.now + 1000 * stageTime s.mgmt.ringTables.grid i) (i : Nat) : ¬stageTripped s m i := by
  rw [stageTripped_iff]
  rintro ⟨h1, h2⟩
  by_cases hi : i < 6
  · have := h i hi h1; omega
  · match i, hi with
    | i + 6, _ => simp [stageViolated] at h1

theorem healthyRecord_iff (g : GridCfg) (m : MeterRec) : healthyRecord g m ↔ healthy g m = true := by
  simp only [healthyRecord, healthy, decide_eq_true_eq, forall_eq_or_imp, forall_eq, and_assoc]

theorem test_hyp_MeterReply :
    (let s := (awaiting 3 true 999998000).onRing fun r => { r with nodes := r.nodes.set 2 { inServiceNode .a with state := .silent, lastCount := none } }
     awaits .b .a 1000000000 999998000 true meterFrame s ∧ (liveOf s 3).state = .silent ∧ (liveOf s 3).lastCount = none ∧
       payloadOf (cfgOf s 3) meterFrame.payload = some (.meter ⟨230, 231, 229, 50000, 0, 10, false⟩)) ∧
    (let s := metered .connected (List.replicate 6 none) 0
     awaits .a .a 1000000000 999998000 false (meterAt 400 400 50000 0) s ∧ (liveOf s 3).state = .inService ∧ (liveOf s 3).lastCount ≠ some (meterAt 400 400 50000 0).seq.toNat ∧
       payloadOf (cfgOf s 3) (meterAt 400 400 50000 0).payload = some (.meter (meterRead 400 400 50000 0)) ∧ s.seqr.auxBackup = false ∧
       s.seqr.state = .connected ∧ s.seqr.blind = false ∧ (∀ i, ¬stageTripped s (meterOf s (meterRead 400 400 50000 0)) i) ∧
       ¬rocofTripped s (meterOf s (meterRead 400 400 50000 0)) ∧ (∀ i, i < 6 → ¬violates s.mgmt.ringTables.grid (meterOf s (meterRead 400 400 50000 0)) i)) ∧
    (let s := metered .connected [some 0, none, none, some 0, none, none] 0
     let m := meterOf s (meterRead 100 600 50000 0)
     payloadOf (cfgOf s 3) (meterAt 100 600 50000 0).payload = some (.meter (meterRead 100 600 50000 0)) ∧
       violates s.mgmt.ringTables.grid m 1 ∧ ¬stageTripped s m 1 ∧ tripOrder[1]? = some (3, .ov2) ∧ stageTripped s m 3 ∧
       tripOrder[2]? = some (0, .uv1) ∧ stageTripped s m 0) ∧
    (let s := metered .connected (List.replicate 6 none) 2
     let m := meterOf s (meterRead 400 400 50000 20000)
     payloadOf (cfgOf s 3) (meterAt 400 400 50000 20000).payload = some (.meter (meterRead 400 400 50000 20000)) ∧
       (∀ i, ¬stageTripped s m i) ∧ rocofTripped s m) ∧
    (let s := metered .dcReady (List.replicate 6 none) 0
     s.seqr.state = .dcReady ∧ healthyRecord s.mgmt.ringTables.grid (meterOf s (meterRead 400 400 50000 0)) ∧
       ¬healthyRecord s.mgmt.ringTables.grid (meterOf s (meterRead 400 100 50000 0))) ∧
    ((metered .open_ (List.replicate 6 none) 0).seqr.state = .open_) ∧
    (awaits .a .a 1000000000 999998000 false coolantFrame cooled ∧ (liveOf cooled 2).state = .inService ∧
      (liveOf cooled 2).lastCount ≠ some coolantFrame.seq.toNat ∧
      payloadOf (cfgOf cooled 2) coolantFrame.payload = some (.cool ⟨250, 0x7FFF, 99, 20, 1⟩) ∧ 0 < cooled.cool.zones.length ∧
      (zoneCfg cooled.mgmt.ringTables.cooling 0).node = some 2 ∧ (cfgOf cooled 2).zone = 0 ∧
      pumpZone cooled.mgmt.ringTables.cooling 0 = some 0 ∧ 0 < cooled.cool.pumps.length ∧ (pumpLive cooled 0).state = .running ∧
      300 ≤ (outLive cooled 0).applied ∧ 99 < minFlow cooled.mgmt.ringTables.cooling 0) ∧
    (let s := converterAwaited .precharge
     awaits .b .b 1000000000 999998000 false (converterFrame 190) s ∧ (liveOf s 4).state = .inService ∧ (liveOf s 4).lastCount ≠ some (converterFrame 190).seq.toNat ∧
       (∃ d, payloadOf (cfgOf s 4) (converterFrame 190).payload = some (.conv d) ∧ 0 < d.string ∧ 950 * d.string ≤ 1000 * d.bus) ∧
       (∃ d, payloadOf (cfgOf s 4) (converterFrame 189).payload = some (.conv d) ∧ ¬(0 < d.string ∧ 950 * d.string ≤ 1000 * d.bus)) ∧
       s.seqr.state = .precharge ∧ bayCondition s .dcReady = none) ∧
    (let s := converterAwaited .opening
     awaits .b .b 1000000000 999998000 false (converterFrame 19) s ∧ s.seqr.state = .opening ∧ s.seqr.discharged = false ∧
       s.seqr.pendingLockout = none ∧ s.fire.state = .quiet ∧ inputReads s .contPosAux = some false ∧ inputReads s .contNegAux = some false ∧
       (∃ d, payloadOf (cfgOf s 4) (converterFrame 19).payload = some (.conv d) ∧ 1000 * d.bus < 100 * d.string) ∧
       (∃ d, payloadOf (cfgOf s 4) (converterFrame 20).payload = some (.conv d) ∧ ¬1000 * d.bus < 100 * d.string)) ∧
    ((converterAwaited .connected).seqr.state = .connected) := by
  simp only [awaits, arrives, admitted, violates_iff, stageTripped_iff, healthyRecord_iff, rocofTripped, rocofAfter]
  and_intros
  all_goals first
    | decide +kernel
    | (intro i; rw [← stageTripped_iff]; exact none_trips _ _ (by decide +kernel) i)
    | exact ⟨⟨190, 200, 0, 0, .running, 0⟩, by decide +kernel⟩
    | exact ⟨⟨189, 200, 0, 0, .running, 0⟩, by decide +kernel⟩
    | exact ⟨⟨19, 200, 0, 0, .running, 0⟩, by decide +kernel⟩
    | exact ⟨⟨20, 200, 0, 0, .running, 0⟩, by decide +kernel⟩

theorem test_hyp_ResponseWindow :
    (let s := windowed false 999998000 none
     let f := fromNode 1 kNodeRsp 9 [1, 2]
     arrives .a 1000000000 s ∧ s.ring.splitEff = 0 ∧ s.ring.seqB.phase = .idle ∧ s.ring.seqA.phase = .window 1 .a .station 999998000 ∧
       999998000 ≤ 1000000000 ∧ 1000000000 ≤ 999998000 + 2000 ∧ admitted s f ∧ f.kind = kNodeRsp ∧ (liveOf s 1).lastCount = none ∧ s.ring.running = false ∧
       s.ring.fallenDue = false) ∧
    (let s := windowed false 999998000 none
     s.phase = .running ∧ 999998000 + 2000 ≤ s.now ∧ (portOf s.ring .a).rx.syncAt = none ∧ s.ring.running = false ∧ s.ring.fallenDue = false) ∧
    (let s := windowed true 999998000 none
     s.phase = .running ∧ s.ring.splitEff = 0 ∧ s.ring.running = true ∧ s.ring.seqA.rest = 2 :: [3]) := by
  simp only [arrives, admitted]; decide +kernel

def ackFrame : Frame := fromNode 4 kSetpointAck 63 [17, 0xFF, 0xCE, 0, 0, 0]

/-- A SETPOINT_ACK with a result, and the setpoint it answers, in flight after some timeouts. -/
def ackResult (result : Byte) : Frame := fromNode 4 kSetpointAck 63 [17, 0xFF, 0xCE, 0, 0, result]
def acked (timeouts : Nat) : State := withGate fun g =>
  { g with requested := some ⟨-50, 0, 17, .station, false⟩, forwarded := some ⟨-50, 0, 17, ⟨false, false, false⟩, .station⟩,
           inFlight := some (17, 999900000), ackCount := timeouts, sent := [(17, .station)] }

/-- With its tag in flight; with another in flight, or none; with no entry for its tag; for an entry of the service side; and of another length. -/
theorem test_hyp_AckEndsTheWait : (∀ n ∈ [2, 3], ∀ b ∈ [(0 : Byte), 2],
    let s := acked n
    arrives .b 1000000000 s ∧ noWait s ∧ admitted s (ackResult b) ∧ (ackResult b).kind = kSetpointAck ∧
      (cfgOf s (ackResult b).src.toNat).role = .conv ∧ parseAck (ackResult b).payload = some ⟨17, -50, 0, b⟩ ∧
      s.gate.inFlight = some (17, 999900000) ∧ s.gate.sent.find? (fun e => e.1 == 17) = some (17, .station) ∧ s.gate.ackCount = n ∧
      s.gate.forwarded.isSome = true) ∧
    (let s := (acked 0).onGate fun g => { g with inFlight := some (18, 999900000), sent := [(17, .service)], forwarded := none }
     arrives .b 1000000000 s ∧ noWait s ∧ admitted s (ackResult 0) ∧ (cfgOf s 4).role = .conv ∧ s.gate.inFlight = some (18, 999900000) ∧
       s.gate.sent.find? (fun e => e.1 == 17) = some (17, .service) ∧ s.gate.forwarded = none ∧
       s.gate.sent.find? (fun e => e.1 == 18) = none ∧ (s.onGate fun g => { g with inFlight := none }).gate.inFlight = none ∧
       parseAck (fromNode 4 kSetpointAck 63 [18, 0xFF, 0xCE, 0, 0, 2]).payload = some ⟨18, -50, 0, 2⟩) ∧
    (let f := fromNode 4 kSetpointAck 63 [17, 0xFF, 0xCE, 0, 0]
     admitted (acked 0) f ∧ f.kind = kSetpointAck ∧ f.payload.length ≠ 6) ∧
    (let s := (acked 0).onRing fun r => { r with running := true, seqA := ⟨.waiting 1 .a false 999998000, []⟩ }
     arrives .b 1000000000 s ∧ admitted s (ackResult 0) ∧ waitOf s.ring .a = some (1, .a, false, 999998000)) := by
  simp only [arrives, noWait, admitted]
  refine ⟨?_, ?_, ?_, ?_⟩ <;> decide +kernel

/-- R72, R73: an acknowledgement with another tag than the one in flight takes its list entry with it and leaves the wait. -/
theorem test_ack_other_tag : (let s := (acked 0).onGate fun g => { g with inFlight := some (18, 999900000) }
    let t := after (.setpointAckReceived .b 1000000000 (ackResult 0)) s
    (t.gate.sent, t.gate.inFlight, t.gate.lastAck)) = ([], some (18, 999900000), none) := by decide +kernel

/-- R73, R75: a REJECTED acknowledgement raises SETPOINT_REJECTED with the Forwarded Setpoint's P, and the clamp, now at 0 kW, is sent again. -/
theorem test_rejected : (let t := after (.setpointAckReceived .b 1000000000 (ackResult 2)) (acked 0)
    (t.ring.slot.map (·.p), t.gate.lastAck.map (·.result))) = (some 0, some 2) := by decide +kernel

theorem test_hyp_RoundDueStartsARound :
    (let s := withRing fun r => { r with dueAt := some 1000000000 }
     s.phase = .running ∧ s.ring.dueAt = some 1000000000 ∧ 1000000000 ≤ s.now ∧ s.ring.fallenDue = false ∧ s.ring.running = false ∧
       ringQuiet s.ring = true ∧ s.ring.splitReq = 0 ∧ (s.onRing fun r => { r with splitReq := 3, splitPending := true }).ring.splitReq ≠ 0) ∧
    (let s := withRing fun r => { r with dueAt := some 1000000000, running := true }
     s.phase = .running ∧ s.ring.dueAt = some 1000000000 ∧ s.ring.fallenDue = false ∧ s.ring.running = true) ∧
    (let s := (windowed false 999999000 none).onRing fun r => { r with dueAt := some 1000000000 }
     s.phase = .running ∧ s.ring.fallenDue = false ∧ s.ring.running = false ∧ ringQuiet s.ring = false) := by decide +kernel

def nodeCmd : Frame := fromStation 1 kNodeCmd [1, 2]
/-- The slot holds a frame for node 4, and the queue a command for node 1. -/
def slotFour : SlotFrame := ⟨4, 63, 5, 17, -50, 0, ⟨true, false, false⟩⟩

/-- Ring Port A is sending a frame that has just left. -/
def sendingA (x : RingTx) (r0 : SeqPhase) : State :=
  withRing fun r => { r with running := true, seqA := ⟨r0, [2]⟩, portA := { r.portA with tx := [x], txSince := 999999000 } }

theorem test_hyp_RingSendingEnds :
    (let x : RingTx := ⟨⟨1, 0, kPoll, 5, [0, 7]⟩, .poll 1 false⟩
     let s := sendingA x (.polling 1 .a false)
     s.phase = .running ∧ (portOf s.ring .a).tx = [x] ∧ (portOf s.ring .a).txSince + 10 * (8 + x.frame.payload.length) ≤ s.now ∧
       (liveOf s 1).state ≠ .excluded) ∧
    (let s := (sendingA ⟨⟨1, 0, kPoll, 5, []⟩, .poll 1 false⟩ (.polling 1 .a false)).onRing (setLive 1 fun x => { x with state := .excluded })
     (portOf s.ring .a).tx = [⟨⟨1, 0, kPoll, 5, []⟩, .poll 1 false⟩] ∧ (liveOf s 1).state = .excluded) ∧
    (let x : RingTx := ⟨⟨63, 0, kSync, 5, [0, 7]⟩, .broadcast⟩
     let s := sendingA x .sync
     s.phase = .running ∧ (portOf s.ring .a).tx = [x] ∧ s.ring.splitEff = 0 ∧ (seqOf s.ring .a).phase = .sync ∧ s.ring.portB.tx = [] ∧
       (s.onRing fun r => { r with portB := { r.portB with tx := [x] } }).ring.portB.tx ≠ []) ∧
    (let x : RingTx := ⟨slotToFrame slotFour, .slot⟩
     let s := sendingA x .sending
     s.phase = .running ∧ (portOf s.ring .a).tx = [x] ∧ (portOf s.ring .a).txSince + 10 * (8 + x.frame.payload.length) ≤ s.now ∧
       s.ring.running = true ∧ (let i := s.onRing fun r => { r with running := false, fallenDue := true }
         i.ring.running = false ∧ i.ring.fallenDue = true ∧ (portOf i.ring .a).tx = [x] ∧ i.ring.portB.tx = [] ∧ i.ring.seqB.phase = .idle)) ∧
    (let x : RingTx := ⟨⟨1, 63, kNodeCmd, 5, [0, 7]⟩, .command 1 .station⟩
     let s := sendingA x .sending
     s.phase = .running ∧ (portOf s.ring .a).tx = [x] ∧ (portOf s.ring .a).txSince + 10 * (8 + x.frame.payload.length) ≤ s.now) := by
  decide +kernel

/-- R11, R21: after a reply, and after a missed poll, the next node is polled. -/
theorem test_goes_on :
    ((after (.sampleReceived .a 1000000000 (fromNode 1 kSample 63 [])) (awaiting 1 false 999998000)).ring.seqA.phase,
     (after (.replyTimeout .a) (awaiting 1 true 999998000)).ring.seqA.phase) = (.polling 2 .a false, .polling 2 .a false) := by decide +kernel

theorem test_hyp_ReplyTimeoutFollowsUp :
    (let s := awaiting 1 false 999998000
     s.phase = .running ∧ s.ring.splitEff = 0 ∧ s.ring.seqA.phase = .waiting 1 .a false 999998000 ∧ 999998000 + 2000 ≤ s.now ∧
       s.ring.portA.rx.syncAt = none ∧ s.ring.portB.rx.syncAt = none) ∧
    (let s := (awaiting 1 true 999998000).onRing fun r => { r with nodes := r.nodes.set 0 { inServiceNode .a with missed := 2 } }
     s.phase = .running ∧ s.ring.seqA.phase = .waiting 1 .a true 999998000 ∧ 999998000 + 2000 ≤ s.now ∧ hasEntry s 1 ∧
       (liveOf s 1).state = .inService ∧ 2 ≤ (liveOf s 1).missed ∧ s.ring.splitEff = 0) ∧
    (let s := inSplit ⟨.opportunity, [2]⟩ ⟨.waiting 4 .b false 999998000, []⟩ up
     s.phase = .running ∧ s.ring.splitEff ≠ 0 ∧ (seqOf s.ring .b).phase = .waiting 4 .b false 999998000 ∧ 999998000 + 2000 ≤ s.now ∧
       s.ring.portA.rx.syncAt = none ∧ s.ring.portB.rx.syncAt = none ∧ hasEntry s 4) := by
  simp only [hasEntry]; decide +kernel

def chance (rest : List Nat) (x : Option SlotFrame) (q : List (Frame × FramePort)) : State :=
  withRing fun r => { r with running := true, round := 7, seqA := ⟨.opportunity, rest⟩, slot := x, downQueue := q }

/-- No round runs, and nothing is being sent. -/
def between (x : Option SlotFrame) (q : List (Frame × FramePort)) : State :=
  withRing fun r => { r with running := false, seqA := ⟨.idle, []⟩, slot := x, downQueue := q }

/-- In split mode both sides have an opportunity: the slot's frame is for side B, the queue's head for side A. -/
def chances (x : Option SlotFrame) (q : List (Frame × FramePort)) : State :=
  (chance [] x q).onRing fun r => { r with splitReq := 3, splitEff := 3, seqB := ⟨.opportunity, [4]⟩ }

def slotAway (s : State) (p : RingPort) : Bool :=
  s.ring.slot.all fun f => decide (s.ring.splitEff ≠ 0 ∧ (liveOf s f.dst.toNat).side ≠ p)
def queueAway (s : State) (p : RingPort) : Bool :=
  s.ring.downQueue.head?.all fun f => decide (s.ring.splitEff ≠ 0 ∧ (liveOf s f.1.dst.toNat).side ≠ p ∧
    (liveOf s f.1.dst.toNat).state ≠ .unconfigured ∧ (liveOf s f.1.dst.toNat).state ≠ .excluded)

theorem slotElsewhere_iff (s : State) (p : RingPort) : slotElsewhere s p ↔ slotAway s p = true := by
  unfold slotElsewhere slotAway
  cases s.ring.slot <;> simp
theorem queueElsewhere_iff (s : State) (p : RingPort) : queueElsewhere s p ↔ queueAway s p = true := by
  unfold queueElsewhere queueAway
  cases s.ring.downQueue.head? <;> simp

theorem test_hyp_OpportunitySendsOne :
    (let s := chance [2] (some slotFour) []
     s.phase = .running ∧ atSide s .a ∧ (seqOf s.ring .a).phase = .opportunity ∧ s.ring.slot = some slotFour ∧ s.ring.splitEff = 0 ∧
       slotFour.src ≠ 0) ∧
    (let s := chances (some slotFour) [(nodeCmd, .station)]
     atSide s .b ∧ (seqOf s.ring .b).phase = .opportunity ∧ (liveOf s slotFour.dst.toNat).side = .b ∧ s.ring.splitEff ≠ 0) ∧
    (let s := chance [2] none [(nodeCmd, .station)]
     atSide s .a ∧ slotElsewhere s .a ∧ s.ring.downQueue = (nodeCmd, .station) :: [] ∧ s.ring.splitEff = 0 ∧
       (liveOf s nodeCmd.dst.toNat).state ≠ .unconfigured ∧ (liveOf s nodeCmd.dst.toNat).state ≠ .excluded) ∧
    (let s := chances (some slotFour) [(nodeCmd, .station)]
     atSide s .a ∧ (seqOf s.ring .a).phase = .opportunity ∧ slotElsewhere s .a ∧ s.ring.downQueue = (nodeCmd, .station) :: [] ∧
       (liveOf s nodeCmd.dst.toNat).side = .a ∧ (liveOf s nodeCmd.dst.toNat).state ≠ .unconfigured ∧
       (liveOf s nodeCmd.dst.toNat).state ≠ .excluded) ∧
    (let s := chance [2] none []
     atSide s .a ∧ slotElsewhere s .a ∧ queueElsewhere s .a ∧ s.ring.running = true ∧ (seqOf s.ring .a).rest = 2 :: []) ∧
    (let s := chances none [(nodeCmd, .station)]
     atSide s .b ∧ (seqOf s.ring .b).phase = .opportunity ∧ slotElsewhere s .b ∧ queueElsewhere s .b ∧ s.ring.running = true ∧
       (seqOf s.ring .b).rest = 4 :: []) ∧
    (let s := chances (some slotFour) []
     atSide s .a ∧ slotElsewhere s .a ∧ queueElsewhere s .a ∧ (seqOf s.ring .a).rest = []) ∧
    (let s := between (some { slotFour with src := 0 }) []
     atSide s .a ∧ opportunityAt s .a ∧ s.ring.slot = some { slotFour with src := 0 } ∧ s.ring.splitEff = 0) ∧
    (let s := between none [(fromStation 40 kNodeCmd [], .station), (nodeCmd, .station)]
     atSide s .a ∧ opportunityAt s .a ∧ slotElsewhere s .a ∧
       s.ring.downQueue = (fromStation 40 kNodeCmd [], .station) :: [(nodeCmd, .station)] ∧
       (liveOf s (fromStation 40 kNodeCmd []).dst.toNat).state = .unconfigured) ∧
    (let s := between none []
     s.phase = .running ∧ atSide s .a ∧ opportunityAt s .a ∧ slotElsewhere s .a ∧ queueElsewhere s .a ∧ s.ring.running = false ∧
       s.ring.fallenDue = false) := by
  simp only [atSide, opportunityAt, slotElsewhere_iff, queueElsewhere_iff]
  and_intros <;> decide +kernel

/-- R9, R21, R23: outside a round a refused head makes way for the next one, and a frame the S48 originated takes the ring's count. -/
theorem test_refused_head : (let t := after (.transmissionOpportunity .a) (between none [(fromStation 40 kNodeCmd [], .station), (nodeCmd, .station)])
    (t.ring.downQueue, (portOf t.ring .a).tx.map (·.frame))) = ([], [nodeCmd]) := by decide +kernel
theorem test_slot_count : (let t := after (.transmissionOpportunity .a) ((between (some { slotFour with src := 0 }) []).onRing fun r => { r with count := 63 })
    (t.ring.count, t.ring.portB.tx.map (·.frame.seq))) = (1, [63]) := by decide +kernel

/-- A round that has ended, after the next one fell due while it ran. -/
def overran (s : State) : State :=
  s.onRing fun r => { r with running := true, round := 65535, roundStart := 999000000, seqA := ⟨.done, []⟩, fallenDue := true, overrun := true }

/-- R8: the round after an overrun starts at once, with the next round number and the nodes of the Poll List to poll. -/
theorem test_overrun_starts : (let r := (after .roundEnd (overran up)).ring
    (r.running, r.round, r.roundStart, r.dueAt, r.seqA.rest)) = (true, 0, 1000000000, some 1000100000, [1, 2, 3, 4]) := by decide +kernel

theorem test_hyp_RoundEndPublishes :
    (let s := withRing fun r => { r with running := true, seqA := ⟨.done, []⟩ }
     s.phase = .running ∧ s.ring.running = true ∧ s.ring.splitEff = 0 ∧ s.ring.seqA.phase = .done ∧ s.ring.fallenDue = false ∧
       s.mgmt.ringStaged = [] ∧ 3 < s.cool.zones.length) ∧
    (let s := inSplit ⟨.done, []⟩ ⟨.done, []⟩ up
     s.phase = .running ∧ s.ring.running = true ∧ s.ring.seqA.phase = .done ∧ s.ring.splitEff ≠ 0 ∧ s.ring.seqB.phase = .done ∧
       s.ring.fallenDue = false) ∧
    (let s := overran up
     s.phase = .running ∧ s.ring.running = true ∧ s.ring.seqA.phase = .done ∧ s.ring.splitEff = 0 ∧ s.ring.fallenDue = true ∧
       s.ring.overrun = true) ∧
    (let s := (overran up).onRing fun r => { r with nodes := r.nodes.set 1 (inServiceNode .b) }
     s.ring.running = true ∧ s.ring.fallenDue = true ∧ s.ring.broken = false ∧ (after .roundEnd s).ring.broken = true) ∧
    ((withMgmt fun m => { m with ringStaged := [.interval 250] }).mgmt.ringStaged ≠ []) ∧
    (RingPart.rate 19200 ∈ (withMgmt fun m => { m with ringStaged := [.rate 19200] }).mgmt.ringStaged) ∧ (∀ r, RingPart.rate r ∉ up.mgmt.ringStaged) ∧
    (recOf up 1 = some freshModule ∧ (liveOf up 1).state = .inService ∧ freshModule.hottest = none ∧
      recOf (moduleAwaited .inService none heardModule .all) 1 = some heardModule ∧ heardModule.hottest = some 250) := by
  and_intros
  all_goals first
    | decide +kernel
    | exact List.mem_singleton.mpr rfl
    | exact fun r h => List.not_mem_nil h

theorem test_hyp_NodeRequests :
    (held (rq [1]) up ∧ hasEntry up 1 ∧ (1 : Byte).toNat ≤ 40 ∧ (liveOf up 1).state ≠ .unconfigured ∧ (liveOf up 1).state ≠ .excluded ∧
      awaitedSide up.ring 1 = none) ∧
    (let s := withRing fun r => { r with nodes := r.nodes.set 39 { inServiceNode .a with state := .excluded } }
     held (rq [40]) s ∧ hasEntry s 40 ∧ (liveOf s 40).state = .excluded) ∧
    (held (rq [4]) up ∧ (4 : Byte).toNat ≤ up.mgmt.ringTables.poll.length) ∧
    (let s := awaiting 1 false 999999000
     held (rq [1]) s ∧ hasEntry s 1 ∧ (liveOf s 1).state ≠ .unconfigured ∧ (liveOf s 1).state ≠ .excluded ∧ awaitedSide s.ring 1 = some .a) ∧
    (held (rq [0]) up ∧ 40 < (41 : Byte).toNat ∧ (liveOf up (5 : Byte).toNat).state = .unconfigured ∧
      (liveOf up (1 : Byte).toNat).state ≠ .excluded ∧ up.mgmt.ringTables.poll.length < (5 : Byte).toNat) := by
  simp only [held, taken, reaches, hasEntry]; decide +kernel

/-- R7, R10: the node whose reply is awaited is excluded, and the next one is polled at once; its missed polls stay. -/
theorem test_exclude_awaited : (let t := after (.excludeNode (rq [1])) (awaiting 1 false 999999000)
    (t.ring.seqA.phase, (liveOf t 1).state, (liveOf t 1).missed)) = (.polling 2 .a false, .excluded, 0) := by decide +kernel

/-! ### Cells and the power envelope -/

theorem test_hyp_DwellAndLatch :
    (let x : Chan := ⟨some 4100, .normal, 0, none, false⟩
     let rs : List (Option Int) := [some 4250, some 4300, some 4260]
     x.cond = .normal ∧ x.latched = false ∧ x.dwell = 0 ∧ x.level = none ∧ 1 ≤ defaultProfile.dwell ∧ 1 < Cond.ovTrip.rank ∧
       (∀ r ∈ rs, candidate .cell defaultProfile r = .ovTrip) ∧ rs.length ≤ defaultProfile.dwell ∧ rs.length = defaultProfile.dwell ∧
       (rs.drop 1).length < defaultProfile.dwell) ∧
    ((⟨some 4270, .ovTrip, 0, none, true⟩ : Chan).latched = true) ∧
    (let x : Chan := ⟨some 4200, .ovWarn, 1, some .ovTrip, false⟩
     x.latched = false ∧ x.cond.isTrip = false ∧ staysIn defaultProfile (some 4300) x.cond ∧ ¬staysIn defaultProfile (some 4129) x.cond ∧
       staysIn defaultProfile none x.cond) ∧
    (let x : Chan := ⟨some 4100, .normal, 0, none, false⟩
     let rs : List (Option Int) := [some 4160, none, some 4300]
     x.cond.isTrip = false ∧ rs.length = defaultProfile.dwell ∧
       ∀ r ∈ rs, staysIn defaultProfile r x.cond ∧ x.cond.rank < (candidate .cell defaultProfile r).rank) := by
  refine ⟨by decide +kernel, rfl, ⟨rfl, rfl, ?_, ?_, ?_⟩, rfl, rfl, ?_⟩
  · rintro _ ⟨⟩; decide
  · intro h; exact absurd (h 4129 rfl) (by decide)
  · rintro _ ⟨⟩
  · intro r hr
    refine ⟨trivial, ?_⟩
    revert r; decide +kernel

/-- Section 2.4, the falls of samples 10 and 16, and a swing to the other warning (R32). -/
theorem test_falls : (chanEval .cell defaultProfile (some 4200) ⟨none, .sensorFault, 0, none, false⟩).cond = .ovWarn ∧
    (chanEval .cell defaultProfile (some 4125) ⟨some 4135, .ovWarn, 0, none, false⟩).cond = .normal ∧
    chanEval .cell defaultProfile (some 2700) ⟨some 4200, .ovWarn, 2, some .ovTrip, false⟩ = ⟨some 2700, .normal, 1, some .uvWarn, false⟩ := by decide

theorem test_hyp_ClearTripsRequest :
    (held (rq []) up ∧ recOf up 1 = some freshModule) ∧
    (let x : Chan := ⟨some 4229, .ovTrip, 0, none, true⟩
     x.latched = true ∧ x.cond = .ovTrip ∧ x.value = some 4229 ∧ 4229 < defaultProfile.ovTrip - defaultProfile.vHyst ∧
       defaultProfile.ovTrip - defaultProfile.vHyst ≤ 4230) ∧
    (let x : Chan := ⟨some (defaultProfile.uvTrip + defaultProfile.vHyst + 1), .uvTrip, 0, none, true⟩
     x.latched = true ∧ x.cond = .uvTrip ∧ x.value = some (defaultProfile.uvTrip + defaultProfile.vHyst + 1)) ∧
    (let x : Chan := ⟨some (defaultProfile.otTrip - defaultProfile.tHyst), .otTrip, 0, none, true⟩
     x.latched = true ∧ x.cond = .otTrip ∧ x.value = some (defaultProfile.otTrip - defaultProfile.tHyst)) ∧
    ((⟨some 4100, .normal, 1, some .ovWarn, false⟩ : Chan).latched = false ∧ (⟨none, .ovTrip, 0, none, true⟩ : Chan).value = none) := by
  simp only [held, taken, reaches]; decide +kernel

/-- Zone 0 has an outlet temperature in use. -/
def withOutlet : State := cooled.onCool fun c => { c with zones := c.zones.set 0 { freshZone (defaultZone 0) with outlet := some 300 } }

theorem test_hyp_ReadingRequests :
    taken (rq [1]) up ∧ (moduleResults (received (rq [1]) up) 1 0).isSome = true ∧
      (moduleResults (received (rq [1, 2]) up) 1 2).isSome = true ∧ (3 : Byte).toNat < 4 ∧ (23 : Byte).toNat < 24 ∧
      (statusResults (received (rq [1, 0]) up) 1 0).isSome = true ∧ 1 ≤ (40 : Byte).toNat ∧ (40 : Byte).toNat ≤ 40 ∧
      (counterResults (received (rq [2]) up) (rq [2]).args).isSome = true ∧ (rq [1, 40, 0]).args = [1, 40, 0] ∧
      (appliedPart up.mgmt (1, 40)).isSome = true ∧ (rq [3, 0]).args = [3, 0] ∧ (zoneLive up 0).outlet = none ∧
      (let s := withOutlet
       (zoneLive s 0).outlet = some 300 ∧ (zoneCfg s.mgmt.ringTables.cooling 0).node = some 2 ∧ (cfgOf s 2).role = .cool ∧
         (cfgOf s 2).zone = 0 ∧ (liveOf s 2).state = .inService) := by
  simp only [taken, reaches]; decide +kernel

theorem test_hyp_VoltageFactors :
    let c := defaultEnvelope.taper
    c.vcStart < c.vcEnd ∧ c.vdEnd < c.vdStart ∧ (c.vcStart < 4199 ∧ 4199 < c.vcEnd) ∧ (c.vdEnd < 2701 ∧ 2701 < c.vdStart) := by decide

theorem test_hyp_CurveValue :
    let ps := defaultEnvelope.hot
    ps.Pairwise (fun x y => x.1 < y.1) ∧ (∀ x ∈ ps, x.2 ≤ 1000) ∧ (ps.head? = some (300, 1000) ∧ (299 : Int) < 300) ∧
      (ps.getLast? = some (600, 0) ∧ (600 : Int) ≤ 600) ∧ (450, 700) ∈ ps ∧
      (ps[1]? = some (400, 1000) ∧ ps[2]? = some (450, 700) ∧ (400 : Int) < 401 ∧ (401 : Int) < 450) := by decide

theorem test_hyp_SlopeSteps : 1 ≤ defaultEnvelope.ratings.upSlope ∧ 1 ≤ defaultEnvelope.ratings.downSlope := by decide

/-! ### The setpoint path -/

def setpoint : Frame := fromStation 4 kSetpoint [17, 0xF9, 0xC0, 0, 100, 0]

theorem test_hyp_SetpointScreened :
    (comesIn .station 999750000 up ∧ route setpoint = .setpoint ∧
      parseSetpoint setpoint.payload = some (17, -1600, 100) ∧ roleAddr up .conv = some setpoint.dst.toNat ∧
      (liveOf up setpoint.dst.toNat).state ≠ .excluded ∧ up.link.holder = .station) ∧
    (let f := fromStation 4 kSetpoint [17, 0]
     route f = .setpoint ∧ f.payload = 17 :: [0] ∧ parseSetpoint f.payload = none) ∧
    (let f := fromStation 1 kSetpoint setpoint.payload
     route f = .setpoint ∧ parseSetpoint f.payload = some (17, -1600, 100) ∧ roleAddr up .conv ≠ some f.dst.toNat) ∧
    (let s := withRing fun r => { r with nodes := r.nodes.set 3 { inServiceNode .b with state := .excluded } }
     comesIn .station 1000000000 s ∧ roleAddr s .conv = some setpoint.dst.toNat ∧
       (liveOf s setpoint.dst.toNat).state = .excluded) ∧
    (let s := withLink fun l => { l with holder := .service }
     comesIn .station 1000000000 s ∧ roleAddr s .conv = some setpoint.dst.toNat ∧
       (liveOf s setpoint.dst.toNat).state ≠ .excluded ∧ s.link.holder ≠ .station) := by
  simp only [comesIn]; decide +kernel

theorem test_hyp_GateTimersExpire :
    (let s := withGate fun g => { g with inFlight := some (17, 999500000) }
     s.phase = .running ∧ s.gate.inFlight = some (17, 999500000) ∧ 999500000 + 500000 ≤ s.now) ∧
    (let s := withGate fun g => { g with silenceSince := some 970000000 }
     s.phase = .running ∧ s.gate.silent = false ∧ s.link.holder = .station ∧ s.gate.silenceSince = some 970000000 ∧
       970000000 + s.mgmt.ringTables.setpoint.silenceTime * 1000000 ≤ s.now ∧ s.gate.inFlight = none ∧ s.gate.forwarded = none ∧
       roleAddr s .conv = some 4 ∧ (liveOf s 4).state ≠ .excluded) ∧
    (let s := acked 0
     s.phase = .running ∧ s.gate.inFlight = some (17, 999900000) ∧ s.gate.requested = some ⟨-50, 0, 17, .station, false⟩ ∧ s.ring.slot = none ∧
       roleAddr s .conv = some 4 ∧ (liveOf s 4).state ≠ .excluded ∧ min (max (-50) (-(s.env.chg : Int))) (s.env.dis : Int) ≠ -50) ∧
    (let s := { acked 0 with env := { up.env with chg := 500 } }
     min (max (-50) (-(s.env.chg : Int))) (s.env.dis : Int) = -50) := by decide +kernel

/-- R75: after the timeout the clamp at 0 kW is sent again with CLAMPED and REISSUED; under 500 kW, where nothing differs, nothing is. -/
def timedOut (chg : Nat) : Option SlotFrame :=
  (after .ackTimeout { acked 0 with now := 1000500000, env := { up.env with chg := chg } }).ring.slot
theorem test_reissue_differs : (timedOut 0).map (fun f => (f.tag, f.p, f.flags)) = some (17, 0, ⟨true, true, false⟩) := by decide +kernel
theorem test_reissue_same : timedOut 500 = none := by decide +kernel

/-! ### Cooling -/

theorem test_hyp_MinimumStage :
    let sh := defaultShaping
    (0 < 1 ∧ 0 < sh.minDuty ∧ sh.minDuty ≤ 150 ∧ 149 < sh.minDuty) ∧ (0 < minStage sh 200 0) := by decide

theorem test_hyp_DutyMovesBySlope : 11 < up.cool.outs.length := by decide +kernel

/-- Fan outputs 1, 5 and 7 run. -/
def fansRun : State := withCool fun c => [5, 9, 11].foldl (fun c o => modOut o (fun x => { x with applied := 300 }) c) c

theorem test_hyp_PwmCommands :
    (up.phase = .running ∧ [250, 500, 1000][2]? = some 1000 ∧ (up.now - up.cool.refBase) % 1000 = 0 ∧
      up.cool.refTaken.getD 2 none ≠ some up.now ∧ up.cool.outs.length = 12) ∧
    (let s := withCool fun x => { x with refTaken := [none, some 999999501, none] }
     s.phase = .running ∧ (outLive s 11).nextStart ≤ s.now ∧ [250, 500, 1000][1]? = some (outLive s 11).period ∧
       s.cool.refTaken.getD 1 none = some 999999501 ∧ s.now < 999999501 + (outLive s 11).period ∧ 11 < s.cool.outs.length) ∧
    (let s := withCool (modOut 11 fun x => { x with level := true, highEnd := some 1000000000 })
     s.phase = .running ∧ (outLive s 11).level = true ∧ (outLive s 11).highEnd = some 1000000000 ∧ 1000000000 ≤ s.now) ∧
    (let x := { outLive up 11 with level := true, highEnd := some 1000000000 }
     (outLive (withCool (modOut 11 fun _ => { x with nextStart := 1000000001 })) 11).nextStart = 1000000001 ∧
       (outLive (withCool (modOut 11 fun _ => { x with nextStart := 1000000000 })) 11).nextStart ≤ 1000000000) ∧
    (let s := fansRun
     let active := (List.range 12).filter fun x => decide (4 ≤ x) && cfgPeriod s.mgmt.ringTables.cooling x == 500 && decide (0 < (outLive s x).applied)
     active = [5, 9, 11] ∧ 9 ∈ active ∧ 6 ∉ active) := by decide +kernel

/-- R94: the offsets of three active fan outputs of 500 counts, and of one that is not active. -/
theorem test_offsets : [5, 9, 11, 6].map (phaseOffset fansRun 500) = [0, 166, 333, 0] := by decide +kernel

def pumped (p : Nat) (x : PumpLive) : State := withCool (modPump p fun _ => x)

/-- CONNECTED, with a pump at its last fault and its zone counted, or not. -/
def lastFault (counted : Bool) : State :=
  ((pumped 0 ⟨.running, 2, 0, none, some 990000000, none⟩).onSeqr fun q => { q with state := .connected }).onCool
    (modZone 0 fun z => { z with counted := counted })

/-- R99, R100, R148: the LOCKED pump makes its zone FAILED; in a counted zone the bay is FAILED with it, and the sequencer trips with COOLING. -/
theorem test_cooling_trips :
    (let t := after (.flowLossTimeout 0) (lastFault true)
     ((zoneLive t 0).state, t.cool.bay, t.seqr.state, t.seqr.trip)) = (.failed, .failed, .tripping, some ⟨.cooling, .bay, .opening⟩) ∧
    (let t := after (.flowLossTimeout 0) (lastFault false)
     ((zoneLive t 0).state, t.cool.bay, t.seqr.state)) = (.failed, .idle, .connected) := by decide +kernel

theorem test_hyp_PumpSupervision :
    (let s := pumped 3 ⟨.running, 2, 0, none, some 990000000, none⟩
     s.phase = .running ∧ 3 < s.cool.pumps.length ∧ 3 < s.cool.outs.length ∧ (pumpLive s 3).flowLoss = some 990000000 ∧
       990000000 + 10000000 ≤ s.now) ∧
    (let s := pumped 0 ⟨.restartWait, 1, 0, none, none, some 970000000⟩
     s.phase = .running ∧ 0 < s.cool.pumps.length ∧ 0 < s.cool.outs.length ∧ (pumpLive s 0).state = .restartWait ∧
       (pumpLive s 0).restart = some 970000000 ∧ 970000000 + 30000000 ≤ s.now) ∧
    (let s := pumped 0 ⟨.running, 1, 200000000, some 900000000, none, none⟩
     s.phase = .running ∧ (pumpLive s 0).clockSince = some 900000000 ∧ 300000000 ≤ (pumpLive s 0).clock + (s.now - 900000000)) ∧
    (let s := (pumped 3 ⟨.locked, 3, 0, none, none, none⟩).onCool (modPump 1 fun _ => ⟨.locked, 3, 0, none, none, none⟩)
     held (rq [3]) s ∧ 3 < s.cool.pumps.length ∧ 3 < s.cool.outs.length ∧ (pumpLive s 3).state = .locked ∧ (pumpLive s 1).state = .locked ∧
       held (rq [0xFF]) s ∧ s.cool.pumps.length = 4 ∧ s.cool.outs.length = 12) ∧
    ((pumpLive (lastFault true) 0).state = .running ∧ (zoneCfg (lastFault true).mgmt.ringTables.cooling 0).pump = some 0 ∧
      0 < (lastFault true).cool.zones.length ∧ (lastFault true).cool.bay ≠ .failed ∧
      (after (.flowLossTimeout 0) (lastFault true)).cool.bay = .failed) ∧
    (3 < (coolingPass freshSummary up).cool.zones.length) ∧
    (0 < (coolNode 2 cooled).cool.zones.length ∧ (zoneCfg cooled.mgmt.ringTables.cooling 0).node = some 2 ∧ (cfgOf cooled 2).role = .cool ∧
      (cfgOf cooled 2).zone = 0) ∧
    (awaits .a .a 1000000000 999998000 false coolantFrame cooled ∧ (liveOf cooled 2).state = .inService ∧
      (liveOf cooled 2).lastCount ≠ some coolantFrame.seq.toNat ∧
      payloadOf (cfgOf cooled 2) coolantFrame.payload = some (.cool ⟨250, 0x7FFF, 99, 20, 1⟩) ∧ 0 < cooled.cool.zones.length) := by
  simp only [held, taken, reaches, awaits, arrives, admitted]; decide +kernel

/-- R99: at a COOLANT sample with the outlet below, at outlet_warn (450) and at outlet_trip (550), the pump running. -/
theorem test_outlet_state :
    ([(1, 0xC1), (1, 0xC2), (2, 0x26)].map fun x : Byte × Byte =>
      (zoneLive (after (.sampleReceived .a 1000000000 (fromNode 2 kSample 63 [0, 250, x.1, x.2, 2, 0, 0, 20, 1])) cooled) 0).state) =
    [.running, .degraded, .failed] := by decide +kernel

/-- Byte 2 of the frames on the way up a port, oldest first: the code of a notice (Table 12-5), the status of a response. -/
def carried (tx : Option UpTx) (waiting : List UpFrame) : List Byte :=
  ((tx.map fun x => x.item).toList ++ waiting).map fun x => x.frame.payload.getD 2 0

/-- R98: PUMP_STATE (22), the response DONE, and then the ZONE_STATE (23) of the re-evaluation. -/
theorem test_unlock_order : (let l := (after (.clearPumpLock (rq [3])) ((pumped 3 ⟨.locked, 3, 0, none, none, none⟩).onCool
      (modZone 3 fun z => { z with state := .failed }))).link
    carried l.queueTx l.queue) = [22, 0, 23] := by decide +kernel

/-! ### The detector loop -/

def runs (o : ScriptOwner) (results : List StepResult) : State :=
  withLoop fun l => { l with running := true, rest := [1], polled := [0], act := .running ⟨o, defaultScript, results⟩, actSince := 999970000,
                             signals := actSignals l.bus (.running ⟨o, defaultScript, results⟩) }

theorem test_hyp_LoopRounds :
    (let s := withLoop fun l => { l with dueAt := some 1000000000 }
     s.phase = .running ∧ s.loop.fallenDue = false ∧ s.loop.dueAt = some 1000000000 ∧ 1000000000 ≤ s.now) ∧
    (let s := withLoop fun l => { l with fallenDue := true }
     s.phase = .running ∧ s.loop.fallenDue = true ∧ loopIdle s.loop = true ∧
       (List.range 24).filter (fun d => (detCfg s d).supervised) = 0 :: [1] ∧
       s.mgmt.loopTables.scripts.getD (detCfg s 0).script [] = ⟨.openBus, false, .detectorWrite, .continue_⟩ :: defaultScript.drop 1) ∧
    (let s := (withLoop fun l => { l with fallenDue := true }).onMgmt fun m => { m with loopTables := defaultLoopTables }
     s.loop.fallenDue = true ∧ loopIdle s.loop = true ∧ (List.range 24).filter (fun d => (detCfg s d).supervised) = []) := by decide +kernel

/-- The results of the default script before its last step. -/
def fourResults : List StepResult := [.ack, .ack, .ack, .byte 0x01]

/-- A single-byte detector is polled as the last of its round, its script at the last step. -/
def lastByte (kind : DetKind) (x : DetLive) : State :=
  { runs (.polled 0) fourResults with
    loop := { (runs (.polled 0) fourResults).loop with rest := [], bus := .readOpen }
    mgmt := { up.mgmt with loopTables := { bayLoopTables with detectors := bayLoopTables.detectors.set 0 ⟨kind, 0, 0, 5, 1, 100, 200, 10, true⟩ } }
    fire := { up.fire with dets := up.fire.dets.set 0 x } }

/-- R125: with module 1 of zone 0 IN_SERVICE the zone is blind while its detectors are UNKNOWN, and not once one reads NORMAL; its module SILENT, no longer. -/
theorem test_detection_blind :
    ((after (.loopByteDone false 7) (runs (.polled 0) [])).fire.blind, (after (.loopByteDone true 7) (lastByte .smoke ⟨.unknown, 0, 0, none, false⟩)).fire.blind) =
      ([true, false, false, false], [false, false, false, false]) ∧
    (after (.replyTimeout .a) ((awaiting 1 true 999998000).onRing fun r => { r with nodes := r.nodes.set 0 { inServiceNode .a with missed := 2 } })).fire.blind =
      [false, false, false, false] := by decide +kernel

theorem test_hyp_LoopBytes :
    ((⟨.openBus, false, .detectorWrite, .continue_⟩ : ScriptStep).lead ≠ .release) ∧
    (let s := runs (.polled 0) [.ack]
     s.phase = .running ∧ s.loop.act = .running ⟨.polled 0, defaultScript, [.ack]⟩ ∧ defaultScript[1]? = some ⟨.plain, false, .literal 0, .last⟩ ∧
       defaultScript[2]? = some ⟨.reopen, false, .detectorRead, .continue_⟩ ∧ s.loop.actSince + signalTime s.loop.signals ≤ s.now) ∧
    (defaultScript[3]? = some ⟨.plain, true, .literal 0, .continue_⟩ ∧ defaultScript[4]? = some ⟨.plain, true, .literal 0, .lastStop⟩) ∧
    (let s := runs (.polled 0) []
     s.phase = .running ∧ s.loop.act = .running ⟨.polled 0, defaultScript, []⟩ ∧
       defaultScript[0]? = some ⟨.openBus, false, .detectorWrite, .continue_⟩ ∧ s.loop.running = true ∧ s.loop.rest = 1 :: [] ∧
       s.loop.manual = none ∧ s.loop.hold = none ∧ 0 < s.fire.dets.length ∧
       s.mgmt.loopTables.scripts.getD (detCfg s 1).script [] = ⟨.openBus, false, .detectorWrite, .continue_⟩ :: defaultScript.drop 1 ∧
       s.loop.actSince + signalTime s.loop.signals ≤ s.now) ∧
    (let s := lastByte .smoke ⟨.preAlarm, 0, 1, some 0, false⟩
     s.phase = .running ∧ s.loop.act = .running ⟨.polled 0, defaultScript, fourResults⟩ ∧
       defaultScript[fourResults.length]? = some ⟨.plain, true, .literal 0, .lastStop⟩ ∧ defaultScript.length = fourResults.length + 1 ∧
       s.loop.running = true ∧ s.loop.rest = [] ∧ s.loop.manual = none ∧ s.loop.hold = none ∧ s.mgmt.loopStaged = [] ∧
       0 < s.fire.dets.length ∧ (detCfg s 0).width = 1 ∧ (detCfg s 0).readingStep = 5 ∧
       s.loop.actSince + signalTime s.loop.signals ≤ s.now) ∧
    (detCfg (lastByte .callPoint ⟨.normal, 0, 0, none, false⟩) 0).kind = .callPoint ∧
    (∀ b : Byte, (fourResults ++ [StepResult.byte b])[5 - 1]? = some (.byte b)) ∧
    (let c : DetCfg := ⟨.smoke, 0, 0, 4, 2, 100, 200, 10, true⟩
     c.width = 2 ∧ 1 ≤ c.readingStep ∧ (fourResults ++ [StepResult.byte 0xC4])[c.readingStep - 1]? = some (.byte 0x01) ∧
       (fourResults ++ [StepResult.byte 0xC4])[c.readingStep]? = some (.byte 0xC4) ∧ 452 = 256 * (0x01 : Byte).toNat + (0xC4 : Byte).toNat) := by
  refine ⟨by decide, by decide +kernel, by decide, by decide +kernel, by decide +kernel, by decide +kernel, fun b => rfl, by decide⟩

/-- Section 6.7: the two bytes of steps 4 and 5 are the reading 0x01C4. -/
theorem test_two_bytes : (let s := lastByte .smoke ⟨.normal, 0, 0, none, false⟩
    let s := s.onMgmt fun m => { m with loopTables := { m.loopTables with
      detectors := m.loopTables.detectors.set 0 ⟨.smoke, 0, 0, 4, 2, 500, 600, 10, true⟩ } }
    (detLive (after (.loopByteDone true 0xC4) s) 0).last) = some 0x01C4 := by decide +kernel

def runArgs : List Byte := [2, 0x00, 0x20, 0x82, 0x05]
def manual : Manual := ⟨.service, 63, 9, [⟨.openBus, false, .literal 0x20, .continue_⟩], false⟩
def runningManual : Manual := ⟨.service, 63, 9, [⟨.openBus, false, .literal 0x20, .continue_⟩], true⟩

/-- The bus is in an activity that has run its time, a loop round waits to go on, and a manual transaction may stand. -/
def waitsFor (a : LoopAct) (m : Option Manual) : State :=
  withLoop fun l => { l with running := true, rest := [1], polled := [0], act := a, manual := m, actSince := 999970000,
                             signals := actSignals l.bus a }

theorem preAlarm_iff (s : State) : preAlarmSource s = true ↔ preAlarmExists s := by
  simp only [preAlarmSource, List.any_eq_true, List.mem_range, Bool.and_eq_true, Bool.or_eq_true, beq_iff_eq, DetCfg.supervised, bne_iff_ne,
    preAlarmExists, detIn]
  constructor
  · rintro (⟨d, hd, ⟨hu, he⟩, h | h⟩ | ⟨z, hz⟩)
    · exact .inl ⟨d, .inl ⟨hd, hu, he, h⟩⟩
    · exact .inl ⟨d, .inr ⟨hd, hu, he, h⟩⟩
    · exact .inr ⟨z, hz⟩
  · rintro (⟨d, ⟨hd, hu, he, h⟩ | ⟨hd, hu, he, h⟩⟩ | ⟨z, hz⟩)
    · exact .inl ⟨d, hd, ⟨hu, he⟩, .inl h⟩
    · exact .inl ⟨d, hd, ⟨hu, he⟩, .inr h⟩
    · exact .inr ⟨z, hz⟩

theorem test_hyp_BusRecovery :
    (let s := runs (.polled 0) []
     s.phase = .running ∧ s.loop.act = .running ⟨.polled 0, defaultScript, []⟩ ∧
       defaultScript[0]? = some ⟨.openBus, false, .detectorWrite, .continue_⟩ ∧ s.loop.actSince ≤ 999974999 ∧ 999974999 + 25000 < s.now) ∧
    (defaultScript[2]? = some ⟨.reopen, false, .detectorRead, .continue_⟩ ∧ defaultScript[4]? = some ⟨.plain, true, .literal 0, .lastStop⟩) ∧
    (let e : ScriptEnd := ⟨.polled 0, .complete, fourResults⟩
     let s := withLoop fun l => { l with act := .closing (some e), actSince := 999970000 }
     s.phase = .running ∧ s.loop.act = .closing (some e) ∧ StepResult.released ∉ e.results ∧ s.loop.actSince ≤ 999974999 ∧
       999974999 + 25000 < s.now) ∧
    (let e : ScriptEnd := ⟨.manual, .complete, [.released]⟩
     let s := withLoop fun l => { l with act := .closing (some e), actSince := 999970000 }
     s.phase = .running ∧ s.loop.act = .closing (some e) ∧ StepResult.released ∈ e.results ∧ s.loop.actSince ≤ 999974999 ∧
       999974999 + 25000 < s.now) ∧
    (let s := withLoop fun l => { l with act := .recovering none true, actSince := 999970000, signals := recoverySignals }
     s.phase = .running ∧ s.loop.act = .recovering none true ∧ s.loop.manual = none ∧ s.loop.running = false ∧ s.loop.actSince ≤ 999974999 ∧
       999974999 + 25000 < s.now ∧ s.loop.actSince + signalTime s.loop.signals ≤ s.now) ∧
    (let s := withLoop fun l => { l with act := .closing none, signals := closeSignals .readOpen }
     s.phase = .running ∧ s.loop.act = .closing none ∧ s.loop.manual = none ∧ s.loop.running = false ∧
       s.loop.actSince + signalTime s.loop.signals ≤ s.now) ∧
    (let s := waitsFor (.recovering (some ⟨.polled 0, .busStuck, []⟩) false) none
     s.phase = .running ∧ s.loop.running = true ∧ s.loop.rest = 1 :: [] ∧ s.loop.manual = none ∧ s.loop.hold = none ∧ 0 < s.fire.dets.length ∧
       s.mgmt.loopTables.scripts.getD (detCfg s 1).script [] = ⟨.openBus, false, .detectorWrite, .continue_⟩ :: defaultScript.drop 1 ∧
       s.loop.actSince + signalTime s.loop.signals ≤ s.now ∧ (detCfg (lastByte .smoke ⟨.normal, 0, 0, none, false⟩) 0).width = 1 ∧
       (fourResults ++ [StepResult.byte 7])[5 - 1]? = some (.byte 7)) ∧
    (let s := waitsFor (.recovering (some ⟨.polled 0, .busStuck, []⟩) false) (some manual)
     s.loop.manual = some manual ∧ manual.steps = ⟨.openBus, false, .literal 0x20, .continue_⟩ :: [] ∧ s.loop.rest ≠ [] ∧
       s.fire.state = .quiet ∧ ¬preAlarmExists s) ∧
    (let s := (waitsFor (.recovering (some ⟨.manual, .busStuck, [.notRun]⟩) false) (some runningManual)).onLoop fun l => { l with running := false }
     s.phase = .running ∧ s.loop.manual = some runningManual ∧ s.loop.running = false ∧
       s.loop.actSince + signalTime s.loop.signals ≤ s.now) := by
  simp only [← preAlarm_iff]; decide +kernel

def manualRuns : State :=
  withLoop fun l => { l with manual := some runningManual, act := .running ⟨.manual, runningManual.steps, []⟩ }
def heldBus : State := withLoop fun l => { l with hold := some ⟨.readOpen, 2000000, some 998000000⟩, bus := .readOpen }

theorem test_hyp_ManualTransactions :
    (held (rq runArgs) up ∧ manualScript (rq runArgs) = some (⟨.openBus, false, .literal 0x20, .continue_⟩ :: [⟨.plain, false, .literal 5, .lastStop⟩]) ∧
      walk (match up.loop.hold with | some h => h.busState | none => .free)
        [⟨.openBus, false, .literal 0x20, .continue_⟩, ⟨.plain, false, .literal 5, .lastStop⟩] ≠ none ∧ up.fire.state = .quiet ∧
      up.loop.manual = none ∧ up.loop.act = .idle) ∧
    (held (rq [1, 0xA1, 0x00]) heldBus ∧ manualScript (rq [1, 0xA1, 0x00]) = some [⟨.plain, true, .literal 0, .last⟩] ∧
      walk (match heldBus.loop.hold with | some h => h.busState | none => .free) [⟨.plain, true, .literal 0, .last⟩] ≠ none ∧
      heldBus.loop.manual = none ∧ heldBus.loop.act = .idle) ∧
    (manualRuns.phase = .running ∧ manualRuns.loop.act = .running ⟨.manual, runningManual.steps, []⟩ ∧
      runningManual.steps[0]? = some ⟨.openBus, false, .literal 0x20, .continue_⟩ ∧ runningManual.steps.length = 1 ∧
      manualRuns.loop.manual = some runningManual ∧ manualRuns.loop.busFault = false ∧
      manualRuns.loop.actSince + signalTime manualRuns.loop.signals ≤ manualRuns.now) ∧
    (held (rq []) up ∧ up.loop.manual = none ∧ up.loop.hold = none) ∧
    (let s := withLoop fun l => { l with manual := some manual }
     held (rq []) s ∧ s.loop.manual = some manual ∧ manual.running = false) ∧
    (held (rq []) manualRuns ∧ runningManual.running = true) ∧
    (held (rq []) heldBus ∧ heldBus.loop.hold.isSome = true ∧ heldBus.phase = .running ∧
      heldBus.loop.hold = some ⟨.readOpen, 2000000, some 998000000⟩ ∧ 998000000 + 2000000 ≤ heldBus.now) ∧
    (manualScript (rq []) = none ∧ walk .free [⟨.plain, true, .literal 0, .last⟩] = none ∧ manualScript (rq [1, 0xA1, 0x00]) = some [⟨.plain, true, .literal 0, .last⟩]) ∧
    (held (rq runArgs) manualRuns ∧ manualRuns.loop.manual ≠ none ∧ manualRuns.fire.state = .quiet ∧ manualRuns.loop.hold = none) ∧
    (held (rq runArgs) (runs (.polled 0) []) ∧ (runs (.polled 0) []).loop.manual = none ∧ (runs (.polled 0) []).loop.act = .running ⟨.polled 0, defaultScript, []⟩) ∧
    (let s := waitsFor (.closing none) (some runningManual)
     held (rq []) s ∧ s.loop.act = .closing none ∧ s.loop.manual = some runningManual ∧ runningManual.running = true ∧ s.loop.hold = none ∧
       runningManual.steps = ⟨.openBus, false, .literal 0x20, .continue_⟩ :: [] ∧ s.loop.actSince + signalTime s.loop.signals ≤ s.now) ∧
    (let s := (runs (.polled 0) []).onLoop fun l => { l with manual := some manual }
     s.phase = .running ∧ s.loop.act = .running ⟨.polled 0, defaultScript, []⟩ ∧ s.loop.rest ≠ [] ∧ s.loop.manual = some manual ∧
       s.loop.hold = none ∧ s.fire.state = .quiet ∧ ¬preAlarmExists s ∧ s.loop.actSince + signalTime s.loop.signals ≤ s.now) := by
  simp only [held, taken, reaches, ← preAlarm_iff]
  and_intros <;> decide +kernel

/-- R112: behind a polled script a LOOP_RUN is QUEUED; while a hold that has ended is being closed it is RUNNING at once. -/
theorem test_loop_run_marks : ((after (.loopRun (rq runArgs)) (runs (.polled 0) [])).loop.manual.map (·.running),
    (after (.loopRun (rq runArgs)) (waitsFor (.closing none) none)).loop.manual.map (·.running)) = (some false, some true) := by decide +kernel

/-! ### Fire -/

def alarmed (st : FireState) : State := withFire fun f => { f with state := st, sounderSince := 999000000 }

/-- The release is enabled, with a delay in seconds, and detectors 0 and 1 of the same zone are in a state. -/
def armedWith (delay : Nat) (st : DetState) (s : State) : State :=
  (s.onMgmt fun m => { m with loopTables := { m.loopTables with fire := ⟨true, delay⟩ } }).onFire fun f =>
    { f with dets := (f.dets.set 0 ⟨st, 0, 0, some 200, true⟩).set 1 ⟨st, 0, 0, some 200, true⟩ }

theorem alarm_iff (s : State) : alarmSource s = true ↔ alarmExists s := by
  simp only [alarmSource, List.any_eq_true, List.mem_range, Bool.and_eq_true, Bool.or_eq_true, detAlarm, beq_iff_eq, DetCfg.supervised,
    bne_iff_ne, alarmExists, detIn]
  constructor
  · rintro ⟨d, hd, ⟨⟨hu, he⟩, hs⟩, (h | h) | ⟨e, hd', ⟨hne, ⟨hu', he'⟩, hs'⟩, hz⟩⟩
    · exact ⟨d, ⟨hd, hu, he, hs⟩, .inl h⟩
    · exact ⟨d, ⟨hd, hu, he, hs⟩, .inr (.inl h)⟩
    · exact ⟨d, ⟨hd, hu, he, hs⟩, .inr (.inr ⟨e, hne, ⟨hd', hu', he', hs'⟩, hz⟩)⟩
  · rintro ⟨d, ⟨hd, hu, he, hs⟩, h | h | ⟨e, hne, ⟨hd', hu', he', hs'⟩, hz⟩⟩
    · exact ⟨d, hd, ⟨⟨hu, he⟩, hs⟩, .inl (.inl h)⟩
    · exact ⟨d, hd, ⟨⟨hu, he⟩, hs⟩, .inl (.inr h)⟩
    · exact ⟨d, hd, ⟨⟨hu, he⟩, hs⟩, .inr ⟨e, hd', ⟨⟨hne, ⟨hu', he'⟩, hs'⟩, hz⟩⟩⟩

/-- RELEASE_PENDING with a countdown and HOLD at a level, the release enabled. -/
def counting (left : Nat) (since : Option Nat) (hold : Bool) : State :=
  (setInput .hold hold (armedWith 30 .alarm (alarmed .releasePending))).onFire fun f => { f with countdown := some ⟨left, since⟩ }

theorem test_hyp_FireTimersExpire :
    (let s := (alarmed .releasePending).onFire fun f => { f with countdown := some ⟨5000000, some 995000000⟩ }
     s.phase = .running ∧ s.fire.state = .releasePending ∧ s.fire.countdown = some ⟨5000000, some 995000000⟩ ∧
       995000000 + 5000000 ≤ s.now ∧ inputReads s .door = some true ∧ s.lines.control = true ∧ s.lines.cut = false ∧
       s.mgmt.loopTables.fire.releaseEnabled = false) ∧
    (let s := (alarmed .released).onFire fun f => { f with pulse := some 998000000 }
     s.phase = .running ∧ s.fire.pulse = some 998000000 ∧ 998000000 + 2000000 ≤ s.now ∧ s.lines.control = true) ∧
    (let s := alarmed .preAlarm
     s.phase = .running ∧ s.fire.state = .preAlarm ∧ s.fire.sounderSince + 1000000 ≤ s.now) ∧
    (up.fire.state = .quiet ∧ ¬alarmExists up ∧ ¬preAlarmExists up) ∧
    (let s := armedWith 0 .alarm up
     s.fire.state = .quiet ∧ alarmExists s ∧ s.mgmt.loopTables.fire.releaseEnabled = true ∧ inputReads s .door = some true ∧
       s.mgmt.loopTables.fire.releaseDelay = 0 ∧ inputReads s .hold ≠ some true) ∧
    (let s := setInput .hold true (armedWith 30 .alarm (alarmed .alarm))
     s.fire.state = .alarm ∧ s.mgmt.loopTables.fire.releaseDelay ≠ 0 ∧ inputReads s .hold = some true) ∧
    (let s := counting 5000000 (some 997000000) true
     s.fire.state = .releasePending ∧ s.mgmt.loopTables.fire.releaseEnabled = true ∧ inputReads s .door = some true ∧
       s.fire.countdown = some ⟨5000000, some 997000000⟩ ∧ inputReads s .hold = some true) ∧
    (let s := counting 5000000 none false
     s.fire.state = .releasePending ∧ s.fire.countdown = some ⟨5000000, none⟩ ∧ inputReads s .hold ≠ some true) ∧
    ((counting 0 none false).fire.countdown = some ⟨0, none⟩) ∧
    (inputReads (counting 5000000 none true) .hold = some true ∧ inputReads (counting 5000000 (some 997000000) false) .hold ≠ some true) ∧
    (up.mgmt.loopTables.fire.releaseEnabled = false) ∧
    (let s := setInput .door false (armedWith 30 .alarm (alarmed .alarm))
     s.fire.state = .alarm ∧ s.mgmt.loopTables.fire.releaseEnabled = true ∧ inputReads s .door ≠ some true) ∧ (preAlarmExists (armedWith 0 .preAlarm up) ∧ ¬alarmExists (armedWith 0 .preAlarm up)) := by
  simp only [← alarm_iff, ← preAlarm_iff]; decide +kernel

theorem up_unforced : coilsUnforced up := fun o h => by rcases h with rfl | rfl | rfl <;> decide +kernel

/-- R129, R185: Fire Settings applied yes over yes, in ALARM with the door open, raise RELEASE_INHIBITED (31) before TABLES_APPLIED (43). -/
theorem test_enabled_again : (let s := ((setInput .door false (armedWith 30 .alarm (alarmed .alarm))).onMgmt fun m =>
      { m with loopStaged := [.fire ⟨true, 30⟩] }).onLoop fun l => { l with running := true }
    let l := (loopRoundEnd s).link
    (l.queueTx.map fun x => x.item.frame.payload.getD 2 0, l.queue.map fun x => x.frame.payload.getD 2 0)) = (some 29, [31, 43]) := by decide +kernel

/-- No detector blocks where none in range has a last reading of its alarm. -/
theorem none_blocks (s : State) (h : ∀ d, d < 24 → ∀ x ∈ (detLive s d).last, (detCfg s d).kind ≠ .callPoint ∧ x < (detCfg s d).alarm) :
    ∀ d, ¬lastBlocks s d := by
  rintro d ⟨hd, _, _, x, hx, h1 | h1⟩
  · exact (h d hd x hx).1 h1.1
  · have := (h d hd x hx).2; omega

/-- R132: the response DONE, then DETECTOR_STATE (27) and FIRE_STATE (30). -/
theorem test_reset_order : (let l := (after (.fireReset (rq [])) ((alarmed .alarm).onFire fun f =>
      { f with dets := f.dets.set 1 ⟨.alarm, 0, 0, some 199, true⟩ })).link
    carried l.queueTx l.queue) = [0, 27, 30] := by decide +kernel

theorem test_hyp_FireRequests :
    (let s := alarmed .alarm
     held (rq []) s ∧ s.fire.state ≠ .quiet ∧ (∀ d, ¬lastBlocks s d) ∧ s.lines.control = true ∧ s.lines.forces.getD 18 none = none) ∧
    (let s := (alarmed .alarm).onFire fun f => { f with dets := f.dets.set 1 ⟨.alarm, 3, 0, some 199, true⟩ }
     (∀ d, ¬lastBlocks s d) ∧ 1 < s.fire.dets.length ∧ (detLive s 1).latched = true) ∧
    (let s := (alarmed .alarm).onFire fun f => { f with dets := f.dets.set 1 ⟨.alarm, 0, 0, some 200, true⟩ }
     held (rq []) s ∧ s.fire.state ≠ .quiet ∧ lastBlocks s 1 ∧ (detCfg s 1).kind ≠ .callPoint ∧ ∀ e, e < 1 → ¬lastBlocks s e) ∧
    (let s := ((alarmed .alarm).onFire fun f => { f with dets := f.dets.set 0 ⟨.alarm, 0, 0, some 1, true⟩ }).onMgmt fun m =>
       { m with loopTables := { m.loopTables with detectors := m.loopTables.detectors.set 0 ⟨.callPoint, 0, 0, 5, 1, 0, 0, 0, true⟩ } }
     lastBlocks s 0 ∧ (detCfg s 0).kind = .callPoint ∧ ∀ e, lastBlocks s e → e = 0) ∧
    (held (rq []) up ∧ up.fire.state = .quiet) ∧
    (let s := (alarmed .alarm).onFire fun f => { f with dets := f.dets.set 1 ⟨.alarm, 0, 0, some 199, true⟩ }
     preAlarmExists (after (.fireReset (rq [])) s) ∧ ¬preAlarmExists (after (.fireReset (rq [])) (alarmed .alarm))) := by
  simp only [held, taken, reaches, ← preAlarm_iff]
  refine ⟨⟨by decide +kernel, by decide, none_blocks _ (by decide +kernel), by decide +kernel, by decide +kernel⟩,
    ⟨none_blocks _ (by decide +kernel), by decide +kernel, by decide +kernel⟩,
    ⟨by decide +kernel, by decide, by simp only [lastBlocks]; exact ⟨by decide, by decide +kernel, by decide +kernel, 200, by decide +kernel⟩,
      by decide +kernel, fun e he h => ?_⟩,
    ⟨by simp only [lastBlocks]; exact ⟨by decide, by decide +kernel, by decide +kernel, 1, by decide +kernel⟩, by decide +kernel, fun e h => ?_⟩,
    by decide +kernel, by decide +kernel⟩
  · obtain rfl : e = 0 := by omega
    obtain ⟨x, hx, _⟩ := h.2.2.2
    exact absurd hx (by decide +revert +kernel)
  · by_contra hne
    have : ∀ e, e < 24 → e ≠ 0 → (detLive (((alarmed .alarm).onFire fun f => { f with dets := f.dets.set 0 ⟨.alarm, 0, 0, some 1, true⟩ }).onMgmt fun m =>
       { m with loopTables := { m.loopTables with detectors := m.loopTables.detectors.set 0 ⟨.callPoint, 0, 0, 5, 1, 0, 0, 0, true⟩ } }) e).last = none := by
      decide +kernel
    obtain ⟨x, hx, _⟩ := h.2.2.2
    exact absurd hx (by simp [this e h.1 hne])

/-! ### The grid connection -/

/-- The sequencer in a state whose step timer has run for `us` microseconds. -/
def seqIn (st : SeqState) (us : Nat) : State := withSeqr fun q => { q with state := st, stepSince := some (1000000000 - us) }

/-- CONNECTED, the METER node at its third missed poll with a stage timer running, or SILENT with metering blind. -/
def meterSilent : State :=
  ((awaiting 3 true 999998000).onRing fun r => { r with nodes := r.nodes.set 2 { inServiceNode .a with missed := 2 } }).onSeqr fun q =>
    { q with state := .connected, stages := [some 0, none, none, none, none, none], rocofRun := 1 }
def meterBack : State :=
  ((awaiting 3 true 999998000).onRing fun r => { r with nodes := r.nodes.set 2 { inServiceNode .a with state := .silent, lastCount := none } }).onSeqr fun q =>
    { q with state := .connected, blind := true, blindSince := some 990000000 }

theorem test_hyp_SequencerTimersExpire :
    (let s := seqIn .precharge 5000000
     s.phase = .running ∧ s.seqr.state = .precharge ∧ s.seqr.stepSince = some 995000000 ∧ 995000000 + 5000000 ≤ s.now) ∧
    (let s := withSeqr fun q => { q with state := .recloseWait, healthySince := some 940000000 }
     s.phase = .running ∧ s.seqr.state = .recloseWait ∧ s.seqr.healthySince = some 940000000 ∧
       940000000 + s.mgmt.ringTables.grid.returnDelay * 1000000 ≤ s.now ∧ bayCondition s .closing = none) ∧
    (let s := seqIn .closing 500000
     s.phase = .running ∧ s.seqr.state = .closing ∧ inputReads s .breakerAux ≠ some true ∧ s.seqr.stepSince = some 999500000 ∧
       999500000 + 500000 ≤ s.now) ∧
    (let s := withSeqr fun q => { q with state := .connected, blind := true, blindSince := some 990000000 }
     s.phase = .running ∧ s.seqr.state = .connected ∧ s.seqr.blind = true ∧ s.seqr.blindSince = some 990000000 ∧
       990000000 + s.mgmt.ringTables.grid.blindLimit * 1000000 ≤ s.now) ∧
    (let s := setInput .breakerAux true (seqIn .tripping 500000)
     s.phase = .running ∧ s.seqr.state = .tripping ∧ inputReads s .breakerAux ≠ some false ∧ s.seqr.stepSince = some 999500000 ∧
       999500000 + 500000 ≤ s.now) ∧
    (let s := seqIn .opening 2000000
     s.phase = .running ∧ s.seqr.state = .opening ∧ s.seqr.stepSince = some 998000000 ∧ 998000000 + 2000000 ≤ s.now) ∧
    (let s := meterSilent
     s.phase = .running ∧ s.ring.splitEff = 0 ∧ s.ring.seqA.phase = .waiting 3 .a true 999998000 ∧ 999998000 + 2000 ≤ s.now ∧
       s.ring.portA.rx.syncAt = none ∧ s.ring.portB.rx.syncAt = none ∧ hasEntry s 3 ∧ roleAddr s .meter = some 3 ∧
       (liveOf s 3).state = .inService ∧ 2 ≤ (liveOf s 3).missed ∧ s.seqr.state = .connected ∧ s.seqr.blind = false ∧
       s.cool.bay ≠ .failed ∧ (after (.replyTimeout .a) s).cool.bay ≠ .failed ∧ roleInService s .meter = true) ∧
    (let s := meterBack
     awaits .b .a 1000000000 999998000 true meterFrame s ∧ (liveOf s 3).state = .silent ∧ (liveOf s 3).lastCount ≠ some meterFrame.seq.toNat ∧
       payloadOf (cfgOf s 3) meterFrame.payload = some (.meter ⟨230, 231, 229, 50000, 0, 10, false⟩) ∧ roleAddr s .meter = some 3 ∧
       s.seqr.blind = true ∧ s.seqr.state = .connected ∧ roleInService s .meter = false) := by
  simp only [awaits, arrives, admitted, hasEntry]
  and_intros <;> decide +kernel

/-- R142: the METER node becomes SILENT in CONNECTED, and comes back. -/
theorem test_metering_blind :
    (let q := (after (.replyTimeout .a) meterSilent).seqr
     (q.blind, q.blindSince, q.stages, q.rocofRun)) = (true, some 1000000000, List.replicate 6 none, 0) ∧
    (let q := (after (.sampleReceived .b 1000000000 meterFrame) meterBack).seqr
     (q.blind, q.blindSince)) = (false, none) := by decide +kernel

def trippingOn (c : Continuation) (n : Nat) : State :=
  (seqIn .tripping 200000).onSeqr fun q => { q with trip := some ⟨.uv1, .grid, c⟩, reclose := n }

theorem test_hyp_SequencerPulsesEnd :
    (let s := (seqIn .closing 200000).onSeqr fun q => { q with closePulse := true }
     s.phase = .running ∧ s.seqr.state = .closing ∧ s.seqr.closePulse = true ∧ s.seqr.stepSince = some 999800000 ∧
       999800000 + 200000 ≤ s.now ∧ s.lines.control = true) ∧
    (let s := withSeqr fun q => { q with state := .connected, connectedSince := some 100000000 }
     s.phase = .running ∧ s.seqr.state = .connected ∧ s.seqr.connectedSince = some 100000000 ∧ 100000000 + 900000000 ≤ s.now) ∧
    (let s := trippingOn .opening 0
     s.phase = .running ∧ s.seqr.state = .tripping ∧ s.seqr.stepSince = some 999800000 ∧ 999800000 + 200000 ≤ s.now ∧
       inputReads s .breakerAux = some false ∧ s.seqr.trip = some ⟨.uv1, .grid, .opening⟩) ∧
    (let s := trippingOn .recloseWait 2
     s.seqr.trip = some ⟨.uv1, .grid, .recloseWait⟩ ∧ s.seqr.reclose < 3 ∧ bayCondition s .recloseWait = none) ∧
    (let s := trippingOn .recloseWait 3
     s.phase = .running ∧ s.seqr.trip = some ⟨.uv1, .grid, .recloseWait⟩ ∧ 3 ≤ s.seqr.reclose) ∧
    (let s := withSeqr fun q => { q with stray := some ⟨.breakerStray, 999800000⟩ }
     s.phase = .running ∧ s.seqr.stray = some ⟨.breakerStray, 999800000⟩ ∧ 999800000 + 200000 ≤ s.now ∧
       inputReads s .breakerAux = some false) ∧
    (let s := setInput .breakerAux true (withSeqr fun q => { q with stray := some ⟨.startupClosed, 999500000⟩ })
     s.phase = .running ∧ s.seqr.stray = some ⟨.startupClosed, 999500000⟩ ∧ 999500000 + 500000 ≤ s.now ∧
       inputReads s .breakerAux ≠ some false ∧ s.seqr.state = .open_) := by decide +kernel

/-- The preconditions of CONNECT hold. -/
def connectable : State :=
  { up with
    cell := { up.cell with summary := { up.cell.summary with picture := true, inService := 1 } }
    fire := { up.fire with picture := true }
    gate := { up.gate with conv := some .ready }
    seqr := { up.seqr with
      meter := some ⟨400, 400, 400, 1000, 1000, 1000, 50000, 0, 0, false, 999000000⟩
      conv := some ⟨0, 700, 0, 0, .ready, 0, 999000000⟩ } }

theorem serves_iff (s : State) (r : Role) : roleInService s r = true ↔ serves s r := by
  unfold roleInService serves
  cases roleAddr s r <;> simp

/-- A precondition of Table 8-4 holds exactly where its test does. -/
theorem connectPre_iff (s : State) (c : Nat) : connectPre s c ↔ ∀ x ∈ connectChecks s, x.1 = c → x.2 = true := by
  by_cases h : c = 0 ∨ 12 < c
  · have : connectPre s c = True := by
      unfold connectPre
      split <;> first | omega | rfl
    simp only [this, true_iff, connectChecks, List.forall_mem_cons]
    and_intros <;> first | (intro e; omega) | (intro x hx; cases hx)
  · have hc : c = 1 ∨ c = 2 ∨ c = 3 ∨ c = 4 ∨ c = 5 ∨ c = 6 ∨ c = 7 ∨ c = 8 ∨ c = 9 ∨ c = 10 ∨ c = 11 ∨ c = 12 := by omega
    rcases hc with rfl | rfl | rfl | rfl | rfl | rfl | rfl | rfl | rfl | rfl | rfl | rfl <;>
      simp [connectPre, connectChecks, ← serves_iff, readbackFault, reported, Option.isSome_iff_ne_none, and_assoc, List.any_eq_false]

theorem test_hyp_SequencerRequests :
    (held (rq []) connectable ∧ connectable.seqr.state = .open_ ∧ ∀ c, connectPre connectable c) ∧
    (let s := setInput .estop false connectable
     held (rq []) s ∧ s.seqr.state = .open_ ∧ ¬connectPre s 8 ∧ ∀ k, k < 8 → connectPre s k) ∧
    (let s := seqIn .connected 0
     held (rq []) s ∧ s.seqr.state = .connected) ∧
    (let s := seqIn .precharge 0
     held (rq []) s ∧ s.seqr.state = .precharge) ∧
    (let s := seqIn .opening 0
     held (rq []) s ∧ s.seqr.state = .opening) ∧
    (let s := seqIn .lockedOut 0
     held (rq []) s ∧ s.seqr.state = .lockedOut ∧ s.fire.state = .quiet) ∧
    (let s := (seqIn .lockedOut 0).onFire fun f => { f with state := .alarm }
     held (rq []) s ∧ s.seqr.state = .lockedOut ∧ s.fire.state ≠ .quiet) ∧
    (held (rq []) (seqIn .open_ 0) ∧ (seqIn .open_ 0).seqr.state = .open_ ∧ held (rq []) (seqIn .closing 0) ∧ (seqIn .closing 0).seqr.state = .closing) ∧
    (let s := (seqIn .tripping 0).onSeqr fun q => { q with trip := some ⟨.uv1, .grid, .recloseWait⟩, reclose := 2 }
     held (rq []) s ∧ s.seqr.state = .tripping ∧ s.seqr.trip = some ⟨.uv1, .grid, .recloseWait⟩ ∧
       (seqIn .tripping 0).seqr.trip ≠ some ⟨.uv1, .grid, .recloseWait⟩) := by
  simp only [held, taken, reaches]
  refine ⟨⟨by decide +kernel, by decide +kernel, fun c => (connectPre_iff _ c).mpr fun x hx _ => (show ∀ x ∈ connectChecks connectable, x.2 = true by decide +kernel) x hx⟩,
    ⟨by decide +kernel, by decide +kernel, fun h => absurd ((connectPre_iff _ 8).mp h) (by decide +kernel), fun k h => (connectPre_iff _ k).mpr ?_⟩,
    by and_intros <;> decide +kernel⟩
  revert k; decide +kernel

/-! ### Lines and inputs -/

/-- An input whose raw level has been stable for 20 ms at another level than the debounced one, or at the same. -/
def settling (i : Input) (raw old : Bool) (s : State) : State :=
  s.onLines fun x => { x with inputs := x.inputs.set (inputIdx i) ⟨raw, some 999980000, some old⟩ }

theorem test_hyp_InputsDebounced :
    (inputIdx .hold < up.lines.inputs.length ∧ (inputLive up .hold).raw ≠ true) ∧ ((inputLive up .hold).raw = false) ∧
    (let s := settling .hold false false up
     s.phase = .running ∧ (inputLive s .hold).timer = some 999980000 ∧ 999980000 + 20000 ≤ s.now ∧
       (inputLive s .hold).level = some (inputLive s .hold).raw) ∧
    (let s := settling .estop false true up
     s.phase = .running ∧ (inputLive s .estop).timer = some 999980000 ∧ (inputLive s .estop).level ≠ some (inputLive s .estop).raw ∧
       (inputLive s .estop).raw = s.mgmt.ringTables.line.estop) ∧
    (let s := settling .breakerAux true false (seqIn .closing 100000)
     s.phase = .running ∧ (inputLive s .breakerAux).timer = some 999980000 ∧
       (inputLive s .breakerAux).level ≠ some (inputLive s .breakerAux).raw ∧
       (inputLive s .breakerAux).raw = s.mgmt.ringTables.line.breakerAux ∧ s.seqr.state = .closing ∧ bayCondition s .connected = none ∧
       roleInService s .meter = true ∧ s.seqr.blind = false ∧
       (let u := s.onRing fun r => { r with nodes := r.nodes.set 2 { inServiceNode .a with state := .silent } }
        roleInService u .meter = false ∧ bayCondition u .connected = none)) ∧
    (let s := settling .estop true false up
     s.phase = .running ∧ ((inputLive s .estop).raw == highMeans s.mgmt.ringTables.line .estop) = false) := by
  decide +kernel

/-- BREAKER_AUX reports open and closed in the states its clauses name: a trip whose pulse has run or has not, with its two continuations, and a stray trip. -/
theorem test_hyp_breaker_reports :
    (∀ st ∈ [SeqState.connected, .precharge, .open_, .lockedOut, .tripping], ∀ raw ∈ [false, true],
      let s := settling .breakerAux raw (!raw) (seqIn st 100000)
      s.phase = .running ∧ (inputLive s .breakerAux).timer = some 999980000 ∧
        (inputLive s .breakerAux).level ≠ some (inputLive s .breakerAux).raw ∧
        ((inputLive s .breakerAux).raw == highMeans s.mgmt.ringTables.line .breakerAux) = raw ∧ s.seqr.state = st ∧ s.lines.control = true) ∧
    (∀ c ∈ [Continuation.opening, .recloseWait], ∀ n ∈ [2, 3],
      let s := settling .breakerAux false true (trippingOn c n)
      s.seqr.state = .tripping ∧ s.seqr.stepSince = some 999800000 ∧ 999800000 + 200000 ≤ s.now ∧ s.seqr.trip = some ⟨.uv1, .grid, c⟩ ∧
        s.seqr.reclose = n ∧ bayCondition s .connected = none) := by decide +kernel

/-- Both contactor aux inputs read open once CONT_NEG_AUX does, with the discharge part met or not; and DOOR changes. -/
theorem test_hyp_other_reports :
    (∀ d ∈ [true, false],
      let s := settling .contNegAux false true ((seqIn .opening 100000).onSeqr fun q => { q with discharged := d })
      s.phase = .running ∧ (inputLive s .contNegAux).timer = some 999980000 ∧
        (inputLive s .contNegAux).level ≠ some (inputLive s .contNegAux).raw ∧ s.seqr.state = .opening ∧ s.seqr.discharged = d ∧
        inputReads s .contPosAux = some false ∧ ((inputLive s .contNegAux).raw == highMeans s.mgmt.ringTables.line .contNegAux) = false ∧
        s.seqr.pendingLockout = none ∧ s.fire.state = .quiet) ∧
    (let s := settling .door false true up
     s.phase = .running ∧ (inputLive s .door).timer = some 999980000 ∧ (inputLive s .door).level ≠ some (inputLive s .door).raw) := by
  decide +kernel

/-- R147 and R153: BREAKER_AUX reports open in CONNECTED and closed in OPEN. -/
theorem test_breaker_reports :
    ((after (.debounceStable .breakerAux) (settling .breakerAux false true (seqIn .connected 0))).seqr.trip,
      (after (.debounceStable .breakerAux) (settling .breakerAux true false up)).seqr.stray,
      (after (.debounceStable .contNegAux) (settling .contNegAux false true ((seqIn .opening 0).onSeqr fun q =>
        { q with discharged := true, pendingLockout := some .recloseLimit }))).seqr.reason) =
    (some ⟨.breakerOpened, .grid, .recloseWait⟩, some ⟨.breakerStray, 1000000000⟩, .recloseLimit) := by decide +kernel

def forcedState (o v : Nat) : State := up.onLines fun l => { l with forces := l.forces.set o (some ⟨v, 940000000⟩) }

theorem test_hyp_ForceRecords :
    (held (rq [11, 0x03, 0xE8]) up ∧ forceArgs (rq [11, 0x03, 0xE8]) = some (11, 1000) ∧ up.fire.state = .quiet ∧
      11 < up.cool.outs.length ∧ 11 < up.lines.forces.length) ∧
    (forceArgs (rq [16, 1]) = some (16, 1) ∧ up.seqr.state = .open_) ∧
    ((alarmed .preAlarm).fire.state ≠ .quiet ∧ held (rq [16, 1]) (seqIn .precharge 0) ∧ (seqIn .precharge 0).seqr.state ≠ .open_) ∧
    (held (rq [22, 1]) up ∧ 22 ≤ (22 : Byte).toNat ∧ (17 : Byte).toNat = 17 ∧ ((11 : Byte).toNat < 12 ∧ 1000 < (0x03 : Byte).toNat * 256 + (0xE9 : Byte).toNat) ∧
      (12 ≤ (21 : Byte).toNat ∧ 1 < (2 : Byte).toNat)) ∧
    (held (rq []) (forcedState 21 1)) ∧
    (let s := forcedState 21 1
     s.phase = .running ∧ s.lines.forces.getD 21 none = some ⟨1, 940000000⟩ ∧ 940000000 + 60000000 ≤ s.now) := by
  simp only [held, taken, reaches]; decide +kernel

def disagreeing (st : SeqState) : State :=
  (seqIn st 0).onLines fun l => { l with neg := ⟨some 999800000, false⟩, inputs := l.inputs.set 2 ⟨true, none, some true⟩ }

theorem test_hyp_ReadbackFaultTrips :
    (let s := disagreeing .connected
     s.phase = .running ∧ readbackOf s.lines .neg = ⟨some 999800000, false⟩ ∧ 999800000 + 200000 ≤ s.now ∧ s.seqr.state = .connected) ∧
    (let s := disagreeing .precharge
     s.phase = .running ∧ readbackOf s.lines .neg = ⟨some 999800000, false⟩ ∧ s.seqr.state = .precharge) ∧
    (let s := disagreeing .open_
     s.phase = .running ∧ readbackOf s.lines .neg = ⟨some 999800000, false⟩ ∧ s.seqr.state = .open_ ∧ linesCurrent s ∧
       s.lines.control = true ∧ inputReads s (contAux .neg) = some true ∧ true ≠ outLevel s (contOutput .neg)) := by
  simp only [linesCurrent]; decide +kernel

/-! ### The frame ports and management -/

theorem test_hyp_FramePortErrors :
    (up.phase = .running ∧ (rxOf up.link .service).isOpen = true ∧ (rxOf up.link .service).openedAt ≤ 999750000 ∧ 999750000 ≤ up.now ∧ up.now ≤ 999750000 + 250000 ∧
      ([0, 0xA5, 1, 2, 57] : List Byte).length = 5 ∧ 56 < (([0, 0xA5, 1, 2, 57] : List Byte).getD 4 0).toNat) ∧
    (999750000 + 250000 ≤ up.now) ∧
    (let s := withLink fun l => { l with rateAt := some 999999999 }
     s.phase = .running ∧ s.link.station.isOpen = true ∧ s.link.station.openedAt ≤ 999999998 ∧ s.link.rateAt = some 999999999 ∧ 999999998 ≤ 999999999) ∧ (comesIn .station 999750000 up ∧ frameCheck nodeCmd ≠ 0) ∧
    (999999999 < (rxOf (openedNow up).link .station).openedAt ∧ comesIn .station 1000000000 (openedNow up)) ∧
    (999749999 + 250000 < up.now ∧ requestOf (.connect (rq [])) = some (rq [], 0x12, true) ∧ (rq []).port = .station ∧
      (let s := withLink fun l => { l with rateAt := some 999999999 }
       comesIn .station 1000000000 s ∧ comesIn .service 999999999 s)) ∧
    (route (fromStation 41 kNodeCmd []) = .addressError ∧ route (fromStation 62 kPoll []) = .addressError) ∧
    (route (fromStation 0 kNodeCmd []) = .kindError ∧ route (fromStation 0 kMgmtReq [1]) = .kindError) := by
  simp only [comesIn]; decide +kernel

/-- R167: a SETPOINT whose sync byte came before the bit rate was applied is no frame any more, and one whose sync byte came after it is taken. -/
theorem test_rate_cuts : (let s := withLink fun l => { l with rateAt := some 999999999 }
    ((after (.setpointReceived .station ⟨999999999, setpoint⟩) s).gate.requested.map (·.tag),
     (after (.setpointReceived .station ⟨1000000000, setpoint⟩) s).gate.requested.map (·.tag))) = (none, some 17) := by decide +kernel

theorem test_hyp_NodeCommandsQueued :
    (comesIn .station 999750000 up ∧ route nodeCmd = .nodeCmd ∧ up.link.holder = .station ∧ nodeCmd.dst.toNat ≠ 63 ∧
      (liveOf up 1).state ≠ .unconfigured ∧ (liveOf up 1).state ≠ .excluded ∧ up.ring.downQueue.length < 8) ∧
    (let s := withRing fun r => { r with downQueue := List.replicate 8 (nodeCmd, .station) }
     comesIn .station 1000000000 s ∧ s.link.holder = .station ∧ 8 ≤ s.ring.downQueue.length) ∧
    (route (fromStation 40 kNodeCmd []) = .nodeCmd ∧ (liveOf up 40).state = .unconfigured) ∧
    (route (fromStation 63 kNodeCmd []) = .nodeCmd) ∧
    (up.link.holder ≠ .service ∧ comesIn .service 1000000000 up) := by
  simp only [comesIn]; decide +kernel

theorem test_hyp_FullQueueLosesLowest :
    burstLink.queue.length = 64 ∧ (∃ g ∈ burstLink.queue, g.cls.rank < (burst .routine).cls.rank) ∧
      (∀ g ∈ burstLink.queue, (burst .forwarded).cls.rank ≤ g.cls.rank) ∧
      (let l := { burstLink with queue := List.replicate 64 (burst .alarm) }
       l.queue.length = 64 ∧ ({ burst .alarm with own := true } ∉ (queueJoin { burst .alarm with own := true } l).queue)) := by decide +kernel

def upTx : UpTx := ⟨burst .forwarded, 999000000, 9600⟩

theorem test_hyp_NextFrameTaken :
    (let s := withLink fun l => { l with queueTx := some upTx, queue := [burst .routine] ++ burst .alarm :: [burst .alarm] }
     s.phase = .running ∧ s.link.queueTx = some upTx ∧ s.link.station.isOpen = true ∧
       (8 + upTx.item.frame.payload.length) * 10 * 1000000 ≤ (s.now - upTx.since) * upTx.rate ∧
       s.link.queue = [burst .routine] ++ burst .alarm :: [burst .alarm] ∧
       (∀ y ∈ [burst .routine] ++ [burst .alarm], y.cls.rank ≤ (burst .alarm).cls.rank) ∧
       (∀ y ∈ [burst .routine], y.cls.rank < (burst .alarm).cls.rank)) ∧
    (let s := withLink fun l => { l with queueTx := some upTx }
     s.phase = .running ∧ s.link.queueTx = some upTx ∧ s.link.queue = []) ∧
    (let s := withLink fun l => { l with fifoTx := some upTx, fifo := [burst .response] }
     s.phase = .running ∧ s.link.fifoTx = some upTx ∧ s.link.service.isOpen = true ∧ s.link.fifo = burst .response :: []) ∧
    (let s := withLink fun l => { l with fifoTx := some upTx }
     s.phase = .running ∧ s.link.fifoTx = some upTx ∧ s.link.fifo = []) := by decide +kernel

/-- Section 10.8 at 5 s: the AUTHORITY notice (9), the response DONE, and the OUTPUT_FORCE (40) of the force that ends join the service FIFO. -/
theorem test_authority_order : (let l := (after (.takeAuthority (rqService [])) (up.onLines fun l =>
      { l with forces := l.forces.set 18 (some ⟨1, 999000000⟩) })).link
    carried l.fifoTx l.fifo) = [9, 0, 40] := by decide +kernel

theorem test_hyp_AuthorityAndPolicy :
    (taken (rqService []) up ∧ up.link.holder = .station ∧ taken (rq []) up) ∧
    (let s := withLink fun l => { l with holder := .service, serviceSince := some 700000000 }
     taken (rq []) s ∧ taken (rqService []) s ∧ s.link.holder = .service ∧ s.link.serviceSince = some 700000000 ∧
       700000000 + 300000000 ≤ s.now) ∧
    (held (rq [4, 2, 1]) up ∧ roleOf 4 = some .conv ∧ policyOf 2 = some .never ∧ (1 : Byte) ≠ 0) ∧
    (held (rq [1, 0]) up ∧ (1 : Byte).toNat < 2) := by
  simp only [held, taken, reaches]; decide +kernel

/-- Node 40 becomes a METER, which the bay has already; node 1 becomes NONE; the loop's round interval; an interval of 0 ms, which the range
excludes; a part that does not exist; and arguments that do not read. -/
theorem test_hyp_WriteTableStages :
    (held (rq [1, 42, 0x00, 0xFA]) up ∧ (ringPartOf up.mgmt.ringTables (1, 42)).isSome = true ∧ readRingPart (1, 42) [0x00, 0xFA] = some (.interval 250) ∧
      ringPartOk (applyRing (pendingRing up.mgmt) (.interval 250)) (.interval 250) = true ∧
      ringPartOk (applyRing (pendingRing up.mgmt) (.interval 0)) (.interval 0) = false) ∧
    (let m := up.mgmt
     let p := RingPart.node 1 defaultNode
     let poll := RingPart.poll ((pendingRing m).poll.filter fun y => y ≠ 1)
     (ringPartOf m.ringTables (1, 1)).isSome = true ∧ readRingPart (1, 1) (nodeBytes defaultNode) = some p ∧ defaultNode.role = .unused ∧
       ringPartOk (applyRing (applyRing (pendingRing m) p) poll) p = true) ∧
    (let m := up.mgmt
     let c : NodeCfg := ⟨.unused, 4, 0, .a, 0, 0⟩
     let p := RingPart.node 1 c
     let poll := RingPart.poll ((pendingRing m).poll.filter fun y => y ≠ 1)
     readRingPart (1, 1) (nodeBytes c) = some p ∧ ringPartOk (applyRing (applyRing (pendingRing m) p) poll) p = false) ∧
    (held (rq [10, 0, 0x01, 0xF4]) up ∧ (loopPartOf up.mgmt.loopTables (10, 0)).isSome = true ∧
      readLoopPart (10, 0) [0x01, 0xF4] = some (.interval 500) ∧
      loopPartOk (applyLoop (pendingLoop up.mgmt) (.interval 500)) (.interval 500) = true ∧
      loopPartOk (applyLoop (pendingLoop up.mgmt) (.interval 0)) (.interval 0) = false) ∧
    (ringPartOf up.mgmt.ringTables (12, 0) = none ∧ loopPartOf up.mgmt.loopTables (12, 0) = none) ∧
    (readRingPart (1, 42) [5] = none ∧ readLoopPart (1, 42) [5] = none) ∧ held (rq [1]) up := by
  simp only [held, taken, reaches]; decide +kernel

theorem test_hyp_RequestsRefused :
    (requestOf (.connect (rq [])) = some (rq [], 0x12, true) ∧ reaches (rq []) (withMgmt fun m => { m with restart := true })) ∧
    (requestOf (.save (rqService [])) = some (rqService [], 0x1D, true) ∧ reaches (rqService []) up ∧ up.mgmt.restart = false ∧
      up.link.holder ≠ (rqService []).port) ∧
    (reaches (rq []) up ∧ requestCodes.contains (0x1F : Byte).toNat = false ∧ requestCodes.contains (0x0E : Byte).toNat = false) := by
  simp only [reaches]; decide +kernel

end Sys2Proof.Tests
end

section
/-! The Envelope Unit's voltage factors and slope rule (R51, R58, R59): what each function answers in each of its cases, then the two statements about them.
The model divides whole numbers; the statements speak of the exact quotient rounded down. -/

namespace Sys2Proof.Machine

/-! ## The voltage factors (R51) -/

/-- The whole-number quotient of the tapers is the exact quotient rounded down: it is not negative, so `Int.toNat` drops nothing. -/
theorem toNat_ediv_eq_floor {n d : Int} (hn : 0 ≤ n) (hd : 0 < d) : (((n / d).toNat : Nat) : Int) = ⌊(n : ℚ) / (d : ℚ)⌋ := by
  rw [Int.toNat_of_nonneg (Int.ediv_nonneg hn hd.le), Int.floor_div_cast_of_nonneg hd.le, Int.floor_intCast]

section
variable {c : Taper} {v : Int}

@[simp] theorem fvChg_none : fvChg c none = 1000 := rfl

theorem fvChg_of_le_start (h : v ≤ c.vcStart) : fvChg c (some v) = 1000 := if_pos h

theorem fvChg_of_end_le (hc : c.vcStart < c.vcEnd) (h : c.vcEnd ≤ v) : fvChg c (some v) = 0 := by
  rw [fvChg, if_neg (hc.trans_le h).not_ge, if_pos h]

theorem fvChg_of_between (hs : c.vcStart < v) (he : v < c.vcEnd) :
    (fvChg c (some v) : Int) = ⌊(1000 * ((c.vcEnd : ℚ) - v)) / ((c.vcEnd : ℚ) - c.vcStart)⌋ := by
  rw [fvChg, if_neg hs.not_ge, if_neg he.not_ge, toNat_ediv_eq_floor (by omega) (by omega)]
  push_cast; rfl

@[simp] theorem fvDis_none : fvDis c none = 1000 := rfl

theorem fvDis_of_start_le (h : c.vdStart ≤ v) : fvDis c (some v) = 1000 := if_pos h

theorem fvDis_of_le_end (hc : c.vdEnd < c.vdStart) (h : v ≤ c.vdEnd) : fvDis c (some v) = 0 := by
  rw [fvDis, if_neg (h.trans_lt hc).not_ge, if_pos h]

theorem fvDis_of_between (he : c.vdEnd < v) (hs : v < c.vdStart) :
    (fvDis c (some v) : Int) = ⌊(1000 * ((v : ℚ) - c.vdEnd)) / ((c.vdStart : ℚ) - c.vdEnd)⌋ := by
  rw [fvDis, if_neg hs.not_ge, if_neg he.not_ge, toNat_ediv_eq_floor (by omega) (by omega)]
  push_cast; rfl

end

/-- Settles O31: each factor by its case of R51, the taper orders of R47 keeping the cases apart. -/
theorem voltageFactors : Obligations.VoltageFactors := fun _ hchg hdis =>
  ⟨fvChg_none, fvDis_none, fun _ =>
    ⟨fvChg_of_le_start, fvChg_of_end_le hchg, fvChg_of_between, fvDis_of_start_le, fvDis_of_le_end hdis, fvDis_of_between⟩⟩

/-! ## The slope rule (R58, R59) -/

theorem stepOf_eq_max_floor (slope elapsed : Nat) :
    (stepOf slope elapsed : Int) = max 1 ⌊((slope : ℚ) * (if 2000 < elapsed then 2000 else elapsed : Nat)) / 1000⌋ := by
  have hcap : min elapsed 2000 = if 2000 < elapsed then 2000 else elapsed := by split <;> omega
  have hfloor (n : Nat) : ⌊(n : ℚ) / 1000⌋ = (n / 1000 : Nat) := mod_cast Rat.floor_natCast_div_natCast n 1000
  rw [stepOf, hcap, ← Nat.cast_mul, hfloor, Nat.cast_max, Nat.cast_one]

theorem one_le_stepOf (slope elapsed : Nat) : 1 ≤ stepOf slope elapsed := Nat.le_max_left ..

/-- The cap of 2000 ms on the elapsed time allows at most two seconds of slope. -/
theorem stepOf_le_two_mul {slope : Nat} (h : 1 ≤ slope) (elapsed : Nat) : stepOf slope elapsed ≤ 2 * slope := by
  have hcap : slope * min elapsed 2000 ≤ slope * 2000 := Nat.mul_le_mul_left _ (Nat.min_le_right ..)
  exact Nat.max_le.mpr ⟨by omega, by omega⟩

section
variable {target published up down : Nat}

theorem moveLimit_of_lt (h : published < target) : moveLimit false target published up down = min target (published + up) := by
  simp [moveLimit, h]

theorem moveLimit_of_gt (h : target < published) : moveLimit false target published up down = max target (published - down) := by
  simp [moveLimit, h, h.not_gt]

theorem moveLimit_of_eq (h : target = published) : moveLimit false target published up down = published := by
  simp [moveLimit, h]

end

/-- Settles O33: the step lies between 1 kW and twice its slope, and a limit that is not gated moves by at most its step and never past the target. -/
theorem slopeSteps : Obligations.SlopeSteps := by
  refine ⟨stepOf_eq_max_floor, fun target published up down elapsed hup hdown => ?_⟩
  have hup_le := stepOf_le_two_mul hup elapsed
  have hdown_le := stepOf_le_two_mul hdown elapsed
  have hup_pos := one_le_stepOf up elapsed
  have hdown_pos := one_le_stepOf down elapsed
  dsimp only
  obtain hlt | heq | hgt := Nat.lt_trichotomy published target
  · rw [moveLimit_of_lt hlt]; omega
  · rw [moveLimit_of_eq heq.symm]; omega
  · rw [moveLimit_of_gt hgt]; omega

end Sys2Proof.Machine
end

section
/-! The Cooling Controller at a publication (R86, R89, R91): the value of a curve by the position of the temperature among its points, the minimum stage by
the applied duty, the moves of the applied duty, and what a whole publication makes of one output. -/

namespace Sys2Proof.Machine

/-! ## Interpolation between two points (R53, R86) -/

section
variable {t0 t1 t : Int} {f0 f1 : Nat}

/-- A share k/d of a difference n, rounded down, lies between 0 and n. -/
theorem mul_ediv_between_zero_and {n k d : Int} (hd : 0 < d) (hk : 0 ≤ k) (hkd : k ≤ d) : min 0 n ≤ n * k / d ∧ n * k / d ≤ max 0 n := by
  refine ⟨(Int.le_ediv_iff_mul_le hd).mpr ?_, Int.ediv_le_of_le_mul hd ?_⟩
  · obtain h | h := le_total 0 n
    · rw [min_eq_left h]; nlinarith
    · rw [min_eq_right h]; nlinarith
  · obtain h | h := le_total 0 n
    · rw [max_eq_right h]; nlinarith
    · rw [max_eq_left h]; nlinarith

/-- The interpolated value is never negative, so `Int.toNat` drops nothing. -/
theorem interpolate_eq_add_ediv (h0 : t0 < t) (h1 : t < t1) :
    (interpolate t0 f0 t1 f1 t : Int) = f0 + ((f1 : Int) - f0) * (t - t0) / (t1 - t0) := by
  have hq := (mul_ediv_between_zero_and (n := (f1 : Int) - f0) (k := t - t0) (d := t1 - t0) (by omega) (by omega) (by omega)).1
  rw [interpolate, Int.toNat_of_nonneg (by omega)]

theorem interpolate_le_max (h0 : t0 < t) (h1 : t < t1) : interpolate t0 f0 t1 f1 t ≤ max f0 f1 := by
  have hq := (mul_ediv_between_zero_and (n := (f1 : Int) - f0) (k := t - t0) (d := t1 - t0) (by omega) (by omega) (by omega)).2
  have heq := interpolate_eq_add_ediv (f0 := f0) (f1 := f1) h0 h1
  omega

theorem interpolate_eq_add_floor (h0 : t0 < t) (h1 : t < t1) :
    (interpolate t0 f0 t1 f1 t : Int) = f0 + ⌊(((f1 : ℚ) - f0) * ((t : ℚ) - t0)) / ((t1 : ℚ) - t0)⌋ := by
  have hfloor : ⌊((((f1 : Int) - f0) * (t - t0) : Int) : ℚ) / ((t1 - t0 : Int) : ℚ)⌋ = ((f1 : Int) - f0) * (t - t0) / (t1 - t0) := by
    rw [Int.floor_div_cast_of_nonneg (by omega), Int.floor_intCast]
  rw [interpolate_eq_add_ediv h0 h1, ← hfloor]
  push_cast; rfl

end

/-! ## The value of a curve (R52, R86) -/

section
variable {x y : Int × Nat} {l r : List (Int × Nat)} {t : Int}

theorem curveAt_of_lt_head (h : t < x.1) : curveAt (x :: r) t = x.2 := if_pos h

theorem curveAt_singleton : curveAt [x] t = x.2 := ite_self _

theorem curveAt_of_between (hx : x.1 < t) (hy : t < y.1) : curveAt (x :: y :: r) t = interpolate x.1 x.2 y.1 y.2 t := by
  simp [curveAt, curveFrom, hx.not_gt, hy, hx.ne']

/-- A temperature that has reached the second point is out of the first point's reach. -/
theorem curveAt_of_second_le (hxy : x.1 < y.1) (hy : y.1 ≤ t) : curveAt (x :: y :: r) t = curveAt (y :: r) t := by
  simp [curveAt, curveFrom, hy.not_gt, (hxy.trans_le hy).not_gt]

theorem curveAt_head (h : (x :: r).Pairwise fun a b => a.1 < b.1) : curveAt (x :: r) x.1 = x.2 := by
  cases r with
  | nil => exact curveAt_singleton
  | cons y r =>
    have hxy : x.1 < y.1 := List.rel_of_pairwise_cons h List.mem_cons_self
    simp [curveAt, curveFrom, hxy]

/-- Only the part of a curve from the last point reached on says its value: the points before it are dropped one by one. -/
theorem curveAt_append (h : (l ++ y :: r).Pairwise fun a b => a.1 < b.1) (hy : y.1 ≤ t) : curveAt (l ++ y :: r) t = curveAt (y :: r) t := by
  induction l with
  | nil => rfl
  | cons x l ih =>
    obtain ⟨hx, htail⟩ := List.pairwise_cons.mp h
    rw [← ih htail]
    cases l with
    | nil => exact curveAt_of_second_le (hx y (by simp)) hy
    | cons z l =>
      have hzy : z.1 < y.1 := List.rel_of_pairwise_cons htail (by simp)
      exact curveAt_of_second_le (hx z (by simp)) (hzy.le.trans hy)

theorem curveAt_le {ps : List (Int × Nat)} {m : Nat} (h : ps.Pairwise fun a b => a.1 < b.1) (hm : ∀ x ∈ ps, x.2 ≤ m) : curveAt ps t ≤ m := by
  induction ps with
  | nil => exact Nat.zero_le m
  | cons x r ih =>
    obtain ⟨hx, hr⟩ := List.forall_mem_cons.mp hm
    obtain hlt | rfl | hgt := lt_trichotomy t x.1
    · rwa [curveAt_of_lt_head hlt]
    · rwa [curveAt_head h]
    · cases r with
      | nil => rwa [curveAt_singleton]
      | cons y r =>
        obtain hbefore | hreached := lt_or_ge t y.1
        · rw [curveAt_of_between hgt hbefore]
          exact (interpolate_le_max hgt hbefore).trans (max_le hx (hr y List.mem_cons_self))
        · rw [curveAt_of_second_le (List.rel_of_pairwise_cons h List.mem_cons_self) hreached]
          exact ih h.of_cons hr

/-- Neighbours of a list stand together in it. -/
theorem exists_append_of_getElem?_succ {α : Type} {ps : List α} {a b : α} {i : Nat} (ha : ps[i]? = some a) (hb : ps[i + 1]? = some b) :
    ∃ l r, ps = l ++ a :: b :: r := by
  obtain ⟨hi, rfl⟩ := List.getElem?_eq_some_iff.mp ha
  obtain ⟨hj, rfl⟩ := List.getElem?_eq_some_iff.mp hb
  exact ⟨ps.take i, ps.drop (i + 2), by rw [← List.drop_eq_getElem_cons hj, ← List.drop_eq_getElem_cons hi, List.take_append_drop]⟩

end

/-- Settles O32: each clause cuts the curve at the last point that the temperature has reached. -/
theorem curveValue : Obligations.CurveValue := by
  intro ps t hrise hmax
  refine ⟨fun x hhead hlt => ?_, fun x hlast hle => ?_, fun x hmem heq => ?_, fun i x y hi hj hx hy => ?_, curveAt_le hrise hmax⟩
  · obtain ⟨r, rfl⟩ := List.head?_eq_some_iff.mp hhead
    exact curveAt_of_lt_head hlt
  · obtain ⟨l, rfl⟩ := List.getLast?_eq_some_iff.mp hlast
    rw [curveAt_append hrise hle, curveAt_singleton]
  · obtain ⟨l, r, rfl⟩ := List.append_of_mem hmem
    rw [curveAt_append hrise heq.ge, heq, curveAt_head (List.pairwise_append.mp hrise).2.1]
  · obtain ⟨l, r, rfl⟩ := exists_append_of_getElem?_succ hi hj
    rw [curveAt_append hrise hx.le, curveAt_of_between hx hy, interpolate_eq_add_floor hx hy]

/-! ## The minimum stage (R89) -/

section
variable {sh : Shaping} {v a : Nat}

theorem minStage_of_running (ha : 0 < a) : minStage sh v a = if v < sh.minDuty then 0 else v := by
  rw [minStage, if_neg ha.ne']

theorem minStage_at_rest : minStage sh v 0 = if v < sh.minDuty + 50 then 0 else v := rfl

theorem minStage_of_lt (h : v < sh.minDuty) : minStage sh v a = 0 := by
  obtain rfl | ha := a.eq_zero_or_pos
  · rw [minStage_at_rest, if_pos (h.trans_le (Nat.le_add_right ..))]
  · rw [minStage_of_running ha, if_pos h]

end

/-- Settles O37: the two cases of R89, with what each says of an output that starts and of one that keeps running. -/
theorem minimumStage : Obligations.MinimumStage := by
  refine fun sh v a => ⟨minStage_of_running, ?_, ?_, ?_, minStage_of_lt⟩
  · rintro rfl; exact minStage_at_rest
  · rintro rfl hpos
    by_contra hlt
    rw [minStage_at_rest, if_pos (not_le.mp hlt)] at hpos
    exact hpos.false
  · intro ha hmin hle
    rw [minStage_of_running ha, if_neg hle.not_gt]
    exact hmin.trans_le hle

/-! ## The moves of the applied duty (R91) -/

/-- The rows of R91 in the manual's order. -/
theorem slopeDuty_eq_table (held : Bool) (src : DutySource) (v a step minDuty : Nat) :
    slopeDuty held src v a step minDuty =
      if held = true then 0
      else if src = .override then v
      else if a < v ∧ 0 < a then min v (a + step)
      else if a < v ∧ a = 0 then min v (max step minDuty)
      else if v < a ∧ 0 < v then max v (a - step)
      else if v = 0 ∧ 0 < a then (if a - step < minDuty then 0 else a - step)
      else a := by
  unfold slopeDuty
  obtain hlt | rfl | hgt := Nat.lt_trichotomy a v
  · obtain rfl | ha := a.eq_zero_or_pos
    · simp [hlt]
    · simp [hlt, ha, ha.ne']
  · have hnot : ¬(a = 0 ∧ 0 < a) := by omega
    simp [hnot]
  · obtain rfl | hv := v.eq_zero_or_pos
    · simp [hgt]
    · simp [hgt, hgt.not_gt, hv, hv.ne']

theorem pumpHeld_iff {s : State} {o : Nat} :
    pumpHeld s o = true ↔ o < 4 ∧ ((pumpLive s o).state = .restartWait ∨ (pumpLive s o).state = .locked) := by
  simp [pumpHeld]

theorem stepOf_eq_max_capped (slope elapsed : Nat) : stepOf slope elapsed = max 1 (slope * (if 2000 < elapsed then 2000 else elapsed) / 1000) := by
  have hcap : min elapsed 2000 = if 2000 < elapsed then 2000 else elapsed := by split <;> omega
  rw [stepOf, hcap]

/-! ## One output at a publication (section 5.3) -/

@[simp] theorem zoneView_outs (b : BaySummary) (z : Nat) (s : State) : (zoneView b z s).cool.outs = s.cool.outs := by simp [zoneView, modZone]
@[simp] theorem zoneView_pumps (b : BaySummary) (z : Nat) (s : State) : (zoneView b z s).cool.pumps = s.cool.pumps := by simp [zoneView, modZone]
@[simp] theorem zoneView_mgmt (b : BaySummary) (z : Nat) (s : State) : (zoneView b z s).mgmt = s.mgmt := by simp [zoneView]

/-- The four zone views of a publication (R85). -/
def zoneViews (b : BaySummary) (s : State) : State := (List.range 4).foldl (fun x z => zoneView b z x) s

@[simp] theorem zoneViews_outs (b : BaySummary) (s : State) : (zoneViews b s).cool.outs = s.cool.outs :=
  foldl_keeps (fun x : State => x.cool.outs) _ (fun x z => zoneView_outs b z x) _ s
@[simp] theorem zoneViews_pumps (b : BaySummary) (s : State) : (zoneViews b s).cool.pumps = s.cool.pumps :=
  foldl_keeps (fun x : State => x.cool.pumps) _ (fun x z => zoneView_pumps b z x) _ s
@[simp] theorem zoneViews_mgmt (b : BaySummary) (s : State) : (zoneViews b s).mgmt = s.mgmt :=
  foldl_keeps State.mgmt _ (fun x z => zoneView_mgmt b z x) _ s

@[simp] theorem pumpLive_zoneViews (b : BaySummary) (s : State) (p : Nat) : pumpLive (zoneViews b s) p = pumpLive s p := by
  rw [pumpLive, zoneViews_pumps, pumpLive]

@[simp] theorem followPumps_outs (s : State) : (followPumps s).cool.outs = s.cool.outs := rfl
@[simp] theorem zoneEval_outs (z : Nat) (s : State) : (zoneEval z s).cool.outs = s.cool.outs := by simp [zoneEval, modZone]
@[simp] theorem bayEval_outs (s : State) : (bayEval s).cool.outs = s.cool.outs := by rw [bayEval_cool]

/-- What follows a change of duties leaves the outputs as they are. -/
@[simp] theorem coolSettle_outs (old : State) (also : Nat → Bool) (s : State) : (coolSettle old also s).cool.outs = s.cool.outs := by
  simp only [coolSettle, refreshLines_cool, bayEval_outs]
  rw [foldl_keeps (fun x : State => x.cool.outs) _ (fun x z => by split <;> simp), followPumps_outs]

theorem coolingPass_outs (b : BaySummary) (s : State) :
    (coolingPass b s).cool.outs =
      s.cool.outs.mapIdx (publishOut (zoneViews b s) (stepOf s.mgmt.ringTables.cooling.shaping.dutySlope b.elapsed)) := by
  have hviews : (List.range 4).foldl (fun x z => zoneView b z x) s = zoneViews b s := rfl
  simp only [coolingPass, hviews, coolSettle_outs, State.onCool_cool, zoneViews_outs, zoneViews_mgmt]

theorem outLive_coolingPass (b : BaySummary) {s : State} {o : Nat} (ho : o < s.cool.outs.length) :
    outLive (coolingPass b s) o =
      publishOut (zoneViews b s) (stepOf s.mgmt.ringTables.cooling.shaping.dutySlope b.elapsed) o (outLive s o) := by
  simp [outLive, coolingPass_outs, List.getElem?_eq_getElem ho]

/-- The applied duty moves toward the shaped value of the same publication, under the source of the same publication. -/
theorem publishOut_applied (s : State) (step o : Nat) (x : OutLive) :
    (publishOut s step o x).applied =
      slopeDuty (pumpHeld s o) (publishOut s step o x).source (publishOut s step o x).shaped x.applied step
        s.mgmt.ringTables.cooling.shaping.minDuty := rfl

/-- Settles O38: the outputs of a publication are those of the pipeline, and its last stage is the table of R91. -/
theorem dutyMovesBySlope : Obligations.DutyMovesBySlope := by
  intro b s o ho
  dsimp only
  rw [outLive_coolingPass b ho, publishOut_applied, slopeDuty_eq_table]
  simp only [pumpHeld_iff, pumpLive_zoneViews, zoneViews_mgmt, stepOf_eq_max_capped]

end Sys2Proof.Machine
end

section
/-! What every operation of a running part keeps of the state that the invariants of Safety.lean read: one contract, proved once for each operation from the
updates of one block to the requests. An operation that leaves an output behind its composition keeps the contract `Keeps`; one that ends with the lines
composed keeps `Tidy` as well. -/

namespace Sys2Proof.Machine

/-! ## The contract -/

/-- R60 as far as the fire state and the sequencer bar the limits. -/
def closedByState (s : State) : Prop := s.fire.state ≠ .quiet ∨ s.seqr.state ≠ .connected → s.env.chg = 0 ∧ s.env.dis = 0

/-- The sizes that `withinBounds` sets to the link. -/
def linkBounded (l : Link) : Prop := l.queue.length ≤ 64 ∧ l.fifo.length ≤ 8 ∧ l.stationCount ≤ 63 ∧ l.serviceCount ≤ 63

/-- What an operation does to the state that the invariants read: inputs, tables and control stay, limits do not rise, and each invariant is kept, but for the
outputs, which may wait for their composition while the lines are under control. -/
structure Keeps (s t : State) : Prop where
  reads : ∀ i, inputReads t i = inputReads s i
  tables : t.mgmt.ringTables = s.mgmt.ringTables
  control : t.lines.control = s.lines.control
  dark : s.lines.control = false → t.lines.outs = s.lines.outs
  chg : t.env.chg ≤ s.env.chg
  dis : t.env.dis ≤ s.env.dis
  closed : closedByState s → closedByState t
  slot : slotClamped s → slotClamped t
  coils : coilsUnforced s → coilsUnforced t
  bounds : withinBounds s → withinBounds t

/-- The same of an operation that leaves the outputs at their composed level. -/
structure Tidy (s t : State) : Prop extends Keeps s t where
  lines : linesCurrent s → linesCurrent t

namespace Keeps

theorem refl (s : State) : Keeps s s := ⟨fun _ => rfl, rfl, rfl, fun _ => rfl, le_rfl, le_rfl, id, id, id, id⟩

theorem trans {s t u : State} (a : Keeps s t) (b : Keeps t u) : Keeps s u where
  reads i := (b.reads i).trans (a.reads i)
  tables := b.tables.trans a.tables
  control := b.control.trans a.control
  dark h := (b.dark (a.control.trans h)).trans (a.dark h)
  chg := b.chg.trans a.chg
  dis := b.dis.trans a.dis
  closed h := b.closed (a.closed h)
  slot h := b.slot (a.slot h)
  coils h := b.coils (a.coils h)
  bounds h := b.bounds (a.bounds h)

theorem ite {c : Prop} [Decidable c] {s t u : State} (a : Keeps s t) (b : Keeps s u) : Keeps s (if c then t else u) := by
  split
  · exact a
  · exact b

theorem foldl {α : Type} {f : State → α → State} (h : ∀ x a, Keeps x (f x a)) (l : List α) (s : State) : Keeps s (l.foldl f s) := by
  induction l generalizing s with
  | nil => exact refl s
  | cons a r ih => exact (h s a).trans (ih (f s a))

end Keeps

namespace Tidy

theorem refl (s : State) : Tidy s s := ⟨.refl s, id⟩

theorem trans {s t u : State} (a : Tidy s t) (b : Tidy t u) : Tidy s u := ⟨a.toKeeps.trans b.toKeeps, fun h => b.lines (a.lines h)⟩

theorem ite {c : Prop} [Decidable c] {s t u : State} (a : Tidy s t) (b : Tidy s u) : Tidy s (if c then t else u) := by
  split
  · exact a
  · exact b

theorem foldl {α : Type} {f : State → α → State} (h : ∀ x a, Tidy x (f x a)) (l : List α) (s : State) : Tidy s (l.foldl f s) := by
  induction l generalizing s with
  | nil => exact refl s
  | cons a r ih => exact (h s a).trans (ih (f s a))

end Tidy

/-! ## Updates of one block -/

/-- The composed levels follow from what Table 9-3, the interlocks of R160 and the force records read. -/
theorem composed_congr {s t : State} (hreads : ∀ i, inputReads t i = inputReads s i) (hlines : t.lines = s.lines)
    (hstate : t.seqr.state = s.seqr.state) (hpulse : t.seqr.closePulse = s.seqr.closePulse) (hstray : t.seqr.stray = s.seqr.stray)
    (hfire : t.fire.state = s.fire.state) (hrelease : t.fire.pulse = s.fire.pulse) (hsilenced : t.fire.silenced = s.fire.silenced)
    (hsounder : t.fire.sounder = s.fire.sounder) (o : Nat) : composed t o = composed s o := by
  have hd : demand t = demand s := by
    funext o; unfold demand sounderDemand alarmDemand
    rw [hlines, hstate, hpulse, hstray, hfire, hrelease, hsilenced, hsounder]
  have hi : interlocked t o = interlocked s o := by
    unfold interlocked; rw [hd, hreads, hreads, hreads, hreads, hlines]
  unfold composed
  rw [hi, hd, hlines]

theorem linesCurrent_congr {s t : State} (h : ∀ o, composed t o = composed s o) (hlines : t.lines = s.lines) :
    linesCurrent s → linesCurrent t := by
  unfold linesCurrent
  rw [hlines]; simp only [h]; exact id

namespace Tidy

theorem onCell (s : State) (f) : Tidy s (s.onCell f) := ⟨⟨fun _ => rfl, rfl, rfl, fun _ => rfl, le_rfl, le_rfl, id, id, id, id⟩, id⟩
theorem onCool (s : State) (f) : Tidy s (s.onCool f) := ⟨⟨fun _ => rfl, rfl, rfl, fun _ => rfl, le_rfl, le_rfl, id, id, id, id⟩, id⟩
theorem onLoop (s : State) (f) : Tidy s (s.onLoop f) := ⟨⟨fun _ => rfl, rfl, rfl, fun _ => rfl, le_rfl, le_rfl, id, id, id, id⟩, id⟩
theorem onStore (s : State) (f) : Tidy s (s.onStore f) := ⟨⟨fun _ => rfl, rfl, rfl, fun _ => rfl, le_rfl, le_rfl, id, id, id, id⟩, id⟩

theorem onLink {s : State} {f} (h : linkBounded s.link → linkBounded (f s.link)) : Tidy s (s.onLink f) where
  toKeeps := ⟨fun _ => rfl, rfl, rfl, fun _ => rfl, le_rfl, le_rfl, id, id, id, fun ⟨h1, h2, h3, h4, h5, h6, h7, h8⟩ =>
    have ⟨k1, k2, k3, k4⟩ := h ⟨h1, h2, h7, h8⟩
    ⟨k1, k2, h3, h4, h5, h6, k3, k4⟩⟩
  lines := id

theorem onRing {s : State} {f} (hslot : (f s.ring).slot = s.ring.slot ∨ (f s.ring).slot = none)
    (hqueue : s.ring.downQueue.length ≤ 8 → (f s.ring).downQueue.length ≤ 8) : Tidy s (s.onRing f) where
  toKeeps := by
    refine ⟨fun _ => rfl, rfl, rfl, fun _ => rfl, le_rfl, le_rfl, id, fun h x hx => ?_, id, fun ⟨h1, h2, h3, h4⟩ => ⟨h1, h2, hqueue h3, h4⟩⟩
    obtain he | he := hslot
    · exact h x (he ▸ hx)
    · exact nomatch he.symm.trans hx
  lines := id

theorem onRing_same {s : State} {f} (hslot : (f s.ring).slot = s.ring.slot) (hqueue : (f s.ring).downQueue = s.ring.downQueue) :
    Tidy s (s.onRing f) := onRing (.inl hslot) (fun h => by rwa [hqueue])

theorem onGate {s : State} {f} (hreq : (f s.gate).requested = s.gate.requested) (hsent : s.gate.sent.length ≤ 4 → (f s.gate).sent.length ≤ 4)
    (hack : s.gate.ackCount ≤ 3 → (f s.gate).ackCount ≤ 3) : Tidy s (s.onGate f) where
  toKeeps := by
    refine ⟨fun _ => rfl, rfl, rfl, fun _ => rfl, le_rfl, le_rfl, id, fun h x hx => ?_, id,
      fun ⟨h1, h2, h3, h4, h5, h6⟩ => ⟨h1, h2, h3, hsent h4, hack h5, h6⟩⟩
    obtain ⟨r, hr, hp⟩ := h x hx
    exact ⟨r, hreq.trans hr, hp⟩
  lines := id

theorem onMgmt {s : State} {f} (h : (f s.mgmt).ringTables = s.mgmt.ringTables) : Tidy s (s.onMgmt f) := by
  have hreads : ∀ i, inputReads (s.onMgmt f) i = inputReads s i := fun i => by simp only [inputReads, State.onMgmt_lines, State.onMgmt_mgmt, h]
  exact ⟨⟨hreads, h, rfl, fun _ => rfl, le_rfl, le_rfl, id, id, id, id⟩,
    linesCurrent_congr (composed_congr hreads rfl rfl rfl rfl rfl rfl rfl rfl) rfl⟩

theorem onEnv {s : State} {f} (hchg : (f s.env).chg = s.env.chg) (hdis : (f s.env).dis = s.env.dis) : Tidy s (s.onEnv f) where
  toKeeps := by
    refine ⟨fun _ => rfl, rfl, rfl, fun _ => rfl, hchg.le, hdis.le, fun h hb => ?_, fun h x hx => ?_, id, id⟩
    · exact (h hb).imp hchg.trans hdis.trans
    · obtain ⟨r, hr, hp⟩ := h x hx
      exact ⟨r, hr, by rw [State.onEnv_env, hchg, hdis]; exact hp⟩
  lines := id

theorem onSeqr {s : State} {f} (hstate : (f s.seqr).state = s.seqr.state) (hreclose : s.seqr.reclose ≤ 3 → (f s.seqr).reclose ≤ 3)
    (hpulse : (f s.seqr).closePulse = s.seqr.closePulse) (hstray : (f s.seqr).stray = s.seqr.stray) : Tidy s (s.onSeqr f) where
  toKeeps := by
    refine ⟨fun _ => rfl, rfl, rfl, fun _ => rfl, le_rfl, le_rfl, fun h hb => h ?_, id, id,
      fun ⟨h1, h2, h3, h4, h5, h6, h7⟩ => ⟨h1, h2, h3, h4, h5, hreclose h6, h7⟩⟩
    rwa [State.onSeqr_seqr, hstate] at hb
  lines := linesCurrent_congr (composed_congr (fun _ => rfl) rfl hstate hpulse hstray rfl rfl rfl rfl) rfl

theorem onFire {s : State} {f} (hstate : (f s.fire).state = s.fire.state) (hpulse : (f s.fire).pulse = s.fire.pulse)
    (hsilenced : (f s.fire).silenced = s.fire.silenced) (hsounder : (f s.fire).sounder = s.fire.sounder) : Tidy s (s.onFire f) where
  toKeeps := by
    refine ⟨fun _ => rfl, rfl, rfl, fun _ => rfl, le_rfl, le_rfl, fun h hb => h ?_, id, id, id⟩
    rwa [State.onFire_fire, hstate] at hb
  lines := linesCurrent_congr (composed_congr (fun _ => rfl) rfl rfl rfl rfl hstate hpulse hsilenced hsounder) rfl

end Tidy

namespace Keeps

theorem onSeqr {s : State} {f} (hstate : (f s.seqr).state = s.seqr.state) (hreclose : s.seqr.reclose ≤ 3 → (f s.seqr).reclose ≤ 3) :
    Keeps s (s.onSeqr f) := by
  refine ⟨fun _ => rfl, rfl, rfl, fun _ => rfl, le_rfl, le_rfl, fun h hb => h ?_, id, id,
    fun ⟨h1, h2, h3, h4, h5, h6, h7⟩ => ⟨h1, h2, h3, h4, h5, hreclose h6, h7⟩⟩
  rwa [State.onSeqr_seqr, hstate] at hb

theorem onFire {s : State} {f} (hstate : (f s.fire).state = s.fire.state) : Keeps s (s.onFire f) := by
  refine ⟨fun _ => rfl, rfl, rfl, fun _ => rfl, le_rfl, le_rfl, fun h hb => h ?_, id, id, id⟩
  rwa [State.onFire_fire, hstate] at hb

theorem onLines {s : State} {f} (hin : (f s.lines).inputs.map InputLive.level = s.lines.inputs.map InputLive.level)
    (hcontrol : (f s.lines).control = s.lines.control) (hdark : s.lines.control = false → (f s.lines).outs = s.lines.outs)
    (hforces : coilsUnforced s → ∀ o, o = 12 ∨ o = 13 ∨ o = 17 → (f s.lines).forces.getD o none = none) : Keeps s (s.onLines f) := by
  refine ⟨fun i => ?_, rfl, hcontrol, hdark, le_rfl, le_rfl, id, id, hforces, id⟩
  have h : ∀ l : List InputLive, (l.getD (inputIdx i) (freshInput false)).level = (l.map InputLive.level).getD (inputIdx i) none := by
    intro l; simp only [List.getD, List.getElem?_map]
    cases l[inputIdx i]? <;> rfl
  simp only [inputReads, State.onLines_lines, State.onLines_mgmt, h, hin]

end Keeps

/-! ## The queues upward (R173 to R177) -/

theorem nextCount_le {c : Nat} (h : c ≤ 63) : nextCount c ≤ 63 := by
  unfold nextCount; split <;> omega

theorem lowestBelow_mem {c r : Nat} {q : List UpFrame} (h : lowestBelow c q = some r) : ∃ f ∈ q, (f.cls.rank == r) = true := by
  unfold lowestBelow at h
  have := List.find?_some h
  exact List.any_eq_true.mp this

theorem dropOldest_length {r : Nat} {q : List UpFrame} (h : ∃ f ∈ q, (f.cls.rank == r) = true) : (dropOldest r q).length = q.length - 1 := by
  obtain ⟨f, hf, hr⟩ := h
  exact List.length_eraseP_of_mem hf hr

theorem linkBounded_queueJoin (f : UpFrame) {l : Link} (h : linkBounded l) : linkBounded (queueJoin f l) := by
  obtain ⟨h1, h2, h3, h4⟩ := h
  unfold queueJoin
  split
  · exact ⟨by simp; omega, h2, h3, h4⟩
  · split
    · rename_i r hr
      refine ⟨?_, h2, h3, h4⟩
      have := dropOldest_length (lowestBelow_mem hr)
      simp only [List.length_append, List.length_singleton]; omega
    · exact ⟨h1, h2, h3, h4⟩

theorem linkBounded_stationTake (now rate : Nat) {l : Link} (h : linkBounded l) : linkBounded (stationTake now rate l) := by
  obtain ⟨h1, h2, h3, h4⟩ := h
  unfold stationTake
  split
  · exact ⟨h1, h2, h3, h4⟩
  · split
    · exact ⟨h1, h2, h3, h4⟩
    · refine ⟨List.length_eraseP_le.trans h1, h2, ?_, h4⟩
      dsimp only; split
      · exact nextCount_le h3
      · exact h3

theorem linkBounded_fifoJoin (f : UpFrame) {l : Link} (h : linkBounded l) : linkBounded (fifoJoin f l) := by
  obtain ⟨h1, h2, h3, h4⟩ := h
  unfold fifoJoin
  split <;> exact ⟨h1, by simp; omega, h3, h4⟩

theorem linkBounded_serviceTake (now : Nat) {l : Link} (h : linkBounded l) : linkBounded (serviceTake now l) := by
  obtain ⟨h1, h2, h3, h4⟩ := h
  unfold serviceTake
  split
  · exact ⟨h1, h2, h3, h4⟩
  · split
    · exact ⟨h1, h2, h3, h4⟩
    · rename_i hf
      rw [hf] at h2
      refine ⟨h1, (Nat.le_succ _).trans h2, h3, ?_⟩
      dsimp only; split
      · exact nextCount_le h4
      · exact h4

theorem linkBounded_sendUp (now rate : Nat) (p : FramePort) (f : UpFrame) {l : Link} (h : linkBounded l) : linkBounded (sendUp now rate p f l) := by
  cases p with
  | station => exact linkBounded_stationTake _ _ (linkBounded_queueJoin _ h)
  | service => exact linkBounded_serviceTake _ (linkBounded_fifoJoin _ h)

theorem linkBounded_linkNotice (now rate round : Nat) (n : Notice) {l : Link} (h : linkBounded l) : linkBounded (linkNotice now rate round n l) := by
  unfold linkNotice
  split
  · exact h
  · dsimp only; split
    · exact linkBounded_sendUp _ _ _ _ (linkBounded_sendUp _ _ _ _ h)
    · exact linkBounded_sendUp _ _ _ _ h

theorem raiseNotice_tidy (n : Notice) (s : State) : Tidy s (raiseNotice n s) := .onLink (linkBounded_linkNotice _ _ _ _)

theorem raiseIf_tidy (b : Bool) (n : Notice) (s : State) : Tidy s (raiseIf b n s) := .ite (raiseNotice_tidy n s) (.refl s)

theorem raiseAll_tidy (ns : List Notice) (s : State) : Tidy s (raiseAll ns s) := .foldl (fun _ _ => raiseNotice_tidy _ _) ns s

theorem passUp_tidy (p : FramePort) (f : Frame) (s : State) : Tidy s (passUp p f s) := .onLink (linkBounded_sendUp _ _ _ _)

theorem answerAs_tidy (b : Bool) (p : FramePort) (src id : Byte) (code : Nat) (st : Status) (rs : List Byte) (s : State) :
    Tidy s (answerAs b p src id code st rs s) := .onLink (linkBounded_sendUp _ _ _ _)

theorem answer_tidy (r : Request) (code : Nat) (st : Status) (rs : List Byte) (s : State) : Tidy s (answer r code st rs s) :=
  answerAs_tidy _ _ _ _ _ _ _ _

/-! ## The Setpoint Slot and the limits (R60 to R63, R70, R75) -/

theorem withinBounds_congr {s t : State} (hl : linkBounded s.link → linkBounded t.link) (hq : t.ring.downQueue = s.ring.downQueue) (hg : t.gate = s.gate)
    (hs : t.seqr = s.seqr) : withinBounds s → withinBounds t := by
  rintro ⟨h1, h2, h3, h4, h5, h6, h7, h8⟩
  obtain ⟨k1, k2, k3, k4⟩ := hl ⟨h1, h2, h7, h8⟩
  exact ⟨k1, k2, hq ▸ h3, hg ▸ h4, hg ▸ h5, hs ▸ h6, k3, k4⟩

/-- A reissue writes the clamp of the Requested Setpoint, or leaves the slot. -/
theorem reissueCheck_slot {s : State} (h : slotClamped s) : slotClamped (reissueCheck s) := by
  unfold reissueCheck
  split
  · rename_i r _ hr _ _ _
    split
    · rintro f ⟨⟩; exact ⟨r, hr, rfl⟩
    · exact h
  · exact h

theorem reissueCheck_tidy (s : State) : Tidy s (reissueCheck s) where
  reads i := by simp [inputReads]
  tables := by simp
  control := by simp
  dark := by simp
  chg := by simp
  dis := by simp
  closed := by simp [closedByState]
  slot := reissueCheck_slot
  coils := by simp [coilsUnforced]
  bounds := withinBounds_congr (by simp) (by rw [reissueCheck_ring]) (by simp) (by simp)
  lines := linesCurrent_congr (composed_congr (fun i => by simp [inputReads]) (by simp) (by simp) (by simp) (by simp) (by simp) (by simp) (by simp) (by simp))
    (by simp)

/-- The untaken frame is clamped anew, whatever limits it was built under, if it has a Requested Setpoint. -/
theorem slotRewrite_slot {s : State} (h : ∀ f, s.ring.slot = some f → ∃ r, s.gate.requested = some r) : slotClamped (slotRewrite s) := by
  unfold slotRewrite
  split
  · rename_i f r _ hr
    rintro x ⟨⟩; exact ⟨r, hr, rfl⟩
  · rename_i hno
    intro f hf
    obtain ⟨r, hr⟩ := h f hf
    exact absurd hr (hno f r hf)

theorem setLimits_slot (c d : Nat) {s : State} (h : slotClamped s) : slotClamped (setLimits c d s) := by
  have hreq : ∀ f, s.ring.slot = some f → ∃ r, s.gate.requested = some r := fun f hf => (h f hf).imp fun _ => And.left
  simp only [setLimits]
  split
  · rename_i he
    intro f hf
    simp only [raiseAll_ring, State.onEnv_ring] at hf
    simpa [← he.1, ← he.2] using h f hf
  · exact reissueCheck_slot (slotRewrite_slot (by simpa using hreq))

theorem raiseAll_link (ns : List Notice) {s : State} (h : linkBounded s.link) : linkBounded (raiseAll ns s).link := by
  induction ns generalizing s with
  | nil => exact h
  | cons n r ih => exact ih (s := raiseNotice n s) (linkBounded_linkNotice _ _ _ _ h)

theorem setLimits_link (c d : Nat) {s : State} (h : linkBounded s.link) : linkBounded (setLimits c d s).link := by
  simp only [setLimits]
  split
  · exact raiseAll_link _ h
  · rw [limitsHanded_link]; exact raiseAll_link _ h

theorem setLimits_bounds (c d : Nat) {s : State} : withinBounds s → withinBounds (setLimits c d s) :=
  withinBounds_congr (setLimits_link c d) (by rw [setLimits_ring]) (by simp) (by simp)

/-- The limits come down, or stay. -/
theorem setLimits_tidy {c d : Nat} {s : State} (hc : c ≤ s.env.chg) (hd : d ≤ s.env.dis) : Tidy s (setLimits c d s) where
  reads i := by simp [inputReads]
  tables := by simp
  control := by simp
  dark := by simp
  chg := by simpa [setLimits_env] using hc
  dis := by simpa [setLimits_env] using hd
  closed h hb := by
    have := h (by simpa using hb)
    simp only [setLimits_env]; omega
  slot := setLimits_slot c d
  coils := by simp [coilsUnforced]
  bounds := setLimits_bounds c d
  lines := linesCurrent_congr (composed_congr (fun i => by simp [inputReads]) (by simp) (by simp) (by simp) (by simp) (by simp) (by simp) (by simp) (by simp))
    (by simp)

theorem gateOnset_tidy (g : Nat) (s : State) : Tidy s (gateOnset g s) :=
  ((Tidy.onEnv rfl rfl).trans (raiseIf_tidy _ _ _)).trans (setLimits_tidy (Nat.zero_le _) (Nat.zero_le _))

theorem gateOnset_zero (g : Nat) (s : State) : (gateOnset g s).env.chg = 0 ∧ (gateOnset g s).env.dis = 0 := by
  simp only [gateOnset, setLimits_env, and_self]

theorem gateEnd_tidy (g : Nat) (s : State) : Tidy s (gateEnd g s) := (Tidy.onEnv rfl rfl).trans (raiseIf_tidy _ _ _)

theorem ratingCut_tidy (s : State) : Tidy s (ratingCut s) := setLimits_tidy (Nat.min_le_left ..) (Nat.min_le_left ..)

/-! ## The lines (R159 to R164) -/

theorem raiseIf_keeps (b : Bool) (n : Notice) (s : State) : Keeps s (raiseIf b n s) := (raiseIf_tidy b n s).toKeeps
theorem raiseNotice_keeps (n : Notice) (s : State) : Keeps s (raiseNotice n s) := (raiseNotice_tidy n s).toKeeps

theorem readbackEval_keeps (c : Contactor) (s : State) : Keeps s (readbackEval c s) := by
  refine .trans (.onLines ?_ ?_ ?_ ?_) (raiseIf_keeps _ _ _) <;> cases c <;> simp +contextual [setReadback, coilsUnforced]

theorem faultEval_keeps (s : State) : Keeps s (faultEval s) :=
  .trans (.onLines rfl rfl (fun _ => rfl) (by exact id)) (raiseIf_keeps _ _ _)

theorem composeAll_keeps {s : State} (h : s.lines.control = true) : Keeps s (composeAll s) := by
  have hcut : Keeps s (s.onLines fun l => { l with cut := cutNow s }) := .onLines rfl rfl (fun _ => rfl) (by exact id)
  unfold composeAll
  refine hcut.trans (.onLines rfl rfl (fun hf => ?_) (by exact id))
  exact nomatch h.symm.trans hf

theorem composeAll_current {s : State} (h : s.lines.control = true) : linesCurrent (composeAll s) := by
  unfold linesCurrent
  simp only [composeAll_control, h, Bool.true_and]
  rfl

theorem refreshLines_keeps (s : State) : Keeps s (refreshLines s) := by
  unfold refreshLines
  split
  · rename_i h
    have hf : (faultEval (readbackEval .neg (readbackEval .pos (composeAll s)))).lines.control = true := by simp [h]
    exact (composeAll_keeps h).trans ((readbackEval_keeps _ _).trans ((readbackEval_keeps _ _).trans
      ((faultEval_keeps _).trans (composeAll_keeps hf))))
  · exact .refl s

/-- Before the lines are under control every output stands inactive. -/
theorem linesCurrent.dark {s : State} (h : linesCurrent s) (hc : s.lines.control = false) : s.lines.outs = List.replicate 10 false := by
  rw [h]; simp [hc, List.map_const']

theorem linesCurrent_of_dark {s : State} (hc : s.lines.control = false) (h : s.lines.outs = List.replicate 10 false) : linesCurrent s := by
  rw [linesCurrent, h]; simp [hc, List.map_const']

/-- The composition brings every output to its level. -/
theorem refreshLines_current {s : State} (h : s.lines.control = false → s.lines.outs = List.replicate 10 false) : linesCurrent (refreshLines s) := by
  unfold refreshLines
  split
  · rename_i hc
    exact composeAll_current (by simp [hc])
  · rename_i hc
    have hc : s.lines.control = false := by simpa using hc
    exact linesCurrent_of_dark hc (h hc)

theorem Keeps.refresh {s t : State} (h : Keeps s t) : Tidy s (refreshLines t) where
  toKeeps := h.trans (refreshLines_keeps t)
  lines hs := refreshLines_current fun hc => by
    have hc' : s.lines.control = false := h.control.symm.trans hc
    rw [h.dark hc', hs.dark hc']

theorem refreshLines_tidy (s : State) : Tidy s (refreshLines s) := (Keeps.refl s).refresh

theorem getD_set_none {α : Type} (l : List (Option α)) (o i : Nat) (h : l.getD i none = none) : (l.set o none).getD i none = none := by
  simp only [List.getD, List.getElem?_set] at *
  split
  · split <;> rfl
  · exact h

theorem endForce_keeps (o : Nat) (s : State) : Keeps s (endForce o s) := by
  unfold endForce
  split
  · exact .refl s
  · exact .trans (.onLines rfl rfl (fun _ => rfl) fun h i hi => getD_set_none _ _ _ (h i hi)) (raiseNotice_keeps _ _)

theorem endContactorForces_keeps (s : State) : Keeps s (endContactorForces s) :=
  (endForce_keeps _ _).trans ((endForce_keeps _ _).trans (endForce_keeps _ _))

/-! ## The sequencer (R143 to R153) -/

theorem blindEval_tidy (s : State) : Tidy s (blindEval s) :=
  .ite ((Tidy.onSeqr rfl id rfl rfl).trans (raiseNotice_tidy _ _)) (.ite ((Tidy.onSeqr rfl id rfl rfl).trans (raiseNotice_tidy _ _)) (.refl s))

theorem strayStart_tidy (c : Cause) (s : State) : Tidy s (strayStart c s) :=
  ((Keeps.onSeqr rfl id).trans (raiseNotice_keeps _ _)).refresh

theorem strayStop_tidy (s : State) : Tidy s (strayStop s) := (Keeps.onSeqr rfl id).refresh
theorem strayTest_tidy (s : State) : Tidy s (strayTest s) := .ite (strayStop_tidy s) (.refl s)

/-- The state and what belongs to it, with the gate NOT_CONNECTED (R143). -/
def seqShift (st : SeqState) (s : State) : State :=
  let t := raiseNotice (nSeqState st) (s.onSeqr (seqEnter st s.now))
  let u := if s.seqr.state = .connected ∧ st ≠ .connected then gateOnset 2 t else t
  if st = .connected ∧ s.seqr.state ≠ .connected then gateEnd 2 u else u

/-- A change of the sequencer's state is its shift and what its readers do. -/
theorem seqTo_eq_shift (st : SeqState) (s : State) : seqTo st s =
    (let u := blindEval (seqShift st s)
     let v := refreshLines (if s.seqr.state = .open_ ∧ st ≠ .open_ then endContactorForces u else u)
     if st = .opening ∧ inputReads v .breakerAux = some true ∧ v.seqr.stray = none then strayStart .breakerStray v else v) := rfl

theorem seqEnter_reclose (st : SeqState) (now : Nat) (q : Sequencer) (h : q.reclose ≤ 3) : (seqEnter st now q).reclose ≤ 3 := by
  simp only [seqEnter]; split <;> omega

/-- The limits are closed where the state was CONNECTED, and stand closed where it becomes so. -/
theorem seqShift_keeps (st : SeqState) (s : State) : Keeps s (seqShift st s) := by
  have hraise (t : State) : Keeps t (raiseNotice (nSeqState st) t) := raiseNotice_keeps _ _
  have hbounds : withinBounds s → withinBounds (raiseNotice (nSeqState st) (s.onSeqr (seqEnter st s.now))) :=
    fun ⟨h1, h2, h3, h4, h5, h6, h7⟩ => (hraise _).bounds ⟨h1, h2, h3, h4, h5, seqEnter_reclose _ _ _ h6, h7⟩
  have hfrom : s.seqr.state = .connected → st ≠ .connected → Keeps s (gateOnset 2 (raiseNotice (nSeqState st) (s.onSeqr (seqEnter st s.now)))) := by
    intro _ _
    have h := (gateOnset_tidy 2 (raiseNotice (nSeqState st) (s.onSeqr (seqEnter st s.now)))).toKeeps
    exact ⟨h.reads, h.tables, h.control, h.dark, h.chg, h.dis, fun _ _ => gateOnset_zero _ _, h.slot, h.coils, fun hs => h.bounds (hbounds hs)⟩
  have hto : s.seqr.state ≠ .connected ∨ st = .connected → Keeps s (raiseNotice (nSeqState st) (s.onSeqr (seqEnter st s.now))) := by
    intro hc
    have h := hraise (s.onSeqr (seqEnter st s.now))
    refine ⟨h.reads, h.tables, h.control, h.dark, h.chg, h.dis, fun hs hb => hs ?_, h.slot, h.coils, hbounds⟩
    simp only [raiseNotice_fire, State.onSeqr_fire, raiseNotice_seqr, State.onSeqr_seqr, seqEnter] at hb
    obtain hf | hst := hb
    · exact .inl hf
    · exact .inr (hc.resolve_right hst)
  unfold seqShift
  dsimp only
  by_cases hold : s.seqr.state = .connected <;> by_cases hnew : st = .connected <;> simp only [hold, hnew, ne_eq, not_true, not_false_eq_true, and_true,
    and_false, if_true, if_false]
  · exact hnew ▸ hto (.inr hnew)
  · exact hfrom hold hnew
  · exact .trans (hnew ▸ hto (.inr hnew)) (gateEnd_tidy _ _).toKeeps
  · exact hto (.inl hold)

theorem seqTo_tidy (st : SeqState) (s : State) : Tidy s (seqTo st s) := by
  rw [seqTo_eq_shift]
  have h := (seqShift_keeps st s).trans (blindEval_tidy _).toKeeps
  have hv := (Keeps.ite (c := s.seqr.state = .open_ ∧ st ≠ .open_) (h.trans (endContactorForces_keeps _)) h).refresh
  exact hv.trans (.ite (strayStart_tidy _ _) (.refl _))

theorem handLatch_tables (b : Bool) (r : Lockout) (m : Mgmt) : (handLatch b r m).ringTables = m.ringTables := by rw [handLatch_latch]

theorem lockOut_tidy (r : Lockout) (s : State) : Tidy s (lockOut r s) :=
  (Tidy.onSeqr rfl id rfl rfl).trans ((seqTo_tidy _ _).trans ((raiseNotice_tidy _ _).trans (.onMgmt (handLatch_tables _ _ _))))

theorem tripTo_tidy (c : Cause) (cl : CauseClass) (k : Continuation) (s : State) : Tidy s (tripTo c cl k s) :=
  (raiseNotice_tidy (nSeqTrip (cl == .grid) c s.seqr.reclose) s).trans
    ((Tidy.onSeqr (f := fun q => { q with trip := some ⟨c, cl, k⟩ }) rfl id rfl rfl).trans (seqTo_tidy .tripping _))

theorem takeGrid_tidy (c : Cause) (s : State) : Tidy s (takeGrid c s) := .ite (tripTo_tidy _ _ _ _) (.refl s)

theorem takeBay_tidy (c : Cause) (s : State) : Tidy s (takeBay c s) := by
  unfold takeBay
  split
  iterate 3 exact (raiseNotice_tidy _ _).trans (seqTo_tidy _ _)
  iterate 2 exact tripTo_tidy _ _ _ _
  · split
    · exact (Tidy.onSeqr rfl id rfl rfl).trans (raiseNotice_tidy _ _)
    · exact .refl s
  · exact .ite ((raiseNotice_tidy _ _).trans (lockOut_tidy _ _)) (.refl s)
  · exact .refl s
  · exact .refl s

theorem seqEnterTested_tidy (st : SeqState) (s : State) : Tidy s (seqEnterTested st s) := by
  unfold seqEnterTested
  dsimp only
  split
  · exact (seqTo_tidy _ _).trans (takeBay_tidy _ _)
  · exact seqTo_tidy _ _

theorem tripComplete_tidy (s : State) : Tidy s (tripComplete s) := by
  unfold tripComplete
  split
  · split
    · rename_i h
      exact (Tidy.onSeqr rfl (by exact fun _ => h) rfl rfl).trans (seqEnterTested_tidy _ _)
    · exact (Tidy.onSeqr rfl id rfl rfl).trans (seqTo_tidy _ _)
  · exact seqTo_tidy _ _

theorem tripTest_tidy (s : State) : Tidy s (tripTest s) := .ite (tripComplete_tidy s) (.refl s)

theorem openingTest_tidy (s : State) : Tidy s (openingTest s) := by
  unfold openingTest
  split
  · split
    · exact lockOut_tidy _ _
    · exact .ite (lockOut_tidy _ _) (seqTo_tidy _ _)
  · exact .refl s

theorem strayFail_tidy (s : State) : Tidy s (strayFail s) :=
  ((strayStop_tidy s).trans (raiseNotice_tidy _ _)).trans
    (.ite ((Tidy.onSeqr rfl id rfl rfl).trans (.onMgmt (handLatch_tables _ _ _))) (lockOut_tidy _ _))

theorem stagesSample_tidy (m : MeterRec) (s : State) : Tidy s (stagesSample m s) := by
  have h : ∀ (timers : List (Option Nat)) (run : Nat), Tidy s (s.onSeqr fun q => { q with stages := timers, rocofRun := run }) :=
    fun _ _ => .onSeqr rfl id rfl rfl
  unfold stagesSample
  split
  · dsimp only
    generalize (if s.mgmt.ringTables.grid.rocofLimit < m.rocof.natAbs then s.seqr.rocofRun + 1 else 0) = run
    split
    · exact (h _ _).trans (takeGrid_tidy _ _)
    · split
      · exact (h _ _).trans (takeGrid_tidy _ _)
      · exact h _ _
  · exact .refl s

theorem healthySample_tidy (m : MeterRec) (s : State) : Tidy s (healthySample m s) := .ite (.onSeqr rfl id rfl rfl) (.refl s)

theorem converterSample_tidy (c : ConverterSample) (s : State) : Tidy s (converterSample c s) := by
  refine .trans (Tidy.onSeqr rfl id rfl rfl) (.ite (.ite (seqEnterTested_tidy _ _) (.refl _)) (.ite ?_ (.refl _)))
  exact .trans (Tidy.onSeqr rfl id rfl rfl) (openingTest_tidy _)

theorem seqNodes_tidy (b : Bool) (s : State) : Tidy s (seqNodes b s) := by
  unfold seqNodes
  refine ((blindEval_tidy s).trans (.ite (.refl _) (.onSeqr rfl id rfl rfl))).trans (.ite (takeBay_tidy _ _) (.refl _))

/-! ## Cooling (R83 to R100) -/

theorem followPumps_tidy (s : State) : Tidy s (followPumps s) :=
  (Tidy.onCool _ _).trans ((Tidy.onCool _ _).trans ((Tidy.onCool _ _).trans (.onCool _ _)))

theorem zoneEval_tidy (z : Nat) (s : State) : Tidy s (zoneEval z s) := (Tidy.onCool _ _).trans (raiseIf_tidy _ _ _)

theorem bayEval_tidy (s : State) : Tidy s (bayEval s) :=
  ((Tidy.onCool _ _).trans (raiseIf_tidy _ _ _)).trans (.ite (takeBay_tidy _ _) (.refl _))

theorem coolSettle_refreshes (old : State) (also : Nat → Bool) (s : State) : ∃ u, Tidy s u ∧ coolSettle old also s = refreshLines u :=
  ⟨_, ((followPumps_tidy s).trans (.foldl (fun _ _ => .ite (zoneEval_tidy _ _) (.refl _)) _ _)).trans (bayEval_tidy _), rfl⟩

/-- What follows a change of duties composes the lines, whatever has changed before it. -/
theorem Keeps.settle {s t : State} (h : Keeps s t) (old : State) (also : Nat → Bool) : Tidy s (coolSettle old also t) := by
  obtain ⟨u, hu, he⟩ := coolSettle_refreshes old also t
  exact he ▸ (h.trans hu.toKeeps).refresh

theorem coolSettle_tidy (old : State) (also : Nat → Bool) (s : State) : Tidy s (coolSettle old also s) := (Keeps.refl s).settle _ _

theorem reformOuts_tidy (s : State) : Tidy s (reformOuts s) := .foldl (fun _ _ => .onCool _ _) _ _

theorem Keeps.reformAll {s t : State} (h : Keeps s t) : Tidy s (reformAll t) := (h.trans (reformOuts_tidy t).toKeeps).settle _ _
theorem reformAll_tidy (s : State) : Tidy s (reformAll s) := (Keeps.refl s).reformAll
theorem Keeps.reformOne {s t : State} (h : Keeps s t) (o : Nat) : Tidy s (reformOne o t) := (h.trans (Tidy.onCool _ _).toKeeps).settle _ _

theorem flowTest_tidy (z flow : Nat) (s : State) : Tidy s (flowTest z flow s) := by
  unfold flowTest
  split
  · exact .refl s
  · exact .onCool _ _

theorem coolantSample_tidy (a : Nat) (m : CoolantSample) (s : State) : Tidy s (coolantSample a m s) := by
  unfold coolantSample
  split
  · exact .refl s
  · exact ((Tidy.onCool _ _).trans (flowTest_tidy _ _ _)).trans (coolSettle_tidy _ _ _)

theorem zoneView_tidy (b : BaySummary) (z : Nat) (s : State) : Tidy s (zoneView b z s) := (Tidy.onCool _ _).trans (raiseIf_tidy _ _ _)

theorem coolingPass_tidy (b : BaySummary) (s : State) : Tidy s (coolingPass b s) := by
  have hviews : Tidy s ((List.range 4).foldl (fun x z => zoneView b z x) s) := .foldl (fun _ _ => zoneView_tidy _ _ _) _ _
  unfold coolingPass
  exact hviews.trans ((Tidy.onCool _ _).trans ((Tidy.onCool _ _).trans (coolSettle_tidy _ _ _)))

theorem Keeps.coolingTakeUp {s t : State} (h : Keeps s t) (old : CoolingCfg) : Tidy s (coolingTakeUp old t) :=
  (h.trans ((Tidy.onCool _ _).trans (reformOuts_tidy _)).toKeeps).settle _ _

theorem pumpTo_tidy (p : Nat) (f) (s : State) : Tidy s (pumpTo p f s) :=
  (Tidy.onCool _ _).trans ((raiseNotice_tidy _ _).trans ((Tidy.onCool _ _).trans (coolSettle_tidy _ _ _)))

theorem flowLoss_tidy (p : Nat) (s : State) : Tidy s (flowLoss p s) := (raiseNotice_tidy _ _).trans (pumpTo_tidy _ _ _)

theorem restartExpire_tidy (p : Nat) (s : State) : Tidy s (restartExpire p s) :=
  (Tidy.onCool _ _).trans ((Tidy.onCool _ _).trans ((raiseNotice_tidy _ _).trans (coolSettle_tidy _ _ _)))

theorem refStart_tidy (n : Nat) (s : State) : Tidy s (refStart n s) := by
  unfold refStart
  split
  · exact .refl s
  · exact .onCool _ _

/-! ## The Loop Master below the hand-overs (R103 to R115) -/

theorem setBusFault_tidy (b : Bool) (s : State) : Tidy s (setBusFault b s) := (Tidy.onLoop _ _).trans (raiseIf_tidy _ _ _)
theorem countStuck_tidy (s : State) : Tidy s (countStuck s) := (Tidy.onLoop _ _).trans (setBusFault_tidy _ _)
theorem loopAct_tidy (a : LoopAct) (s : State) : Tidy s (loopAct a s) := .onLoop _ _
theorem recoverBus_tidy (c : Bool) (e : Option ScriptEnd) (b : Bool) (s : State) : Tidy s (recoverBus c e b s) :=
  (loopAct_tidy _ _).trans (.onLoop _ _)
theorem answerManual_tidy (m : Manual) (res : ScriptResult) (rs : List StepResult) (s : State) : Tidy s (answerManual m res rs s) :=
  (Tidy.onLoop _ _).trans (answerAs_tidy _ _ _ _ _ _ _ _)

theorem manualEnd_tidy (e : ScriptEnd) (s : State) : Tidy s (manualEnd e s) := by
  unfold manualEnd
  dsimp only
  split
  · exact (answerManual_tidy _ _ _ _).trans (.onLoop _ _)
  · exact .onLoop _ _

theorem abortBus_tidy (s : State) : Tidy s (abortBus s) := by
  unfold abortBus
  split
  · exact .onLoop _ _
  · exact recoverBus_tidy _ _ _ _
  · exact recoverBus_tidy _ _ _ _
  · exact .refl s

theorem loopClear_tidy (s : State) : Tidy s (loopClear s).1 := by
  unfold loopClear
  split
  · dsimp only
    split
    · exact (answerManual_tidy _ _ _ _).trans ((Tidy.onLoop _ _).trans (abortBus_tidy _))
    · exact answerManual_tidy _ _ _ _
  · split
    · exact (Tidy.onLoop _ _).trans (loopAct_tidy _ _)
    · exact .refl s

/-! ## Fire supervision (R120 to R134, R162, R190) -/

theorem dropForce_keeps (s : State) (o : Nat) : Keeps s (dropForce s o) := by
  unfold dropForce
  split
  · exact .refl s
  · exact .ite ((endForce_keeps _ _).reformOne _).toKeeps (endForce_keeps _ _)

theorem dropAllForces_tidy (s : State) : Tidy s (dropAllForces s) := (Keeps.foldl dropForce_keeps _ _).refresh

theorem linkBounded_unmark {l : Link} (h : linkBounded l) : linkBounded (unmarkLink l) := by
  simpa [linkBounded, unmarkLink] using h

theorem abandonRestart_tidy (s : State) : Tidy s (abandonRestart s) :=
  .ite ((Tidy.onMgmt rfl).trans ((Tidy.onLink linkBounded_unmark).trans (raiseNotice_tidy _ _))) (.refl s)

theorem leaveQuiet_tidy (s : State) : Tidy s (leaveQuiet s) :=
  (dropAllForces_tidy s).trans ((loopClear_tidy _).trans (abandonRestart_tidy _))

/-- The fire state and what belongs to it, with the gate FIRE (R128). -/
def fireShift (new : FireState) (s : State) : State :=
  let t := raiseNotice (nFireState new)
    (s.onFire (fireEnter new (s.mgmt.loopTables.fire.releaseDelay * Config.second) (holdActive s) s.now))
  if s.fire.state = .quiet then gateOnset 1 t else if new = .quiet then gateEnd 1 t else t

theorem fireTo_eq_shift (new : FireState) (s : State) : fireTo new s =
    (let u := reformAll (fireShift new s)
     let v := if new = .quiet then u else takeBay .fire u
     refreshLines (if s.fire.state = .quiet then leaveQuiet v else v)) := rfl

/-- The limits are closed where the state was QUIET, and stand closed where it was not. -/
theorem fireShift_keeps (new : FireState) (s : State) : Keeps s (fireShift new s) := by
  unfold fireShift
  dsimp only
  generalize s.onFire (fireEnter new (s.mgmt.loopTables.fire.releaseDelay * Config.second) (holdActive s) s.now) = e0,
    he : s.onFire (fireEnter new (s.mgmt.loopTables.fire.releaseDelay * Config.second) (holdActive s) s.now) = e
  subst he
  have hn := raiseNotice_keeps (nFireState new)
    (s.onFire (fireEnter new (s.mgmt.loopTables.fire.releaseDelay * Config.second) (holdActive s) s.now))
  by_cases hold : s.fire.state = .quiet
  · simp only [hold, if_true]
    have h := hn.trans (gateOnset_tidy 1 _).toKeeps
    exact ⟨h.reads, h.tables, h.control, h.dark, h.chg, h.dis, fun _ _ => gateOnset_zero _ _, h.slot, h.coils, h.bounds⟩
  · simp only [hold, if_false]
    have hk : Keeps s (raiseNotice (nFireState new)
        (s.onFire (fireEnter new (s.mgmt.loopTables.fire.releaseDelay * Config.second) (holdActive s) s.now))) :=
      ⟨hn.reads, hn.tables, hn.control, hn.dark, hn.chg, hn.dis, fun h _ => h (.inl hold), hn.slot, hn.coils, hn.bounds⟩
    exact .ite (hk.trans (gateEnd_tidy _ _).toKeeps) hk

theorem fireTo_tidy (new : FireState) (s : State) : Tidy s (fireTo new s) := by
  rw [fireTo_eq_shift]
  have hu := (fireShift_keeps new s).reformAll
  have hv := hu.trans (.ite (c := new = .quiet) (.refl _) (takeBay_tidy .fire _))
  exact (hv.trans (.ite (leaveQuiet_tidy _) (.refl _))).toKeeps.refresh

theorem expireCountdown_tidy (s : State) : Tidy s (expireCountdown s) := .ite (fireTo_tidy _ _) (.refl s)

theorem releaseTest_tidy (b : Bool) (s : State) : Tidy s (releaseTest b s) :=
  .ite (.refl s) (.ite ((fireTo_tidy _ _).trans (.ite (expireCountdown_tidy _) (.refl _))) (raiseIf_tidy _ _ _))

theorem holdFollow_tidy (s : State) : Tidy s (holdFollow s) := by
  unfold holdFollow
  split
  · exact .refl s
  · split
    · exact (Tidy.onFire rfl rfl rfl rfl).trans ((raiseNotice_tidy _ _).trans (.ite (expireCountdown_tidy _) (.refl _)))
    · exact .refl s

theorem pendingEval_tidy (s : State) : Tidy s (pendingEval s) :=
  .ite (fireTo_tidy _ _) (.ite ((fireTo_tidy _ _).trans (raiseNotice_tidy _ _)) (holdFollow_tidy s))

theorem fireEval_tidy (b : Bool) (s : State) : Tidy s (fireEval b s) := by
  unfold fireEval
  split
  · exact .ite ((fireTo_tidy _ _).trans (releaseTest_tidy _ _)) (.ite (fireTo_tidy _ _) (.refl s))
  · exact .ite ((fireTo_tidy _ _).trans (releaseTest_tidy _ _)) (.ite (.refl s) (fireTo_tidy _ _))
  · exact releaseTest_tidy _ _
  · exact pendingEval_tidy s
  · exact .refl s

theorem Keeps.detBlindEval {s t : State} (h : Keeps s t) : Tidy s (detBlindEval t) :=
  (h.trans (Keeps.foldl (fun _ _ => (Keeps.onFire rfl).trans (raiseIf_keeps _ _ _)) _ _)).refresh
theorem detBlindEval_tidy (s : State) : Tidy s (detBlindEval s) := (Keeps.refl s).detBlindEval

theorem setDet_tidy (d : Nat) (l : DetLive) (s : State) : Tidy s (setDet d l s) := (Tidy.onFire rfl rfl rfl rfl).trans (raiseIf_tidy _ _ _)

theorem detHandover_tidy (d : Nat) (res : ScriptResult) (rs : List StepResult) (s : State) : Tidy s (detHandover d res rs s) :=
  (setDet_tidy _ _ _).trans ((detBlindEval_tidy _).trans (fireEval_tidy _ _))

theorem detectorsTakeUp_tidy (old : List DetCfg) (w : List Nat) (s : State) : Tidy s (detectorsTakeUp old w s) :=
  .foldl (fun _ _ => setDet_tidy _ _ _) _ _

theorem fireResetDo_tidy (s : State) : Tidy s (fireResetDo s) := by
  have hdets : Tidy s ((List.range 24).foldl (fun t d => setDet d (detReset (detCfg t d) (detLive t d)) t) s) :=
    .foldl (fun _ _ => setDet_tidy _ _ _) _ _
  unfold fireResetDo
  dsimp only
  generalize (List.range 24).foldl (fun t d => setDet d (detReset (detCfg t d) (detLive t d)) t) s = u at *
  have hu := hdets.toKeeps.trans (Keeps.onFire (f := fun f => { f with countdown := none, pulse := none, silenced := false }) rfl)
  exact (Keeps.ite hu (hu.trans (fireTo_tidy _ _).toKeeps)).detBlindEval

end Sys2Proof.Machine
end

section
/-! The contract of P1 for the operations above the blocks: scripts and loop rounds, the ring, the inputs, the frame ports and the requests. -/

namespace Sys2Proof.Machine

/-! ## Scripts and loop rounds (R107 to R113, R186) -/

theorem firePictureTest_tidy (s : State) : Tidy s (firePictureTest s) :=
  .ite ((Tidy.onFire rfl rfl rfl rfl).trans (raiseNotice_tidy _ _)) (.refl s)

theorem applyLoopGroup_tidy (s : State) : Tidy s (applyLoopGroup s) :=
  .ite (.refl s) ((Tidy.onMgmt rfl).trans ((detectorsTakeUp_tidy _ _ _).trans ((detBlindEval_tidy _).trans
    ((fireEval_tidy _ _).trans (raiseNotice_tidy _ _)))))

theorem loopRoundEnd_tidy (s : State) : Tidy s (loopRoundEnd s) :=
  (Tidy.onLoop _ _).trans ((firePictureTest_tidy _).trans (applyLoopGroup_tidy _))

theorem endScript_tidy (e : ScriptEnd) (s : State) : Tidy s (endScript e s) := by
  unfold endScript
  split
  · exact ((loopAct_tidy _ _).trans (detHandover_tidy _ _ _ _)).trans (.ite (loopRoundEnd_tidy _) (.refl _))
  · exact manualEnd_tidy _ _

theorem startNext_tidy {s u : State} {r : ScriptRun} (h : startNext s = some (r, u)) : Tidy s u := by
  unfold startNext at h
  split at h
  · cases h
  · split at h
    · cases h; exact .onLoop _ _
    · split at h
      · split at h
        · cases h; exact .onLoop _ _
        · cases h
      · cases h

theorem runOn_tidy (fuel : Nat) (r : ScriptRun) (s : State) : Tidy s (runOn fuel r s) := by
  induction fuel generalizing r s with
  | zero =>
    unfold runOn
    split
    · exact loopAct_tidy _ _
    · exact loopAct_tidy _ _
    · exact endScript_tidy _ _
  | succ n ih =>
    unfold runOn
    split
    · exact loopAct_tidy _ _
    · exact loopAct_tidy _ _
    · dsimp only
      split
      · rename_i hn hnext
        cases hn
        exact (endScript_tidy _ _).trans ((startNext_tidy hnext).trans (ih _ _))
      · exact endScript_tidy _ _

theorem loopResume_tidy (s : State) : Tidy s (loopResume s) := by
  unfold loopResume
  split
  · rename_i h
    exact (startNext_tidy h).trans (runOn_tidy _ _ _)
  · exact .refl s

theorem endAndResume_tidy (e : ScriptEnd) (s : State) : Tidy s (endAndResume e s) := (endScript_tidy e s).trans (loopResume_tidy _)

theorem startGiven_tidy (st : ScriptStep) (s : State) : Tidy s (startGiven st s) := .ite (setBusFault_tidy _ _) (.refl s)

theorem byteDone_tidy (r : ScriptRun) (st : ScriptStep) (ack : Bool) (data : Byte) (s : State) : Tidy s (byteDone r st ack data s) :=
  (startGiven_tidy st s).trans (.ite ((Tidy.onLoop _ _).trans (runOn_tidy _ _ _)) ((Tidy.onLoop _ _).trans (endAndResume_tidy _ _)))

theorem busFreed_tidy (after : Option ScriptEnd) (s : State) : Tidy s (busFreed after s) := by
  have h : Tidy s (loopAct .idle (s.onLoop (busTo .free))) := (Tidy.onLoop _ _).trans (loopAct_tidy _ _)
  unfold busFreed
  dsimp only
  split
  · exact h.trans (endAndResume_tidy _ _)
  · exact h.trans (loopResume_tidy _)

theorem lineStuck_tidy (p : LinePoint) (s : State) : Tidy s (lineStuck p s) := by
  unfold lineStuck
  split
  · exact .refl s
  · dsimp only
    split
    · exact (Tidy.ite (.refl s) (startGiven_tidy _ s)).trans ((recoverBus_tidy _ _ _ _).trans (countStuck_tidy _))
    · exact (recoverBus_tidy _ _ _ _).trans (countStuck_tidy _)
  · exact (recoverBus_tidy _ _ _ _).trans (countStuck_tidy _)
  · exact (Tidy.ite (countStuck_tidy s) (.refl s)).trans (busFreed_tidy _ _)

theorem loopRoundStart_tidy (s : State) : Tidy s (loopRoundStart s) :=
  (Tidy.onLoop _ _).trans (.ite (loopRoundEnd_tidy _) (loopResume_tidy _))

theorem manualAccept_tidy (m : Manual) (s : State) : Tidy s (manualAccept m s) :=
  .ite ((Tidy.onLoop _ _).trans (runOn_tidy _ _ _)) (.onLoop _ _)

theorem holdExpire_tidy (s : State) : Tidy s (holdExpire s) :=
  (Tidy.onLoop _ _).trans ((loopAct_tidy _ _).trans (raiseNotice_tidy _ _))

/-! ## Cells (R29 to R44) -/

theorem changeRec_tidy (a : Nat) (f) (s : State) : Tidy s (changeRec a f s) := by
  unfold changeRec
  split
  · exact .refl s
  · exact (Tidy.onCell _ _).trans (raiseIf_tidy _ _ _)

theorem moduleTakeUp_tidy (old : NodeCfg) (w : List Nat) (a : Nat) (s : State) : Tidy s (moduleTakeUp old w a s) :=
  .ite (.onCell _ _) (.ite (.onCell _ _) (.ite (changeRec_tidy _ _ _) (.refl s)))

theorem modulesTakeUp_tidy (old : List NodeCfg) (w : List Nat) (s : State) : Tidy s (modulesTakeUp old w s) :=
  .foldl (fun _ _ => moduleTakeUp_tidy _ _ _ _) _ _

theorem clearTrips_tidy (s : State) : Tidy s (clearTrips s) := .foldl (fun _ _ => changeRec_tidy _ _ _) _ _

theorem cellRoundEnd_tidy (round elapsed : Nat) (s : State) : Tidy s (cellRoundEnd round elapsed s) :=
  (Tidy.foldl (fun _ _ => changeRec_tidy _ _ _) _ _).trans ((Tidy.onCell _ _).trans (raiseIf_tidy _ _ _))

/-! ## The Setpoint Gate (R67 to R78) -/

theorem ackMatch_tidy (a : AckRec) (s : State) : Tidy s (ackMatch a s) := by
  unfold ackMatch
  split
  · exact .refl s
  · split
    · exact .refl s
    · exact ((Tidy.onGate rfl id id).trans (raiseIf_tidy _ _ _)).trans (((Tidy.onGate rfl id fun _ => Nat.zero_le 3).trans
        (raiseIf_tidy _ _ _)).trans (reissueCheck_tidy _))

theorem ackPassUp_tidy (f : Frame) (s : State) : Tidy s (ackPassUp f s) := by
  unfold ackPassUp
  split
  · exact passUp_tidy _ _ _
  · split
    · exact passUp_tidy _ _ _
    · exact (passUp_tidy _ _ _).trans (.onGate rfl (fun h => List.length_eraseP_le.trans h) id)

theorem ackTaken_tidy (f : Frame) (s : State) : Tidy s (ackTaken f s) := by
  unfold ackTaken
  dsimp only
  split
  · exact ackPassUp_tidy f s
  · exact (ackPassUp_tidy f s).trans (ackMatch_tidy _ _)

theorem ackTimeout_tidy (s : State) : Tidy s (ackTimeout s) := by
  unfold ackTimeout
  split
  · exact .refl s
  · exact (raiseNotice_tidy _ _).trans (((Tidy.onGate rfl id fun _ => Nat.min_le_left 3 _).trans (raiseIf_tidy _ _ _)).trans (reissueCheck_tidy _))

theorem converterState_tidy (c : ConvState) (s : State) : Tidy s (converterState c s) :=
  .ite (.refl s) (((Tidy.onGate rfl id id).trans (raiseNotice_tidy _ _)).trans
    (.ite ((Tidy.onGate rfl id id).trans (reissueCheck_tidy _)) (.refl _)))

/-- Where the Requested Setpoint is replaced, the slot is emptied or takes its clamp. -/
theorem tidy_of_request {s : State} (g : Gate → Gate) (r : Ring → Ring) (hsent : (g s.gate).sent = s.gate.sent) (hack : (g s.gate).ackCount = s.gate.ackCount)
    (hqueue : (r s.ring).downQueue = s.ring.downQueue) (hslot : slotClamped ((s.onGate g).onRing r)) : Tidy s ((s.onGate g).onRing r) where
  toKeeps := ⟨fun _ => rfl, rfl, rfl, fun _ => rfl, le_rfl, le_rfl, id, fun _ => hslot, id, fun ⟨h1, h2, h3, h4, h5, h6⟩ =>
    ⟨h1, h2, hqueue ▸ h3, hsent ▸ h4, hack ▸ h5, h6⟩⟩
  lines := id

theorem fallbackInstall_tidy (s : State) : Tidy s (fallbackInstall s) :=
  (tidy_of_request (fun g => { g with requested := some ⟨s.mgmt.ringTables.setpoint.fallbackP, 0, match s.gate.requested with | some r => r.tag | none => 0, .s48, true⟩ })
    (fun g => { g with slot := none }) rfl rfl rfl (fun _ hf => nomatch hf)).trans (reissueCheck_tidy _)

theorem silenceExpire_tidy (s : State) : Tidy s (silenceExpire s) :=
  (Tidy.onGate rfl id id).trans ((raiseNotice_tidy _ _).trans (fallbackInstall_tidy _))

theorem silenceFrame_tidy (s : State) : Tidy s (silenceFrame s) := (Tidy.onGate rfl id id).trans (raiseIf_tidy _ _ _)

theorem silenceAuthority_tidy (s : State) : Tidy s (silenceAuthority s) := .onGate rfl id id

theorem setpointAccept_tidy (port : FramePort) (f : Frame) (tag : Nat) (p q : Int) (s : State) : Tidy s (setpointAccept port f tag p q s) := by
  unfold setpointAccept
  refine tidy_of_request _ _ rfl rfl rfl ?_
  rintro x ⟨⟩
  exact ⟨_, rfl, rfl⟩

theorem setpointTaken_tidy (port : FramePort) (f : Frame) (s : State) : Tidy s (setpointTaken port f s) := by
  unfold setpointTaken
  split
  · exact raiseNotice_tidy _ _
  · split
    · exact raiseNotice_tidy _ _
    · exact .ite (raiseNotice_tidy _ _) (.ite (raiseNotice_tidy _ _) (.ite (raiseNotice_tidy _ _) (setpointAccept_tidy _ _ _ _ _ _)))

theorem slotTaken_tidy (f : SlotFrame) (s : State) : Tidy s (slotTaken f s) := by
  have hsent : ∀ e : Nat × Origin, s.gate.sent.length ≤ 4 →
      (let l := s.gate.sent ++ [e]; if l.length = 5 then l.drop 1 else l).length ≤ 4 := by
    intro e h
    dsimp only
    split <;> simp only [List.length_drop, List.length_append, List.length_singleton] at * <;> omega
  unfold slotTaken
  exact .onGate rfl (hsent _) id

/-! ## The ring (R1 to R25) -/

theorem modSeq_slot (p : RingPort) (f) (r : Ring) : (modSeq p f r).slot = r.slot := by cases p <;> rfl
theorem modSeq_downQueue (p : RingPort) (f) (r : Ring) : (modSeq p f r).downQueue = r.downQueue := by cases p <;> rfl
theorem modPort_slot (p : RingPort) (f) (r : Ring) : (modPort p f r).slot = r.slot := by cases p <;> rfl
theorem modPort_downQueue (p : RingPort) (f) (r : Ring) : (modPort p f r).downQueue = r.downQueue := by cases p <;> rfl
theorem setLive_slot (a : Nat) (f) (r : Ring) : (setLive a f r).slot = r.slot := by cases a <;> rfl
theorem setLive_downQueue (a : Nat) (f) (r : Ring) : (setLive a f r).downQueue = r.downQueue := by cases a <;> rfl
theorem sendOn_slot (p : RingPort) (t : RingTx) (now : Nat) (r : Ring) : (sendOn p t now r).slot = r.slot := modPort_slot _ _ _
theorem sendOn_downQueue (p : RingPort) (t : RingTx) (now : Nat) (r : Ring) : (sendOn p t now r).downQueue = r.downQueue := modPort_downQueue _ _ _
theorem broadcast_slot (k : Byte) (p : List Byte) (now : Nat) (r : Ring) : (broadcast k p now r).slot = r.slot := by
  simp only [broadcast, sendOn_slot, advance]
theorem broadcast_downQueue (k : Byte) (p : List Byte) (now : Nat) (r : Ring) : (broadcast k p now r).downQueue = r.downQueue := by
  simp only [broadcast, sendOn_downQueue, advance]

theorem modSeq_tidy (p : RingPort) (f) (s : State) : Tidy s (s.onRing (modSeq p f)) := .onRing_same (modSeq_slot _ _ _) (modSeq_downQueue _ _ _)
theorem modPort_tidy (p : RingPort) (f) (s : State) : Tidy s (s.onRing (modPort p f)) := .onRing_same (modPort_slot _ _ _) (modPort_downQueue _ _ _)
theorem setLive_tidy (a : Nat) (f) (s : State) : Tidy s (s.onRing (setLive a f)) := .onRing_same (setLive_slot _ _ _) (setLive_downQueue _ _ _)
theorem setPhase_tidy (p : RingPort) (ph : SeqPhase) (s : State) : Tidy s (setPhase p ph s) := modSeq_tidy _ _ _
theorem sendSplit_tidy (now : Nat) (s : State) : Tidy s (s.onRing (sendSplit now)) := .onRing_same (broadcast_slot _ _ _ _) (broadcast_downQueue _ _ _ _)

theorem sendPoll_tidy (side : RingPort) (a : Nat) (p : RingPort) (second : Bool) (now : Nat) (s : State) :
    Tidy s (s.onRing (sendPoll side a p second now)) :=
  .onRing_same ((modSeq_slot _ _ _).trans (sendOn_slot _ _ _ _)) ((modSeq_downQueue _ _ _).trans (sendOn_downQueue _ _ _ _))

theorem ringBrokenEval_tidy (s : State) : Tidy s (ringBrokenEval s) := (Tidy.onRing_same rfl rfl).trans (raiseIf_tidy _ _ _)

theorem nodeReaders_tidy (a : Nat) (b : Bool) (s : State) : Tidy s (nodeReaders a b s) :=
  (coolSettle_tidy _ _ _).trans ((seqNodes_tidy _ _).trans (detBlindEval_tidy _))

theorem nodeTo_tidy (a : Nat) (st : NodeState) (f) (s : State) : Tidy s (nodeTo a st f s) :=
  ((setLive_tidy _ _ _).trans (raiseNotice_tidy _ _)).trans ((ringBrokenEval_tidy _).trans (nodeReaders_tidy _ _ _))

theorem nextPoll_tidy (side : RingPort) (s : State) : Tidy s (nextPoll side s) := by
  unfold nextPoll
  split
  · exact setPhase_tidy _ _ _
  · exact (modSeq_tidy _ _ _).trans (sendPoll_tidy _ _ _ _ _ _)

theorem opportunity_tidy (side : RingPort) (s : State) : Tidy s (opportunity side s) := .ite (setPhase_tidy _ _ _) (nextPoll_tidy _ _)

theorem refuseHeads_length (nodes : List NodeLive) (q : List (Frame × FramePort)) : (refuseHeads nodes q).1.length ≤ q.length := by
  induction q with
  | nil => exact le_rfl
  | cons x r ih =>
    simp only [refuseHeads]
    split
    · exact ih.trans (Nat.le_succ _)
    · exact le_rfl

theorem recheckHead_tidy (s : State) : Tidy s (recheckHead s) :=
  (Tidy.onRing (.inl rfl) fun h => (refuseHeads_length _ _).trans h).trans (raiseAll_tidy _ _)

theorem sendSlot_tidy (side : RingPort) (f : SlotFrame) (s : State) : Tidy s (sendSlot side f s) := by
  have hsend : ∀ p t (r : Ring) (b : Bool), (sendOn p t s.now (if b then advance r else r)).slot = r.slot ∧
      (sendOn p t s.now (if b then advance r else r)).downQueue = r.downQueue := by
    intro p t r b; rw [sendOn_slot, sendOn_downQueue]; cases b <;> exact ⟨rfl, rfl⟩
  exact (Tidy.onRing_same (hsend _ _ _ _).1 (hsend _ _ _ _).2).trans ((Tidy.onRing (.inr rfl) id).trans
    ((setPhase_tidy _ _ _).trans (slotTaken_tidy _ _)))

theorem sendHead_tidy (side : RingPort) (f : Frame) (from_ : FramePort) (s : State) : Tidy s (sendHead side f from_ s) := by
  have h : Tidy s (s.onRing fun r =>
      sendOn (liveOf s f.dst.toNat).side ⟨f, .command f.dst.toNat from_⟩ s.now { r with downQueue := r.downQueue.drop 1 }) := by
    refine .onRing (.inl (sendOn_slot _ _ _ _)) fun h => ?_
    rw [sendOn_downQueue]
    dsimp only
    rw [List.length_drop]
    omega
  exact h.trans (setPhase_tidy _ _ _)

theorem sidesAtStart_tidy (s : State) : Tidy s (sidesAtStart s) := by
  unfold sidesAtStart
  exact .onRing_same rfl rfl

theorem roundStart_tidy (s : State) : Tidy s (roundStart s) := by
  have hsync : ∀ (r : Ring) (x y : PollSeq) now (t : State), r = t.ring → Tidy t (t.onRing fun r =>
      broadcast kSync (encU16 r.round) now { r with seqA := x, seqB := y }) :=
    fun r x y now t _ => .onRing_same (broadcast_slot _ _ _ _) (broadcast_downQueue _ _ _ _)
  have hsplit : ∀ (t : State), Tidy t (if t.ring.splitPending then t.onRing fun r => sendSplit t.now { r with splitPending := false } else t) :=
    fun t => .ite (.onRing_same (broadcast_slot _ _ _ _) (broadcast_downQueue _ _ _ _)) (.refl t)
  unfold roundStart
  exact (Tidy.onRing_same rfl rfl).trans ((hsplit _).trans ((sidesAtStart_tidy _).trans ((ringBrokenEval_tidy _).trans (hsync _ _ _ _ _ rfl))))

theorem startIfDue_tidy (s : State) : Tidy s (startIfDue s) := .ite (roundStart_tidy s) (.refl s)

theorem endOpportunity_tidy (side : RingPort) (s : State) : Tidy s (endOpportunity side s) :=
  .ite (nextPoll_tidy _ _) ((setPhase_tidy _ _ _).trans (startIfDue_tidy _))

theorem takeOpportunity_tidy (side : RingPort) (s : State) : Tidy s (takeOpportunity side s) := by
  unfold takeOpportunity
  split
  · exact sendSlot_tidy _ _ _
  · dsimp only
    split
    · exact (recheckHead_tidy s).trans (sendHead_tidy _ _ _ _)
    · exact (recheckHead_tidy s).trans (endOpportunity_tidy _ _)

theorem pollMissed_tidy (a : Nat) (s : State) : Tidy s (pollMissed a s) := (setLive_tidy _ _ _).trans (.ite (nodeTo_tidy _ _ _ _) (.refl _))

theorem attemptFailed_tidy (side : RingPort) (a : Nat) (p : RingPort) (second : Bool) (s : State) : Tidy s (attemptFailed side a p second s) :=
  .ite (sendPoll_tidy _ _ _ _ _ _) ((pollMissed_tidy a s).trans (opportunity_tidy _ _))

theorem attemptAnswered_tidy (a : Nat) (p : RingPort) (s : State) : Tidy s (attemptAnswered a p s) := (setLive_tidy _ _ _).trans (ringBrokenEval_tidy _)

theorem lapseSide_tidy (t0 : Nat) (s : State) (side : RingPort) : Tidy s (lapseSide t0 s side) := by
  unfold lapseSide
  split
  · exact .ite (attemptFailed_tidy _ _ _ _ _) (.refl s)
  · exact .refl s

theorem waitLapse_tidy (t0 : Nat) (s : State) : Tidy s (waitLapse t0 s) := (lapseSide_tidy _ _ _).trans (lapseSide_tidy _ _ _)

theorem countPort_tidy (p : RingPort) (f) (s : State) : Tidy s (countPort p f s) := modPort_tidy _ _ _
theorem searching_tidy (p : RingPort) (s : State) : Tidy s (searching p s) := modPort_tidy _ _ _

theorem ringFrame_tidy (kind : Byte) (p : RingPort) (t0 : Nat) (f : Frame) {deliver : State → State} (hd : ∀ s, Tidy s (deliver s)) (s : State) :
    Tidy s (ringFrame kind p t0 f deliver s) := by
  unfold ringFrame
  dsimp only
  split
  · exact (searching_tidy p s).trans (waitLapse_tidy _ _)
  · exact (searching_tidy p s).trans ((countPort_tidy _ _ _).trans (waitLapse_tidy _ _))
  · exact (searching_tidy p s).trans ((countPort_tidy _ _ _).trans (waitLapse_tidy _ _))
  · exact (searching_tidy p s).trans ((Tidy.ite (hd _) (.refl _)).trans (waitLapse_tidy _ _))

theorem checkError_tidy (p : RingPort) (s : State) : Tidy s (checkError p s) := by
  unfold checkError
  split
  · exact setLive_tidy _ _ _
  · exact countPort_tidy _ _ _

theorem ringDiscard_tidy (p : RingPort) (t0 : Nat) (f : Frame) (c : Check) (s : State) : Tidy s (ringDiscard p t0 f c s) :=
  .ite (ringFrame_tidy _ _ _ _ .refl s) ((searching_tidy p s).trans ((checkError_tidy _ _).trans (waitLapse_tidy _ _)))

theorem nodeRestarted_tidy (a : Nat) (s : State) : Tidy s (nodeRestarted a s) :=
  (raiseNotice_tidy _ _).trans (.ite (changeRec_tidy _ _ _) (.refl _))

theorem checked_tidy (gaps : Bool) (a c : Nat) {next : State → State} (hn : ∀ s, Tidy s (next s)) (s : State) : Tidy s (checked gaps a c next s) := by
  unfold checked
  split
  · exact .refl s
  · exact (setLive_tidy _ _ _).trans ((Tidy.ite (nodeRestarted_tidy _ _) (.refl _)).trans (hn _))

theorem auxTo_tidy (b : Bool) (s : State) : Tidy s (auxTo b s) :=
  .ite (.refl s) ((Tidy.onSeqr rfl id rfl rfl).trans ((raiseNotice_tidy _ _).trans (reformAll_tidy _)))

theorem meterSample_tidy (d : MeterSample) (s : State) : Tidy s (meterSample d s) :=
  (Tidy.onSeqr rfl id rfl rfl).trans ((stagesSample_tidy _ _).trans ((healthySample_tidy _ _).trans (auxTo_tidy _ _)))

theorem deliver_tidy (a : Nat) (x : Payload) (s : State) : Tidy s (deliver a x s) := by
  cases x with
  | mod d => exact changeRec_tidy _ _ _
  | cool d => exact coolantSample_tidy _ _ _
  | meter d => exact meterSample_tidy _ _
  | conv d => exact (converterSample_tidy _ _).trans (converterState_tidy _ _)

theorem offer_tidy (a : Nat) (x : Payload) (f : Frame) (s : State) : Tidy s (offer a x f s) :=
  .ite ((Tidy.onLink id).trans (passUp_tidy _ _ _)) (.refl s)

theorem replyPayload_tidy (a : Nat) (f : Frame) (s : State) : Tidy s (replyPayload a f s) := by
  unfold replyPayload
  split
  · exact (setLive_tidy _ _ _).trans ((Tidy.ite (nodeTo_tidy _ _ _ _) (.refl _)).trans ((deliver_tidy _ _ _).trans (offer_tidy _ _ _ _)))
  · exact (setLive_tidy _ _ _).trans (raiseIf_tidy _ _ _)

theorem sampleTaken_tidy (t0 : Nat) (f : Frame) (s : State) : Tidy s (sampleTaken t0 f s) := by
  have hlate : Tidy s (lateSample f.src.toNat s) := setLive_tidy _ _ _
  unfold sampleTaken
  dsimp only
  split
  · exact hlate
  · split
    · exact .ite ((setPhase_tidy _ _ _).trans ((attemptAnswered_tidy _ _ _).trans ((replyPayload_tidy _ _ _).trans (opportunity_tidy _ _)))) hlate
    · exact hlate

theorem nodeCmdInsert_tidy (from_ : FramePort) (f : Frame) (s : State) : Tidy s (nodeCmdInsert from_ f s) := by
  unfold nodeCmdInsert
  dsimp only
  split
  · exact raiseNotice_tidy _ _
  · split
    · exact raiseNotice_tidy _ _
    · split
      · exact raiseNotice_tidy _ _
      · rename_i hroom
        exact .onRing (.inl rfl) fun _ => by simp only [List.length_append, List.length_singleton]; omega

theorem rspTaken_tidy (p : RingPort) (t0 : Nat) (f : Frame) (s : State) : Tidy s (rspTaken p t0 f s) := by
  unfold rspTaken
  dsimp only
  split
  · exact (passUp_tidy _ _ _).trans (endOpportunity_tidy _ _)
  · exact .refl s

theorem ringSent_tidy (p : RingPort) (t : RingTx) (s : State) : Tidy s (ringSent p t s) := by
  have h : Tidy s (s.onRing (modPort p fun x => { x with tx := x.tx.drop 1, txSince := s.now })) := modPort_tidy _ _ _
  unfold ringSent
  dsimp only
  generalize s.onRing (modPort p fun x => { x with tx := x.tx.drop 1, txSince := s.now }) = u at *
  split
  · exact h.trans (.ite (.ite (opportunity_tidy _ _) (.refl _)) (startIfDue_tidy _))
  · exact h.trans (.ite (opportunity_tidy _ _) (setPhase_tidy _ _ _))
  · exact h.trans (endOpportunity_tidy _ _)
  · exact h.trans (setPhase_tidy _ _ _)

theorem roundDue_tidy (s : State) : Tidy s (roundDue s) := .ite (.onRing_same rfl rfl) (.ite (roundStart_tidy s) (.onRing_same rfl rfl))

/-! ## Inputs, readback and forces (R157 to R163) -/

theorem breakerReport_tidy (first closed : Bool) (s : State) : Tidy s (breakerReport first closed s) := by
  unfold breakerReport
  split
  · split
    · exact seqEnterTested_tidy _ _
    iterate 3 exact takeBay_tidy _ _
    iterate 3 exact .ite (.refl s) (strayStart_tidy _ _)
    iterate 2 exact .refl s
  · exact (takeGrid_tidy _ _).trans ((tripTest_tidy _).trans (strayTest_tidy _))

theorem inputReaders_tidy (i : Input) (first on : Bool) (s : State) : Tidy s (inputReaders i first on s) := by
  cases i with
  | breakerAux => exact breakerReport_tidy _ _ _
  | contPosAux => exact openingTest_tidy _
  | contNegAux => exact openingTest_tidy _
  | estop => exact .ite ((gateOnset_tidy _ _).trans (takeBay_tidy _ _)) (gateEnd_tidy _ _)
  | door => exact fireEval_tidy _ _
  | hold => exact fireEval_tidy _ _

theorem Keeps.inputReport {s t : State} (h : Keeps s t) (i : Input) (first : Bool) : Tidy s (inputReport i first t) :=
  (h.trans ((raiseNotice_tidy _ _).trans (inputReaders_tidy _ _ _ _)).toKeeps).refresh

theorem inputReport_tidy (i : Input) (first : Bool) (s : State) : Tidy s (inputReport i first s) := (Keeps.refl s).inputReport i first

/-- The raw level of a pin is read by no block before it is reported. -/
theorem rawChange_tidy (i : Input) (b : Bool) (s : State) : Tidy s (rawChange i b s) := by
  refine .ite (.refl s) ?_
  have hk : Keeps s (s.onLines (modInput i fun x => { x with raw := b, timer := if s.lines.control then some s.now else none })) := by
    refine .onLines ?_ rfl (fun _ => rfl) (by exact id)
    simp only [modInput]
    apply List.ext_getElem?
    intro k
    simp only [List.getElem?_map, List.getElem?_modify]
    cases s.lines.inputs[k]? with
    | none => rfl
    | some x => by_cases hik : inputIdx i = k <;> simp [hik]
  refine ⟨hk, fun h => ?_⟩
  have hc : ∀ o, composed (s.onLines (modInput i fun x => { x with raw := b, timer := if s.lines.control then some s.now else none })) o = composed s o := by
    intro o
    simp only [composed, interlocked, hk.reads]
    rfl
  unfold linesCurrent
  simp only [hc]
  exact h

theorem readbackExpire_tidy (c : Contactor) (s : State) : Tidy s (readbackExpire c s) := by
  have h : Keeps s (s.onLines fun l => setReadback c ⟨none, true⟩ l) := by
    refine .onLines ?_ ?_ ?_ ?_ <;> cases c <;> simp +contextual [setReadback, coilsUnforced]
  exact ((h.trans (raiseNotice_keeps _ _)).refresh.trans (takeBay_tidy _ _)).toKeeps.refresh

/-! ## The round end but for the application of the ring group (R5, R20, R186) -/

theorem nodesTakeUp_tidy (old : RingTables) (s : State) : Tidy s (nodesTakeUp old s) :=
  .foldl (fun _ _ => (setLive_tidy _ _ _).trans (raiseIf_tidy _ _ _)) _ _

theorem slotTakeUp_tidy (s : State) : Tidy s (slotTakeUp s) := by
  unfold slotTakeUp
  split
  · exact .ite (.refl s) (.onRing (.inr rfl) id)
  · exact .refl s

theorem forwardTakeUp_tidy (old : List NodeCfg) (s : State) : Tidy s (forwardTakeUp old s) := .onLink id
theorem forwardTick_tidy (s : State) : Tidy s (forwardTick s) := .onLink id
theorem lineTakeUp_tidy (old : LineCfg) (s : State) : Tidy s (lineTakeUp old s) := .foldl (fun _ _ => .ite (inputReport_tidy _ _ _) (.refl _)) _ _
theorem rateTakeUp_tidy (b : Bool) (s : State) : Tidy s (rateTakeUp b s) := .ite (.onLink id) (.refl s)
theorem gridTakeUp_tidy (s : State) : Tidy s (gridTakeUp s) := (Tidy.ite (seqEnterTested_tidy _ _) (.refl s)).trans (.ite (takeGrid_tidy _ _) (.refl _))
theorem silenceTakeUp_tidy (s : State) : Tidy s (silenceTakeUp s) := .ite (silenceExpire_tidy s) (.refl s)

/-! ## The store and the frame ports (R167 to R188) -/

theorem storeStart_tables (m : Mgmt) : (storeStart m).ringTables = m.ringTables := by rw [storeStart_latch]

theorem imageDone_tidy (j : SaveJob) (s : State) : Tidy s (imageDone j s) := by
  have h : Tidy s ((s.onStore fun x => { x with image := j.image }).onMgmt fun m =>
      storeStart { m with store := .idle, save := none, storeFault := false }) := (Tidy.onStore _ _).trans (.onMgmt (storeStart_tables _))
  exact (h.trans (.ite ((raiseNotice_tidy _ _).trans (refreshLines_tidy _)) (.refl _))).trans (answerAs_tidy _ _ _ _ _ _ _ _)

theorem latchDone_tidy (r : LatchRec) (s : State) : Tidy s (latchDone r s) := (Tidy.onStore _ _).trans (.onMgmt (storeStart_tables _))

theorem modRx_tidy (p : FramePort) (f) (s : State) : Tidy s (s.onLink (modRx p f)) := .onLink fun h => by cases p <;> exact h
theorem countLink_tidy (p : FramePort) (f) (s : State) : Tidy s (countLink p f s) := modRx_tidy _ _ _
theorem linkSearching_tidy (p : FramePort) (s : State) : Tidy s (linkSearching p s) := modRx_tidy _ _ _

theorem validFrame_tidy (p : FramePort) (s : State) : Tidy s (validFrame p s) := by
  cases p with
  | station => exact silenceFrame_tidy s
  | service => exact Tidy.onLink (f := fun l => { l with serviceSince := if l.holder = .service then some s.now else none }) id

theorem frameReceived_tidy (p : FramePort) (s : State) : Tidy s (validFrame p (linkSearching p s)) := (linkSearching_tidy p s).trans (validFrame_tidy _ _)

theorem linkFrame_tidy (want : Route) (p : FramePort) (f : Frame) {deliver : State → State} (hd : ∀ s, Tidy s (deliver s)) (s : State) :
    Tidy s (linkFrame want p f deliver s) := by
  unfold linkFrame
  split
  · exact (frameReceived_tidy p s).trans (countLink_tidy _ _ _)
  · exact (frameReceived_tidy p s).trans (countLink_tidy _ _ _)
  · exact .ite ((frameReceived_tidy p s).trans (hd _)) (.refl s)

theorem nodeCmdTaken_tidy (p : FramePort) (f : Frame) (s : State) : Tidy s (nodeCmdTaken p f s) := .ite (nodeCmdInsert_tidy _ _ _) (raiseNotice_tidy _ _)

theorem authorityTo_tidy (h : FramePort) (n : Nat) {answered : State → State} (ha : ∀ s, Tidy s (answered s)) (s : State) :
    Tidy s (authorityTo h n answered s) :=
  .ite (ha s) ((Tidy.onLink (by exact id)).trans ((raiseNotice_tidy _ _).trans ((ha _).trans ((dropAllForces_tidy _).trans (silenceAuthority_tidy _)))))

/-! ## Requests (R182) -/

theorem requestArrives_tidy (r : Request) {body : State → State} (hb : ∀ s, Tidy s (body s)) (s : State) : Tidy s (requestArrives r body s) :=
  (frameReceived_tidy r.port s).trans (.ite (countLink_tidy _ _ _) (hb _))

theorem requestChecks_tidy (r : Request) (code : Nat) (ch : Bool) {body : State → State} (hb : ∀ s, Tidy s (body s)) (s : State) :
    Tidy s (requestChecks r code ch body s) := .ite (answer_tidy _ _ _ _ _) (.ite (answer_tidy _ _ _ _ _) (hb s))

theorem withArgs_tidy {α : Type} (r : Request) (code : Nat) {o : Option α} {f : α → State → State} (hf : ∀ x, o = some x → ∀ s, Tidy s (f x s)) (s : State) :
    Tidy s (withArgs r code o f s) := by
  cases o with
  | none => exact answer_tidy _ _ _ _ _
  | some x => exact hf x rfl s

theorem excludeBody_tidy (r : Request) (a : Nat) (s : State) : Tidy s (excludeBody r a s) := by
  have h : Tidy s (excludeDo a s) := by
    unfold excludeDo
    dsimp only
    split
    · exact (nodeTo_tidy _ _ _ _).trans ((Tidy.onRing_same rfl rfl).trans (opportunity_tidy _ _))
    · exact (nodeTo_tidy _ _ _ _).trans (.onRing_same rfl rfl)
  exact .ite (answer_tidy _ _ _ _ _) (.ite (answer_tidy _ _ _ _ _) (h.trans (answer_tidy _ _ _ _ _)))

theorem readmitBody_tidy (r : Request) (a : Nat) (s : State) : Tidy s (readmitBody r a s) :=
  .ite (answer_tidy _ _ _ _ _) (.ite (answer_tidy _ _ _ _ _) ((nodeTo_tidy _ _ _ _).trans (answer_tidy _ _ _ _ _)))

theorem splitBody_tidy (r : Request) (k : Nat) (s : State) : Tidy s (splitBody r k s) :=
  .ite (answer_tidy _ _ _ _ _) ((Tidy.onRing_same rfl rfl).trans (answer_tidy _ _ _ _ _))

theorem clearPumpBody_tidy (r : Request) (ps : List Nat) (s : State) : Tidy s (clearPumpBody r ps s) := by
  have hu : ∀ l : List Nat, Tidy s (l.foldl unlockPump s) :=
    fun l => .foldl (fun _ _ => (Tidy.onCool _ _).trans ((raiseNotice_tidy _ _).trans (.onCool _ _))) l s
  exact (hu _).trans ((answer_tidy _ _ _ _ _).trans (coolSettle_tidy _ _ _))

theorem loopRunBody_tidy (r : Request) (ss : List ScriptStep) (s : State) : Tidy s (loopRunBody r ss s) :=
  .ite (answer_tidy _ _ _ _ _) (.ite (answer_tidy _ _ _ _ _) (.ite (answer_tidy _ _ _ _ _) (manualAccept_tidy _ _)))

theorem fireResetBody_tidy (r : Request) (s : State) : Tidy s (fireResetBody r s) := by
  unfold fireResetBody
  split
  · exact answer_tidy _ _ _ _ _
  · split
    · exact answer_tidy _ _ _ _ _
    · exact (answer_tidy _ _ _ _ _).trans (fireResetDo_tidy _)

theorem silenceBody_tidy (r : Request) (s : State) : Tidy s (silenceBody r s) :=
  .ite (answer_tidy _ _ _ _ _) ((Keeps.onFire rfl).refresh.trans (answer_tidy _ _ _ _ _))

theorem connectBody_tidy (r : Request) (s : State) : Tidy s (connectBody r s) := by
  unfold connectBody
  split
  · exact answer_tidy _ _ _ _ _
  · exact (seqEnterTested_tidy _ _).trans (answer_tidy _ _ _ _ _)

theorem disconnectBody_tidy (r : Request) (s : State) : Tidy s (disconnectBody r s) :=
  (Tidy.onSeqr rfl (fun _ => Nat.zero_le 3) rfl rfl).trans ((takeBay_tidy _ _).trans (answer_tidy _ _ _ _ _))

theorem releaseBody_tidy (r : Request) (s : State) : Tidy s (releaseBody r s) := by
  have h : Tidy s (releaseDo s) := (Tidy.onSeqr rfl id rfl rfl).trans ((seqTo_tidy _ _).trans ((raiseNotice_tidy _ _).trans
    (.onMgmt (handLatch_tables _ _ _))))
  exact .ite (answer_tidy _ _ _ _ _) (.ite (answer_tidy _ _ _ _ _) (h.trans (answer_tidy _ _ _ _ _)))

/-- Neither a breaker coil nor RELEASE is among the outputs a request may force (R161). -/
theorem forceArgs_not_coil {r : Request} {x : Nat × Nat} (h : forceArgs r = some x) : ¬(x.1 = 12 ∨ x.1 = 13 ∨ x.1 = 17) := by
  unfold forceArgs at h
  split at h
  · cases h
  · rename_i o b _
    split at h
    · cases h
    · rename_i hf
      have ho : x.1 = o := by
        split at h
        · obtain ⟨v, _, hv⟩ := Option.bind_eq_some_iff.mp h
          split at hv <;> cases hv
          rfl
        · obtain ⟨v, _, hv⟩ := Option.map_eq_some_iff.mp h
          cases hv; rfl
      rw [ho]
      rintro (rfl | rfl | rfl) <;> exact hf rfl

theorem forceBody_tidy (r : Request) {x : Nat × Nat} (hx : ¬(x.1 = 12 ∨ x.1 = 13 ∨ x.1 = 17)) (s : State) : Tidy s (forceBody r x s) := by
  have hset : ∀ v, Keeps s (s.onLines fun l => { l with forces := l.forces.set x.1 v }) := fun v =>
    .onLines rfl rfl (fun _ => rfl) fun h i hi => by
      have hne : x.1 ≠ i := by rintro rfl; exact hx hi
      simpa [List.getD, List.getElem?_set_ne hne] using h i hi
  have h := (hset (some ⟨x.2, s.now⟩)).trans (raiseNotice_keeps (nOutputForce x.1 x.2) _)
  have hs : Tidy s (forceSet x.1 x.2 s) := .ite (h.reformOne _).toKeeps.refresh h.refresh
  exact .ite (answer_tidy _ _ _ _ _) (hs.trans (answer_tidy _ _ _ _ _))

theorem authorityAnswer_tidy (r : Request) (code : Nat) (st : Status) (s : State) : Tidy s (authorityAnswer r code st s) := answer_tidy _ _ _ _ _

theorem takeBody_tidy (r : Request) (s : State) : Tidy s (takeBody r s) := by
  unfold takeBody
  split
  · exact authorityTo_tidy _ _ (authorityAnswer_tidy _ _ _) s
  · exact authorityAnswer_tidy _ _ _ _

theorem releaseAuthBody_tidy (r : Request) (s : State) : Tidy s (releaseAuthBody r s) := by
  unfold releaseAuthBody
  split
  · exact authorityTo_tidy _ _ (authorityAnswer_tidy _ _ _) s
  · exact authorityAnswer_tidy _ _ _ _

theorem readTableBody_tidy (r : Request) (x : (Nat × Nat) × Bool) (s : State) : Tidy s (readTableBody r x s) := by
  unfold readTableBody
  split
  · split <;> exact answer_tidy _ _ _ _ _
  · exact answer_tidy _ _ _ _ _

theorem saveBody_tidy (r : Request) (s : State) : Tidy s (saveBody r s) := .ite (answer_tidy _ _ _ _ _) (.onMgmt (storeStart_tables _))

theorem restartBody_tidy (r : Request) (s : State) : Tidy s (restartBody r s) :=
  .ite ((Tidy.onMgmt rfl).trans (answerAs_tidy _ _ _ _ _ _ _ _)) (answer_tidy _ _ _ _ _)

/-- A write stages a part and applies no table. -/
theorem writePart_tables {m m' : Mgmt} {args : List Byte} {g : Nat} (h : writePart m args = some (m', g)) : m'.ringTables = m.ringTables := by
  have hring : ∀ p, writeRing m p = some m' → m'.ringTables = m.ringTables := by
    intro p hp; unfold writeRing at hp; dsimp only at hp
    split at hp <;> cases hp
    rfl
  have hloop : ∀ p, writeLoop m p = some m' → m'.ringTables = m.ringTables := by
    intro p hp; unfold writeLoop at hp
    split at hp <;> cases hp
    rfl
  unfold writePart at h
  split at h
  · dsimp only at h
    split at h
    · obtain ⟨a, ha, he⟩ := Option.map_eq_some_iff.mp h
      obtain ⟨p, _, hp⟩ := Option.bind_eq_some_iff.mp ha
      cases he; exact hring p hp
    · split at h
      · obtain ⟨a, ha, he⟩ := Option.map_eq_some_iff.mp h
        obtain ⟨p, _, hp⟩ := Option.bind_eq_some_iff.mp ha
        cases he; exact hloop p hp
      · cases h
  · cases h

theorem writeTable_tidy (r : Request) (s : State) : Tidy s (withArgs r 0x08 (writePart s.mgmt r.args)
    (fun x s => answer r 0x08 .pending (encU16 x.2) (s.onMgmt fun _ => x.1)) s) := by
  cases h : writePart s.mgmt r.args with
  | none => exact answer_tidy _ _ _ _ _
  | some x => exact (Tidy.onMgmt (writePart_tables h)).trans (answer_tidy _ _ _ _ _)

end Sys2Proof.Machine
end

section
/-! The invariants of Safety.lean at every step: the commands whose effects keep the contract `Tidy`, then the resets and the start-up, the report of an input and the
round end, which change inputs, tables or limits; the statements on the invariants follow. -/

namespace Sys2Proof.Machine

/-! ## The ordinary commands -/

section
variable {s t : State} {f : State → State}

theorem act_tidy (hf : ∀ s, Tidy s (f s)) (h : act s f = .next t) : Tidy s t := by
  cases h
  exact .ite (hf s) (.refl s)

theorem whenDue_tidy {b : Bool} (hf : Tidy s (f s)) : Tidy s (whenDue b f s) := .ite hf (.refl s)

theorem request_tidy {r : Request} {code : Nat} {ch : Bool} (hf : ∀ s, Tidy s (f s)) (h : request r code ch f s = .next t) : Tidy s t :=
  act_tidy (fun s => whenDue_tidy (requestArrives_tidy r (requestChecks_tidy r code ch hf) s)) h

/-- A request whose body reads its arguments first. -/
theorem argsRequest_tidy {α : Type} {r : Request} {code : Nat} {ch : Bool} {o : Option α} {g : α → State → State} (hg : ∀ x s, Tidy s (g x s))
    (h : request r code ch (withArgs r code o g) s = .next t) : Tidy s t := request_tidy (withArgs_tidy r code fun x _ => hg x) h

end

/-- The commands that begin or end a reset, report an input or end a round. -/
def Instr.isTurning : Instr → Bool
  | .powerOn | .rstAssert | .restartResetTaken | .startUp | .powerLoss | .debounceStable _ | .roundEnd => true
  | _ => false

theorem rstRelease_tidy (s : State) (b : Bool) (ph : Phase) : Tidy s { s with rst := b, phase := ph } :=
  ⟨⟨fun _ => rfl, rfl, rfl, fun _ => rfl, le_rfl, le_rfl, id, id, id, id⟩, id⟩

theorem execRingTxDone_tidy {p : RingPort} {s t : State} (h : execRingTxDone p s = .next t) : Tidy s t := by
  unfold execRingTxDone at h
  refine act_tidy (fun s => ?_) h
  split
  · exact ringSent_tidy _ _ _
  · exact .refl s

theorem execReplyTimeout_tidy {p : RingPort} {s t : State} (h : execReplyTimeout p s = .next t) : Tidy s t := by
  unfold execReplyTimeout at h
  refine act_tidy (fun s => ?_) h
  split
  · exact whenDue_tidy (attemptFailed_tidy _ _ _ _ _)
  · exact .refl s

theorem execLoopByteDone_tidy {ack : Bool} {data : Byte} {s t : State} (h : execLoopByteDone ack data s = .next t) : Tidy s t := by
  unfold execLoopByteDone at h
  refine act_tidy (fun s => ?_) h
  split
  · exact whenDue_tidy (byteDone_tidy _ _ _ _ _)
  · exact .refl s

theorem execBusRecoveryDone_tidy {s t : State} (h : execBusRecoveryDone s = .next t) : Tidy s t := by
  unfold execBusRecoveryDone at h
  refine act_tidy (fun s => ?_) h
  split
  · exact whenDue_tidy (busFreed_tidy _ _)
  · exact .refl s

theorem execBusCloseDone_tidy {s t : State} (h : execBusCloseDone s = .next t) : Tidy s t := by
  unfold execBusCloseDone at h
  refine act_tidy (fun s => ?_) h
  split
  · exact whenDue_tidy (busFreed_tidy _ _)
  · exact .refl s

theorem execImageWriteDone_tidy {s t : State} (h : execImageWriteDone s = .next t) : Tidy s t := by
  unfold execImageWriteDone at h
  refine act_tidy (fun s => ?_) h
  split
  · exact imageDone_tidy _ _
  · exact .refl s

theorem execLatchWriteDone_tidy {s t : State} (h : execLatchWriteDone s = .next t) : Tidy s t := by
  unfold execLatchWriteDone at h
  refine act_tidy (fun s => ?_) h
  split
  · exact latchDone_tidy _ _
  · exact .refl s

theorem execStationFrameDiscarded_tidy {p : FramePort} {x : TimedFrame} {k : Check} {s t : State} (h : execStationFrameDiscarded p x k s = .next t) :
    Tidy s t := by
  unfold execStationFrameDiscarded at h
  refine act_tidy (fun s => whenDue_tidy ?_) h
  exact .ite (linkFrame_tidy _ _ _ Tidy.refl _) ((linkSearching_tidy _ _).trans (countLink_tidy _ _ _))

theorem execStationTxDone_tidy {s t : State} (h : execStationTxDone s = .next t) : Tidy s t := by
  unfold execStationTxDone at h
  exact act_tidy (fun s => whenDue_tidy (Tidy.onLink (f := fun l => stationTake s.now _ { l with queueTx := none }) fun hl => linkBounded_stationTake _ _ hl)) h

theorem execServiceTxDone_tidy {s t : State} (h : execServiceTxDone s = .next t) : Tidy s t := by
  unfold execServiceTxDone at h
  exact act_tidy (fun s => whenDue_tidy (Tidy.onLink (f := fun l => serviceTake s.now { l with fifoTx := none }) fun hl => linkBounded_serviceTake _ hl)) h

theorem exec_tidy {c : Instr} {s t : State} (hc : Instr.isTurning c = false) (h : exec c s = .next t) : Tidy s t := by
  cases c
  all_goals simp only [exec] at h
  case powerOn | rstAssert | restartResetTaken | startUp | powerLoss | debounceStable | roundEnd => cases hc
  case rstRelease => cases h; exact rstRelease_tidy _ _ _
  case ringLengthError => exact act_tidy (fun s => whenDue_tidy ((countPort_tidy _ _ _).trans ((modPort_tidy _ _ _).trans (waitLapse_tidy _ _)))) h
  case ringFragmentTimeout => exact act_tidy (fun s => whenDue_tidy ((searching_tidy _ _).trans ((countPort_tidy _ _ _).trans (waitLapse_tidy _ _)))) h
  case ringFrameDiscarded => exact act_tidy (fun s => whenDue_tidy (ringDiscard_tidy _ _ _ _ _)) h
  case sampleReceived => exact act_tidy (fun s => whenDue_tidy (ringFrame_tidy _ _ _ _ (checked_tidy _ _ _ (sampleTaken_tidy _ _)) _)) h
  case nodeRspReceived => exact act_tidy (fun s => whenDue_tidy (ringFrame_tidy _ _ _ _ (checked_tidy _ _ _ (rspTaken_tidy _ _ _)) _)) h
  case setpointAckReceived => exact act_tidy (fun s => whenDue_tidy (ringFrame_tidy _ _ _ _ (ackTaken_tidy _) _)) h
  case roundDue => exact act_tidy (fun s => whenDue_tidy (roundDue_tidy s)) h
  case ringTxDone => exact execRingTxDone_tidy h
  case replyTimeout => exact execReplyTimeout_tidy h
  case transmissionOpportunity => exact act_tidy (fun s => whenDue_tidy (takeOpportunity_tidy _ _)) h
  case responseWindowTimeout => exact act_tidy (fun s => whenDue_tidy (endOpportunity_tidy _ _)) h
  case excludeNode r => exact argsRequest_tidy (excludeBody_tidy r) h
  case readmitNode r => exact argsRequest_tidy (readmitBody_tidy r) h
  case setSplit r => exact argsRequest_tidy (splitBody_tidy r) h
  case clearTrips r => exact argsRequest_tidy (fun _ s => (clearTrips_tidy s).trans (answer_tidy _ _ _ _ _)) h
  case readModule r => exact request_tidy (fun s => withArgs_tidy r _ (fun _ _ s => answer_tidy _ _ _ _ s) s) h
  case setpointReceived => exact act_tidy (fun s => whenDue_tidy (linkFrame_tidy _ _ _ (setpointTaken_tidy _ _) _)) h
  case ackTimeout => exact act_tidy (fun s => whenDue_tidy (ackTimeout_tidy s)) h
  case silenceExpiry => exact act_tidy (fun s => whenDue_tidy (silenceExpire_tidy s)) h
  case pwmReferencePeriod => exact act_tidy (fun s => whenDue_tidy (refStart_tidy _ _)) h
  case pwmPeriodStart => exact act_tidy (fun s => whenDue_tidy (.onCool _ _)) h
  case pwmHighEnd => exact act_tidy (fun s => whenDue_tidy (.onCool _ _)) h
  case flowLossTimeout => exact act_tidy (fun s => whenDue_tidy (flowLoss_tidy _ _)) h
  case restartWaitExpiry => exact act_tidy (fun s => whenDue_tidy (restartExpire_tidy _ _)) h
  case faultFreeExpiry => exact act_tidy (fun s => whenDue_tidy (.onCool _ _)) h
  case clearPumpLock r => exact argsRequest_tidy (clearPumpBody_tidy r) h
  case readZone r => exact argsRequest_tidy (fun _ s => answer_tidy _ _ _ _ s) h
  case loopRoundDue => exact act_tidy (fun s => whenDue_tidy (.onLoop _ _)) h
  case loopRoundStart => exact act_tidy (fun s => whenDue_tidy (loopRoundStart_tidy s)) h
  case loopByteDone => exact execLoopByteDone_tidy h
  case loopLineStuck => exact act_tidy (fun s => whenDue_tidy (lineStuck_tidy _ _)) h
  case busRecoveryDone => exact execBusRecoveryDone_tidy h
  case busCloseDone => exact execBusCloseDone_tidy h
  case loopRun r => exact argsRequest_tidy (loopRunBody_tidy r) h
  case holdExpiry => exact act_tidy (fun s => whenDue_tidy (holdExpire_tidy s)) h
  case loopAbort r => exact argsRequest_tidy (fun _ s => (loopClear_tidy s).trans (answer_tidy _ _ _ _ _)) h
  case countdownExpiry => exact act_tidy expireCountdown_tidy h
  case releasePulseExpiry => exact act_tidy (fun s => whenDue_tidy (Keeps.onFire rfl).refresh) h
  case sounderPhaseToggle => exact act_tidy (fun s => whenDue_tidy (Keeps.onFire rfl).refresh) h
  case fireReset r => exact argsRequest_tidy (fun _ => fireResetBody_tidy r) h
  case silence r => exact argsRequest_tidy (fun _ => silenceBody_tidy r) h
  case readDetector r => exact argsRequest_tidy (fun _ s => answer_tidy _ _ _ _ s) h
  case prechargeTimeout => exact act_tidy (fun s => whenDue_tidy ((raiseNotice_tidy _ _).trans (seqTo_tidy _ _))) h
  case healthyWaitMet => exact act_tidy (fun s => whenDue_tidy (seqEnterTested_tidy _ _)) h
  case closePulseEnd => exact act_tidy (fun s => whenDue_tidy (Keeps.onSeqr rfl id).refresh) h
  case closeTimeout => exact act_tidy (fun s => whenDue_tidy (takeGrid_tidy _ _)) h
  case connectedClockExpiry => exact act_tidy (fun s => whenDue_tidy (.onSeqr rfl (fun _ => Nat.zero_le 3) rfl rfl)) h
  case meterBlindLimit => exact act_tidy (fun s => whenDue_tidy (takeGrid_tidy _ _)) h
  case tripMinPulseExpiry => exact act_tidy tripTest_tidy h
  case tripTimeout => exact act_tidy (fun s => whenDue_tidy ((raiseNotice_tidy _ _).trans (lockOut_tidy _ _))) h
  case openingTimeout => exact act_tidy (fun s => whenDue_tidy ((raiseNotice_tidy _ _).trans (lockOut_tidy _ _))) h
  case connect r => exact argsRequest_tidy (fun _ => connectBody_tidy r) h
  case disconnect r => exact argsRequest_tidy (fun _ => disconnectBody_tidy r) h
  case releaseLockout r => exact argsRequest_tidy (fun _ => releaseBody_tidy r) h
  case strayTripMinPulse => exact act_tidy strayTest_tidy h
  case strayTripTimeout => exact act_tidy (fun s => whenDue_tidy (strayFail_tidy s)) h
  case inputRawChange => cases h; exact rawChange_tidy _ _ _
  case forceOutput r => exact request_tidy (withArgs_tidy r _ fun _ hx => forceBody_tidy r (forceArgs_not_coil hx)) h
  case unforceAll r => exact argsRequest_tidy (fun _ s => (dropAllForces_tidy s).trans (answer_tidy _ _ _ _ _)) h
  case forceExpiry => exact act_tidy (fun s => whenDue_tidy (dropForce_keeps _ _).refresh) h
  case readbackTimeout => exact act_tidy (fun s => whenDue_tidy (readbackExpire_tidy _ _)) h
  case framePortLengthError => exact act_tidy (fun s => whenDue_tidy ((countLink_tidy _ _ _).trans (modRx_tidy _ _ _))) h
  case framePortFragment => exact act_tidy (fun s => whenDue_tidy ((linkSearching_tidy _ _).trans (countLink_tidy _ _ _))) h
  case stationFrameDiscarded => exact execStationFrameDiscarded_tidy h
  case nodeCmdReceived => exact act_tidy (fun s => whenDue_tidy (linkFrame_tidy _ _ _ (nodeCmdTaken_tidy _ _) _)) h
  case unknownRequest => exact act_tidy (fun s => whenDue_tidy (requestArrives_tidy _ (answer_tidy _ _ _ _) _)) h
  case takeAuthority r => exact argsRequest_tidy (fun _ => takeBody_tidy r) h
  case releaseAuthority r => exact argsRequest_tidy (fun _ => releaseAuthBody_tidy r) h
  case serviceSilenceExpiry => exact act_tidy (fun s => whenDue_tidy (authorityTo_tidy _ _ .refl s)) h
  case stationTxDone => exact execStationTxDone_tidy h
  case serviceTxDone => exact execServiceTxDone_tidy h
  case setForward r => exact argsRequest_tidy (fun _ s => (Tidy.onLink id).trans (answer_tidy _ _ _ _ _)) h
  case setNoticeEnable r => exact argsRequest_tidy (fun _ s => (Tidy.onLink id).trans (answer_tidy _ _ _ _ _)) h
  case readStatus r => exact request_tidy (fun s => withArgs_tidy r _ (fun _ _ s => answer_tidy _ _ _ _ s) s) h
  case readNode r => exact argsRequest_tidy (fun _ s => answer_tidy _ _ _ _ s) h
  case readCounters r => exact request_tidy (fun s => withArgs_tidy r _ (fun _ _ s => answer_tidy _ _ _ _ s) s) h
  case readTable r => exact request_tidy (fun s => withArgs_tidy r _ (fun x _ => readTableBody_tidy r x) s) h
  case writeTable r => exact request_tidy (writeTable_tidy r) h
  case save r => exact argsRequest_tidy (fun _ => saveBody_tidy r) h
  case imageWriteDone => exact execImageWriteDone_tidy h
  case latchWriteDone => exact execLatchWriteDone_tidy h
  case restart r => exact argsRequest_tidy (fun _ => restartBody_tidy r) h

/-! ## What a step keeps -/

/-- Each invariant of Safety.lean is kept from `s` to `t`. -/
structure StepKeeps (s t : State) : Prop where
  closed : limitsClosed s → limitsClosed t
  rated : limitsRated s → limitsRated t
  slot : slotClamped s → slotClamped t
  lines : linesCurrent s → linesCurrent t
  coils : coilsUnforced s → coilsUnforced t
  bounds : withinBounds s → withinBounds t

theorem StepKeeps.refl (s : State) : StepKeeps s s := ⟨id, id, id, id, id, id⟩

theorem StepKeeps.trans {s t u : State} (a : StepKeeps s t) (b : StepKeeps t u) : StepKeeps s u :=
  ⟨fun h => b.closed (a.closed h), fun h => b.rated (a.rated h), fun h => b.slot (a.slot h), fun h => b.lines (a.lines h), fun h => b.coils (a.coils h),
    fun h => b.bounds (a.bounds h)⟩

theorem StepKeeps.ite {c : Prop} [Decidable c] {s t u : State} (a : StepKeeps s t) (b : StepKeeps s u) : StepKeeps s (if c then t else u) := by
  split
  · exact a
  · exact b

/-- R60 by its three conditions. -/
theorem limitsClosed_iff (s : State) : limitsClosed s ↔ closedByState s ∧ (inputReads s .estop = some true → s.env.chg = 0 ∧ s.env.dis = 0) :=
  ⟨fun h => ⟨fun hb => h (hb.elim .inl fun hc => .inr (.inl hc)), fun he => h (.inr (.inr he))⟩,
    fun h hb => hb.elim (fun hf => h.1 (.inl hf)) fun hc => hc.elim (fun hs => h.1 (.inr hs)) h.2⟩

/-- Limits that are 0 stay 0. -/
theorem Keeps.zero {s t : State} (h : Keeps s t) (hz : s.env.chg = 0 ∧ s.env.dis = 0) : t.env.chg = 0 ∧ t.env.dis = 0 := by
  have h1 := h.chg
  have h2 := h.dis
  omega

theorem Keeps.limitsRated {s t : State} (h : Keeps s t) (hr : limitsRated s) : limitsRated t := by
  obtain ⟨h1, h2⟩ := hr
  refine ⟨h.chg.trans ?_, h.dis.trans ?_⟩ <;> rwa [h.tables]

theorem Keeps.limitsClosed {s t : State} (h : Keeps s t) (hl : limitsClosed s) : limitsClosed t := by
  rw [limitsClosed_iff] at *
  exact ⟨h.closed hl.1, fun he => h.zero (hl.2 (h.reads .estop ▸ he))⟩

theorem Tidy.stepKeeps {s t : State} (h : Tidy s t) : StepKeeps s t :=
  ⟨h.limitsClosed, h.limitsRated, h.slot, h.lines, h.coils, h.bounds⟩

/-! ## Resets and start-up (R191, R192) -/

/-- A state as a reset leaves it, as far as the invariants read it. -/
theorem stepKeeps_of_fresh {s t : State} (henv : t.env.chg = 0 ∧ t.env.dis = 0) (hslot : t.ring.slot = none) (hlines : linesCurrent t)
    (hforces : t.lines.forces = List.replicate 22 none) (hbounds : withinBounds t) : StepKeeps s t where
  closed _ _ := henv
  rated _ := by simp [limitsRated, henv]
  slot _ := fun f hf => nomatch hslot.symm.trans hf
  lines _ := hlines
  coils _ := by rintro o (rfl | rfl | rfl) <;> rw [hforces] <;> rfl
  bounds _ := hbounds

theorem resetTo_stepKeeps (ph : Phase) (s u : State) : StepKeeps s (resetTo ph u) :=
  stepKeeps_of_fresh ⟨rfl, rfl⟩ rfl (linesCurrent_of_dark rfl rfl) rfl (by simp [withinBounds, resetTo, State.reset, freshLink, freshRing, freshGate, freshSequencer])

theorem loadBlocks_stepKeeps (rt : RingTables) (lt : LoopTables) (split : Nat) (pol : List Forward) (en : List Bool) (bad : Bool) (s : State) :
    StepKeeps s (loadBlocks rt lt split pol en bad s) :=
  stepKeeps_of_fresh ⟨rfl, rfl⟩ rfl (linesCurrent_of_dark rfl rfl) rfl (by simp [withinBounds, loadBlocks, freshLink, freshRing, freshGate, freshSequencer])

theorem loadStore_stepKeeps (s : State) : StepKeeps s (loadStore s) := by
  unfold loadStore
  dsimp only
  split
  · exact loadBlocks_stepKeeps _ _ _ _ _ _ _
  · exact (loadBlocks_stepKeeps _ _ _ _ _ _ _).trans (raiseNotice_tidy _ _).stepKeeps

/-- No level has been reported when the lines come under control. -/
theorem takeControl_stepKeeps (s : State) : StepKeeps s (takeControl s) := by
  unfold takeControl
  set u := s.onLines fun l => { l with control := true, inputs := l.inputs.map fun x => { x with timer := some s.now } } with hu
  have hk := refreshLines_keeps u
  have hreads : ∀ i, inputReads u i = inputReads s i := by
    intro i
    simp only [inputReads, hu, State.onLines_lines, State.onLines_mgmt, List.getD, List.getElem?_map]
    cases s.lines.inputs[inputIdx i]? <;> rfl
  refine ⟨fun h => hk.limitsClosed ?_, fun h => hk.limitsRated h, fun h => hk.slot h, fun _ => refreshLines_current (fun h => nomatch h), fun h => hk.coils h,
    fun h => hk.bounds h⟩
  rw [limitsClosed_iff] at *
  exact ⟨h.1, fun he => h.2 (hreads .estop ▸ he)⟩

theorem openPorts_tidy (s : State) : Tidy s (openPorts s) := by
  unfold openPorts
  refine (Tidy.onRing_same (by rfl) (by rfl)).trans (.trans (.onLink fun h => ?_) ((Tidy.onGate rfl id id).trans (sendSplit_tidy _ _)))
  exact linkBounded_serviceTake _ (linkBounded_stationTake _ _ h)

theorem firstRounds_tidy (s : State) : Tidy s (firstRounds s) := (Tidy.onRing_same rfl rfl).trans (.onLoop _ _)

theorem startUp_stepKeeps (s : State) : StepKeeps s (startUp s) :=
  (loadStore_stepKeeps s).trans ((takeControl_stepKeeps _).trans ((openPorts_tidy _).trans (firstRounds_tidy _)).stepKeeps)

/-! ## The report of an input (R157, R158) -/

theorem inputReport_estop_zero (first : Bool) {s : State} (h : inputReads s .estop = some true) :
    (inputReport .estop first s).env.chg = 0 ∧ (inputReport .estop first s).env.dis = 0 := by
  have he : inputReport .estop first s = refreshLines (takeBay .estop (gateOnset 3 (raiseNotice (nInputState .estop true) s))) := by
    simp [inputReport, inputReaders, h]
  rw [he]
  exact ((takeBay_tidy _ _).trans (refreshLines_tidy _)).zero (gateOnset_zero _ _)

theorem inputIdx_injective {i j : Input} (h : inputIdx i = inputIdx j) : i = j := by
  cases i <;> cases j <;> simp_all [inputIdx]

theorem inputReads_modInput {i j : Input} (h : i ≠ j) (f) (s : State) : inputReads (s.onLines (modInput i f)) j = inputReads s j := by
  have hne : inputIdx i ≠ inputIdx j := fun he => h (inputIdx_injective he)
  simp only [inputReads, State.onLines_lines, State.onLines_mgmt, modInput, List.getD, List.getElem?_modify, hne, if_false, id_map']

theorem debounced_stepKeeps (i : Input) (s : State) : StepKeeps s (debounced i s) := by
  unfold debounced
  dsimp only
  set f : InputLive → InputLive := fun x => { x with timer := none, level := some x.raw }
  split
  · rename_i hsame
    have hreads : ∀ j, inputReads (s.onLines (modInput i f)) j = inputReads s j := by
      intro j
      by_cases hij : i = j
      · subst hij
        have hl : ∀ x, (s.lines.inputs[inputIdx i]?).getD (freshInput false) = x → x.level = some x.raw →
            ((f <$> s.lines.inputs[inputIdx i]?).getD (freshInput false)).level = x.level := by
          intro x hx hxl
          cases hs : s.lines.inputs[inputIdx i]? with
          | none => rw [hs] at hx; subst hx; rfl
          | some y => rw [hs] at hx; subst hx; exact hxl.symm
        simp only [inputReads, State.onLines_lines, State.onLines_mgmt, modInput, List.getD, List.getElem?_modify_eq]
        rw [hl _ rfl hsame]
      · exact inputReads_modInput hij f s
    refine ⟨fun h => ?_, id, id, fun h => ?_, id, id⟩
    · rw [limitsClosed_iff] at *
      exact ⟨h.1, fun he => h.2 (hreads .estop ▸ he)⟩
    · have hc : ∀ o, composed (s.onLines (modInput i f)) o = composed s o := by
        intro o; simp only [composed, interlocked, hreads]; rfl
      unfold linesCurrent; simp only [hc]; exact h
  · have ht := inputReport_tidy i (inputLive s i).level.isNone (s.onLines (modInput i f))
    refine ⟨fun h => ?_, fun h => ht.limitsRated h, fun h => ht.slot h, fun h => ?_, fun h => ht.coils h, fun h => ht.bounds h⟩
    · rw [limitsClosed_iff] at *
      refine ⟨ht.closed h.1, fun he => ?_⟩
      rw [ht.reads] at he
      by_cases hi : i = .estop
      · subst hi; exact inputReport_estop_zero _ he
      · exact ht.zero (h.2 (inputReads_modInput hi f s ▸ he))
    · have hu : ∀ u : State, Keeps (s.onLines (modInput i f)) u → linesCurrent (refreshLines u) := fun u hk =>
        refreshLines_current fun hc => by
          have hc' : s.lines.control = false := hk.control.symm.trans hc
          exact (hk.dark hc').trans (h.dark hc')
      exact hu _ ((raiseNotice_tidy _ _).trans (inputReaders_tidy _ _ _ _)).toKeeps

/-! ## The application of the ring group (R186) -/

/-- What follows a change of duties composes the lines, whatever stood behind before. -/
theorem coolSettle_current (old : State) (also : Nat → Bool) {s : State} (h : s.lines.control = false → s.lines.outs = List.replicate 10 false) :
    linesCurrent (coolSettle old also s) := by
  obtain ⟨u, hu, he⟩ := coolSettle_refreshes old also s
  rw [he]
  exact refreshLines_current fun hc => by
    have hc' : s.lines.control = false := hu.control.symm.trans hc
    exact (hu.dark hc').trans (h hc')

/-- An input whose meaning changes is reported. -/
def lineReported (old : LineCfg) (i : Input) (s : State) : State :=
  if (inputLive s i).level.isSome && highMeans old i != highMeans s.mgmt.ringTables.line i then inputReport i false s else s

theorem lineTakeUp_eq (old : LineCfg) (s : State) : lineTakeUp old s = lineReported old .hold (lineReported old .door (lineReported old .estop
    (lineReported old .contNegAux (lineReported old .contPosAux (lineReported old .breakerAux s))))) := by
  simp only [lineTakeUp, List.foldl_cons, List.foldl_nil]; rfl

theorem lineReported_tidy (old : LineCfg) (i : Input) (s : State) : Tidy s (lineReported old i s) := .ite (inputReport_tidy _ _ _) (.refl s)

/-- ESTOP whose meaning has become active closes the limits at its report. -/
theorem lineTakeUp_zero {old : LineCfg} {s : State} (hold : highMeans old .estop ≠ highMeans s.mgmt.ringTables.line .estop)
    (h : inputReads s .estop = some true) : (lineTakeUp old s).env.chg = 0 ∧ (lineTakeUp old s).env.dis = 0 := by
  rw [lineTakeUp_eq]
  have hbefore := (lineReported_tidy old .breakerAux s).trans ((lineReported_tidy old .contPosAux _).trans (lineReported_tidy old .contNegAux _))
  generalize lineReported old .contNegAux (lineReported old .contPosAux (lineReported old .breakerAux s)) = u at *
  have hr : inputReads u .estop = some true := (hbefore.reads _).trans h
  have hlevel : (inputLive u .estop).level.isSome = true := by
    unfold inputReads at hr
    unfold inputLive
    cases hl : (u.lines.inputs.getD (inputIdx .estop) (freshInput false)).level with
    | none => rw [hl] at hr; cases hr
    | some b => rfl
  have he : lineReported old .estop u = inputReport .estop false u := by
    unfold lineReported; rw [hlevel, hbefore.tables]; simp [hold]
  rw [he]
  exact ((lineReported_tidy old .door _).trans (lineReported_tidy old .hold _)).zero (inputReport_estop_zero _ hr)

/-- The take-up up to the cut of the limits to new ratings. -/
def ringRated (old : RingTables) (staged : List RingPart) (s : State) : State :=
  ratingCut (modulesTakeUp old.nodes (writtenProfiles staged) (ringBrokenEval (slotTakeUp (forwardTakeUp old.nodes (nodesTakeUp old s)))))

/-- The duties of the new Cooling Tables, before they are settled. -/
def ringCooled (old : RingTables) (staged : List RingPart) (s : State) : State := coolingTakeUp old.cooling (silenceTakeUp (ringRated old staged s))

/-- The take-up up to the report of the inputs. -/
def ringBeforeLines (old : RingTables) (staged : List RingPart) (convWas : Bool) (s : State) : State :=
  gridTakeUp (detBlindEval (seqNodes convWas (coolNodesTakeUp s.ring.nodes (ringCooled old staged s))))

theorem ringTakeUp_eq (old : RingTables) (staged : List RingPart) (b : Bool) (s : State) :
    ringTakeUp old staged b s = rateTakeUp (writtenRate staged) (lineTakeUp old.line (ringBeforeLines old staged b s)) := rfl

theorem ringRated_tidy (old : RingTables) (staged : List RingPart) (s : State) : Tidy s (ringRated old staged s) :=
  ((nodesTakeUp_tidy _ _).trans ((forwardTakeUp_tidy _ _).trans ((slotTakeUp_tidy _).trans (ringBrokenEval_tidy _)))).trans
    ((modulesTakeUp_tidy _ _ _).trans (ratingCut_tidy _))

theorem ringRated_limitsRated (old : RingTables) (staged : List RingPart) (s : State) : limitsRated (ringRated old staged s) := by
  simp only [ringRated, ratingCut, limitsRated, setLimits_env, setLimits_mgmt]
  exact ⟨Nat.min_le_right .., Nat.min_le_right ..⟩

theorem ringCooled_keeps (old : RingTables) (staged : List RingPart) (s : State) : Keeps (ringRated old staged s) (ringCooled old staged s) :=
  ((Tidy.refl _).trans (silenceTakeUp_tidy _)).toKeeps.trans ((Keeps.refl _).coolingTakeUp _).toKeeps

theorem ringBeforeLines_keeps (old : RingTables) (staged : List RingPart) (b : Bool) (s : State) :
    Keeps (ringRated old staged s) (ringBeforeLines old staged b s) :=
  (ringCooled_keeps old staged s).trans ((coolSettle_tidy _ _ _).trans ((seqNodes_tidy _ _).trans ((detBlindEval_tidy _).trans (gridTakeUp_tidy _)))).toKeeps

theorem ringBeforeLines_current (old : RingTables) (staged : List RingPart) (b : Bool) {s : State}
    (h : s.lines.control = false → s.lines.outs = List.replicate 10 false) : linesCurrent (ringBeforeLines old staged b s) := by
  have hk := (ringRated_tidy old staged s).toKeeps.trans (ringCooled_keeps old staged s)
  refine ((seqNodes_tidy _ _).trans ((detBlindEval_tidy _).trans (gridTakeUp_tidy _))).lines (coolSettle_current _ _ fun hc => ?_)
  have hc' : s.lines.control = false := hk.control.symm.trans hc
  exact (hk.dark hc').trans (h hc')

theorem applyRingGroup_stepKeeps (s : State) : StepKeeps s (applyRingGroup s) := by
  unfold applyRingGroup
  split
  · exact .refl s
  · dsimp only
    set a := s.onMgmt fun m => { m with ringTables := pendingRing m, ringStaged := [], ringGen := nextGen m.ringGen } with ha
    refine .trans ?_ (raiseNotice_tidy _ _).stepKeeps
    rw [ringTakeUp_eq]
    have hrated := ringRated_limitsRated s.mgmt.ringTables s.mgmt.ringStaged a
    have hv := ringBeforeLines_keeps s.mgmt.ringTables s.mgmt.ringStaged (roleInService s .conv) a
    have hcur := fun h => ringBeforeLines_current s.mgmt.ringTables s.mgmt.ringStaged (roleInService s .conv) (s := a) h
    have hav := (ringRated_tidy s.mgmt.ringTables s.mgmt.ringStaged a).toKeeps.trans hv
    generalize ringBeforeLines s.mgmt.ringTables s.mgmt.ringStaged (roleInService s .conv) a = v at *
    have hl := lineTakeUp_tidy s.mgmt.ringTables.line v
    have ht := rateTakeUp_tidy (writtenRate s.mgmt.ringStaged) (lineTakeUp s.mgmt.ringTables.line v)
    have hall := hav.trans (hl.trans ht).toKeeps
    refine ⟨fun h => ?_, fun _ => (hv.trans (hl.trans ht).toKeeps).limitsRated hrated, hall.slot, fun h => (hl.trans ht).lines (hcur h.dark), hall.coils,
      hall.bounds⟩
    rw [limitsClosed_iff] at *
    refine ⟨hall.closed h.1, fun he => ?_⟩
    rw [hall.reads] at he
    by_cases hold : highMeans s.mgmt.ringTables.line .estop = highMeans a.mgmt.ringTables.line .estop
    · refine hall.zero (h.2 ?_)
      unfold inputReads at *
      rwa [hold]
    · exact ht.zero (lineTakeUp_zero (hav.tables ▸ hold) ((hav.reads _).trans he))

/-! ## The computation of the envelope (R50 to R60) -/

theorem fvChg_le (c : Taper) (v : Option Int) : fvChg c v ≤ 1000 := by
  cases v with
  | none => exact le_rfl
  | some v =>
    unfold fvChg
    dsimp only
    split_ifs with h1 h2
    · exact le_rfl
    · omega
    · exact Int.toNat_le.mpr (Int.ediv_le_of_le_mul (by omega) (by push_cast; nlinarith))

theorem fvDis_le (c : Taper) (v : Option Int) : fvDis c v ≤ 1000 := by
  cases v with
  | none => exact le_rfl
  | some v =>
    unfold fvDis
    dsimp only
    split_ifs with h1 h2
    · exact le_rfl
    · omega
    · exact Int.toNat_le.mpr (Int.ediv_le_of_le_mul (by omega) (by push_cast; nlinarith))

/-- A target lies within the rating (R57). -/
theorem targetOf_le (g : Bool) (rated : Nat) {least : Nat} (h : least ≤ 1000) : targetOf g rated least ≤ rated := by
  unfold targetOf
  split
  · exact Nat.zero_le _
  · exact Nat.div_le_of_le_mul (by nlinarith)

theorem moveLimit_le {g : Bool} {target published up down rated : Nat} (ht : target ≤ rated) (hp : published ≤ rated) :
    moveLimit g target published up down ≤ rated := by
  unfold moveLimit
  split_ifs <;> omega

/-- Each of the first three gates closes both directions (Table 3-4). -/
theorem gates_close {s : State} (b : BaySummary) (h : powerBarred s) :
    (gateCodes.filter (gateHolds s b)).any closesCharge = true ∧ (gateCodes.filter (gateHolds s b)).any closesDischarge = true := by
  have hg : ∃ g, (g = 1 ∨ g = 2 ∨ g = 3) ∧ gateHolds s b g = true := by
    obtain h | h | h := h
    · exact ⟨1, .inl rfl, by simpa [gateHolds] using h⟩
    · exact ⟨2, .inr (.inl rfl), by simpa [gateHolds] using h⟩
    · exact ⟨3, .inr (.inr rfl), by simpa [gateHolds] using h⟩
  obtain ⟨g, hg, hh⟩ := hg
  have hm : g ∈ gateCodes.filter (gateHolds s b) := by
    refine List.mem_filter.mpr ⟨?_, hh⟩
    obtain rfl | rfl | rfl := hg <;> decide
  refine ⟨List.any_eq_true.mpr ⟨g, hm, ?_⟩, List.any_eq_true.mpr ⟨g, hm, ?_⟩⟩ <;> obtain rfl | rfl | rfl := hg <;> rfl

/-- A computation of the envelope sets limits on a state that differs from `s` only in what the invariants do not read. -/
theorem envelopeCompute_eq (b : BaySummary) (bay : CoolState) (s : State) :
    ∃ (u : State) (c d : Nat), Tidy s u ∧ (powerBarred u → powerBarred s) ∧ envelopeCompute b bay s = setLimits c d u ∧ (powerBarred s → c = 0 ∧ d = 0) ∧
      (limitsRated s → c ≤ s.mgmt.ringTables.envelope.ratings.chgRated ∧ d ≤ s.mgmt.ringTables.envelope.ratings.disRated) := by
  refine ⟨_, _, _, (Tidy.onEnv rfl rfl).trans (raiseAll_tidy _ _), ?_, rfl, fun h => ?_, fun h => ?_⟩
  · simp [powerBarred, inputReads]
  · obtain ⟨h1, h2⟩ := gates_close b h
    rw [h1, h2]; exact ⟨rfl, rfl⟩
  · exact ⟨moveLimit_le (targetOf_le _ _ ((Nat.min_le_left ..).trans (fvChg_le _ _))) h.1,
      moveLimit_le (targetOf_le _ _ ((Nat.min_le_left ..).trans (fvDis_le _ _))) h.2⟩

theorem setLimits_lines_current (c d : Nat) {s : State} : linesCurrent s → linesCurrent (setLimits c d s) :=
  linesCurrent_congr (composed_congr (fun i => by simp [inputReads]) (by simp) (by simp) (by simp) (by simp) (by simp) (by simp) (by simp) (by simp)) (by simp)

theorem setLimits_barred (c d : Nat) (s : State) : powerBarred (setLimits c d s) ↔ powerBarred s := by simp [powerBarred, inputReads]

theorem envelopeCompute_stepKeeps (b : BaySummary) (bay : CoolState) (s : State) : StepKeeps s (envelopeCompute b bay s) := by
  obtain ⟨u, c, d, hu, hback, he, hbarred, hrated⟩ := envelopeCompute_eq b bay s
  rw [he]
  refine ⟨fun _ hb => ?_, fun h => ?_, fun h => setLimits_slot c d (hu.slot h), fun h => setLimits_lines_current c d (hu.lines h), fun h => ?_,
    fun h => setLimits_bounds c d (hu.bounds h)⟩
  · simpa [setLimits_env] using hbarred (hback ((setLimits_barred c d u).mp hb))
  · simpa [limitsRated, setLimits_env, hu.tables] using hrated h
  · simpa [coilsUnforced] using hu.coils h

/-! ## The round end (R15, R20) -/

/-- The Ring Master's record of the round that has ended. -/
def ringRoundEnded (s : State) : State :=
  s.onRing fun r => { r with running := false, seqA := idleSeq, seqB := idleSeq, lastEnd := some s.now, lastEndRound := s.ring.round }

/-- The start of the round that has fallen due, with the notice of an overrun. -/
def nextRoundStarted (duration : Nat) (s : State) : State :=
  if s.ring.fallenDue then raiseIf s.ring.overrun (nRoundOverrun duration) (roundStart s) else s

theorem roundEnd_eq (s : State) : roundEnd s = nextRoundStarted (toMs (s.now - s.ring.roundStart))
    (forwardTick (summaryReactions (cellRoundEnd s.ring.round (toMs (s.now - s.ring.lastEnd.getD s.ring.roundStart)) (applyRingGroup (ringRoundEnded s))))) := by
  unfold roundEnd nextRoundStarted ringRoundEnded
  with_reducible rfl

theorem ringRoundEnded_tidy (s : State) : Tidy s (ringRoundEnded s) := .onRing_same rfl rfl

theorem nextRoundStarted_tidy (d : Nat) (s : State) : Tidy s (nextRoundStarted d s) := .ite ((roundStart_tidy s).trans (raiseIf_tidy _ _ _)) (.refl s)

theorem summaryReactions_stepKeeps (s : State) : StepKeeps s (summaryReactions s) := by
  unfold summaryReactions
  exact (envelopeCompute_stepKeeps _ _ _).trans ((coolingPass_tidy _ _).trans (fireEval_tidy _ _)).stepKeeps

theorem roundEnd_stepKeeps (s : State) : StepKeeps s (roundEnd s) := by
  rw [roundEnd_eq]
  exact (ringRoundEnded_tidy s).stepKeeps.trans ((applyRingGroup_stepKeeps _).trans ((cellRoundEnd_tidy _ _ _).stepKeeps.trans
    ((summaryReactions_stepKeeps _).trans ((forwardTick_tidy _).trans (nextRoundStarted_tidy _ _)).stepKeeps)))

/-! ## Every step -/

theorem exec_stepKeeps {c : Instr} {s t : State} (h : exec c s = .next t) : StepKeeps s t := by
  by_cases hc : Instr.isTurning c = false
  · exact (exec_tidy hc h).stepKeeps
  · cases c
    case powerOn => cases h; exact .ite (resetTo_stepKeeps _ _ _) (.refl s)
    case rstAssert => cases h; exact .ite (rstRelease_tidy _ true _).stepKeeps (resetTo_stepKeeps _ _ _)
    case restartResetTaken => cases h; exact .ite (.ite (resetTo_stepKeeps _ _ _) (.refl s)) (.refl s)
    case startUp => cases h; exact .ite (startUp_stepKeeps s) (.refl s)
    case powerLoss => cases h; exact .ite (.refl s) (resetTo_stepKeeps _ _ _)
    case debounceStable i => cases h; exact .ite (.ite (debounced_stepKeeps i s) (.refl s)) (.refl s)
    case roundEnd => cases h; exact .ite (.ite (roundEnd_stepKeeps s) (.refl s)) (.refl s)
    all_goals exact absurd rfl hc

theorem step_stepKeeps {s t : State} (h : step s = .next t) : StepKeeps s t := by
  have hq : ∀ q, Tidy s (s.setPending q) := fun _ => ⟨⟨fun _ => rfl, rfl, rfl, fun _ => rfl, le_rfl, le_rfl, id, id, id, id⟩, id⟩
  unfold step at h
  split at h
  · cases h
    exact Tidy.stepKeeps ⟨⟨fun _ => rfl, rfl, rfl, fun _ => rfl, le_rfl, le_rfl, id, id, id, id⟩, id⟩
  · exact (hq _).stepKeeps.trans (exec_stepKeeps h)

/-- Settles O5, by the contract every operation keeps. -/
theorem limitsClosedKept : Obligations.LimitsClosedKept := fun _ _ hs h => (step_stepKeeps h).closed hs

/-- Settles O6. -/
theorem limitsRatedKept : Obligations.LimitsRatedKept := fun _ _ hs h => (step_stepKeeps h).rated hs

/-- Settles O7. -/
theorem slotClampedKept : Obligations.SlotClampedKept := fun _ _ hs h => (step_stepKeeps h).slot hs

/-- Settles O8. -/
theorem linesCurrentKept : Obligations.LinesCurrentKept := fun _ _ hl hc h => ⟨(step_stepKeeps h).lines hl, (step_stepKeeps h).coils hc⟩

/-- Settles O10. -/
theorem withinBoundsKept : Obligations.WithinBoundsKept := fun _ _ hs h => (step_stepKeeps h).bounds hs

/-! ## The coils (R131, R160) -/

/-- An output without a force record that is active is demanded and not interlocked. -/
theorem composed_unforced {s : State} {o : Nat} (hf : s.lines.forces.getD o none = none) (h : composed s o = true) :
    interlocked s o = false ∧ demand s o = true := by
  unfold composed at h
  rw [hf] at h
  split_ifs at h with hi hd
  exact ⟨by simpa using hi, hd⟩

/-- The level of an output of the lines, by its composition. -/
theorem outLevel_composed {s : State} {i : Nat} (h : linesCurrent s) (hi : i < 10) : outLevel s (12 + i) = (s.lines.control && composed s (12 + i)) := by
  unfold outLevel
  rw [h, Nat.add_sub_cancel_left]
  simp [List.getD, List.getElem?_map, List.getElem?_range hi]

/-- Coils without a force record are active only as R131 and R160 let them. -/
theorem coilsSafe_of_current {s : State} (h : linesCurrent s) (hc : coilsUnforced s) : coilsSafe s := by
  have active : ∀ {o}, o = 12 ∨ o = 13 ∨ o = 17 → (s.lines.control && composed s o) = true → interlocked s o = false ∧ demand s o = true := by
    intro o ho ha
    exact composed_unforced (hc o ho) (Bool.and_eq_true_iff.mp ha).2
  refine ⟨fun hl => ?_, fun hl => ?_⟩
  · obtain ⟨hi, hd⟩ := active (.inl rfl) ((outLevel_composed (i := 0) h (by decide)).symm.trans hl)
    simp only [interlocked, Bool.or_eq_false_iff, bne_eq_false_iff_eq] at hi
    obtain ⟨⟨⟨hno, hestop⟩, hpos⟩, hneg⟩ := hi
    refine ⟨Bool.eq_false_iff.mpr fun h13 => ?_, ?_, hpos, hneg, hestop⟩
    · obtain ⟨-, hd13⟩ := active (.inr (.inl rfl)) ((outLevel_composed (i := 1) h (by decide)).symm.trans h13)
      exact absurd (hno.symm.trans hd13) (by decide)
    · simpa using (Bool.and_eq_true_iff.mp hd).1
  · obtain ⟨hi, hd⟩ := active (.inr (.inr rfl)) ((outLevel_composed (i := 5) h (by decide)).symm.trans hl)
    simp only [interlocked, Bool.or_eq_false_iff, bne_eq_false_iff_eq] at hi
    obtain ⟨hrel, hpulse⟩ := Bool.and_eq_true_iff.mp hd
    exact ⟨by simpa using hrel, hpulse, hi.1⟩

/-- Settles O9: what a step keeps of the lines, and what composition says of the coils. -/
theorem coilsSafeAfterEveryStep : Obligations.CoilsSafeAfterEveryStep := fun _ _ hl hc h =>
  coilsSafe_of_current ((step_stepKeeps h).lines hl) ((step_stepKeeps h).coils hc)

end Sys2Proof.Machine
end

section
/-! The queue of commands, the resets and the start-up, and the store (R187 to R192). -/

namespace Sys2Proof.Machine

/-- Settles O1. -/
theorem stepTakesFront : Obligations.StepTakesFront := by
  intro c q s h
  simp only [step, h]
  rfl

/-- Settles O2. -/
theorem idleStepTicks : Obligations.IdleStepTicks := by
  intro s h
  unfold step
  split
  · rfl
  · next hc => exact absurd (h.symm.trans hc) (List.cons_ne_nil _ _).symm

/-! ## What a request with arguments answers -/

section
variable {α : Type} {r : Request} {s : State} {o : Option α} {x : α} {g : α → State → State}

/-- A request from the holder of authority whose arguments read is given to its own body. -/
theorem argsRequest_held (code : Nat) (ch : Bool) (h : held r s) (ho : o = some x) :
    request r code ch (withArgs r code o g) s = .next (g x (received r s)) := by
  rw [request_held _ _ _ h, ho]; rfl

/-- One that changes nothing needs no authority. -/
theorem argsRequest_taken (code : Nat) (h : taken r s) (ho : o = some x) :
    request r code false (withArgs r code o g) s = .next (g x (received r s)) := by
  rw [request_taken _ _ h, ho]; rfl

/-- Arguments that do not read are answered INVALID. -/
theorem argsRequest_invalid (code : Nat) (ch : Bool) (h : held r s) (ho : o = none) :
    request r code ch (withArgs r code o g) s = .next (answer r code .invalid [] (received r s)) := by
  rw [request_held _ _ _ h, ho]; rfl

theorem noArgs_nil (h : r.args = []) : noArgs r = some () := by simp [noArgs, h]

end

/-! ## Resets (R190, R191) -/

/-- No entry of the default Node Table has a role. -/
theorem defaultNodes_unused : ∀ c ∈ defaultRingTables.nodes, c.role = .unused := by
  intro c hc
  rw [List.eq_of_mem_replicate hc]
  rfl

theorem freshNodes_of_unused {t : RingTables} {split : Nat} {cs : List NodeCfg} (h : ∀ c ∈ cs, c.role = .unused) (a : Nat) :
    ∀ l ∈ freshNodes t split cs a, l.state = .unconfigured ∧ l.missed = 0 ∧ l.lastCount = none ∧ l.lost = 0 := by
  induction cs generalizing a with
  | nil => exact fun l hl => nomatch hl
  | cons c cs ih =>
    rw [List.forall_mem_cons] at h
    simp only [freshNodes, List.forall_mem_cons]
    exact ⟨by simp [freshNode, h.1], ih h.2 (a + 1)⟩

/-- Settles O3. -/
theorem resetLeavesBlocks : Obligations.ResetLeavesBlocks := by
  refine ⟨⟨rfl, rfl, rfl, rfl, rfl, rfl, rfl, rfl, ?_⟩, ⟨?_, rfl, rfl⟩, ⟨rfl, rfl, rfl, rfl, rfl⟩,
    ⟨rfl, rfl, rfl, rfl, rfl, rfl, rfl⟩, ⟨rfl, ?_, ?_⟩, ⟨rfl, rfl, rfl, rfl, rfl, rfl, rfl⟩, ⟨rfl, rfl, rfl, rfl, ?_⟩, ?_,
    ⟨rfl, rfl, rfl, rfl, ?_⟩, ⟨rfl, rfl, rfl, rfl, rfl, rfl, rfl⟩, ⟨rfl, rfl, rfl, rfl, rfl, rfl⟩⟩
  · exact freshNodes_of_unused defaultNodes_unused 1
  · simp only [State.reset, freshCell, List.forall_mem_map]
    exact fun c hc => if_neg (by rw [defaultNodes_unused c hc]; decide)
  · simp [State.reset, freshCooling, freshOut]
  · simp [State.reset, freshCooling, freshPump]
  · decide
  · have hl : latchStart clearLatch = none := by rw [latchStart, if_neg (by simp [clearLatch])]; rfl
    simp [State.reset, freshSequencer, hl]
  · simp [State.reset, freshLines, freshInput]

/-- Settles O4: a reset leaves the limits at 0, the slot empty, the lines dark and the queues empty. -/
theorem resetMeetsInvariants : Obligations.ResetMeetsInvariants := by
  refine ⟨fun _ => ⟨rfl, rfl⟩, ?_, ?_, linesCurrent_of_dark rfl rfl, ?_, ?_⟩
  · simp [limitsRated, State.reset, freshEnvelope]
  · intro f hf
    cases hf
  · rintro o (rfl | rfl | rfl) <;> rfl
  · simp [withinBounds, State.reset, freshLink, freshRing, freshGate, freshSequencer]

theorem restartReady_of {s : State} (h1 : s.mgmt.restart = true) (h2 : restartOwed s.link = false) (h3 : s.mgmt.store = .idle)
    (h4 : s.mgmt.latchWaiting = none) (h5 : s.mgmt.save = none) : restartReady s = true := by
  simp [restartReady, storeQuiet, h1, h2, h3, h4, h5]

/-- Settles O11. -/
theorem resetsAndRestart : Obligations.ResetsAndRestart := by
  refine ⟨fun s h => ?_, fun s h => ?_, fun s h => ?_, fun s h h1 h2 h3 h4 h5 => ?_, fun s h => ?_, fun ph s => ?_, fun r s h ha hq hf => ?_,
    fun r s h ha hn => ?_⟩
  · simp [exec, execPowerOn, h]
  · have hn : ¬(s.phase = .off ∨ s.phase = .inReset) := by obtain h | h := h <;> simp [h]
    simp [exec, execRstAssert, hn]
  · simp [exec, execRstRelease, h]
  · exact (act_running _ h).trans (by rw [whenDue_true _ _ (restartReady_of h1 h2 h3 h4 h5)])
  · simp [exec, execPowerLoss, h]
  · refine ⟨rfl, rfl, rfl, rfl, rfl, rfl, rfl, rfl, rfl, rfl, rfl, rfl, rfl, ?_, ?_, fun h => ?_, fun h => ?_, fun h => ?_⟩
    · simp [resetTo, freshCooling, freshOut]
    · simp [resetTo, freshLines, freshInput, Function.comp_def]
    · simp [resetTo, cutStore, h]
    · simp [resetTo, cutStore, h, image_cut]
    · simp [resetTo, cutStore, h, latch_cut]
  · refine (argsRequest_held _ _ h (noArgs_nil ha)).trans ?_
    rw [restartBody, if_pos (by simpa using ⟨hq, hf⟩)]
    simp [State.onMgmt]
  · refine (argsRequest_held _ _ h (noArgs_nil ha)).trans ?_
    rw [restartBody, if_neg (by simpa using hn)]
    simp

/-! ## The start-up (R189, R192) -/

/-- Steps 2 to 5 of the start-up on the blocks loaded. -/
def startedUp (s : State) : State := firstRounds (openPorts (takeControl s))

section
variable (s : State)

theorem startUp_eq : startUp s = startedUp (loadStore s) := rfl

@[simp] theorem startedUp_now : (startedUp s).now = s.now := by simp [startedUp, firstRounds, openPorts, takeControl]
@[simp] theorem startedUp_phase : (startedUp s).phase = s.phase := by simp [startedUp, firstRounds, openPorts, takeControl]
@[simp] theorem startedUp_store : (startedUp s).store = s.store := by simp [startedUp, firstRounds, openPorts, takeControl]
@[simp] theorem startedUp_pending : (startedUp s).pending = s.pending := by simp [startedUp, firstRounds, openPorts, takeControl]
@[simp] theorem startedUp_mgmt : (startedUp s).mgmt = s.mgmt := by simp [startedUp, firstRounds, openPorts, takeControl]
@[simp] theorem startedUp_seqr : (startedUp s).seqr = s.seqr := by simp [startedUp, firstRounds, openPorts, takeControl]
@[simp] theorem startedUp_policy : (startedUp s).link.policy = s.link.policy := by simp [startedUp, firstRounds, openPorts, takeControl]
@[simp] theorem startedUp_enables : (startedUp s).link.enables = s.link.enables := by simp [startedUp, firstRounds, openPorts, takeControl]

theorem startedUp_ring : (startedUp s).ring = { sendSplit s.now { s.ring with
    portA := { s.ring.portA with rx := openReceiver s.now s.ring.portA.rx }
    portB := { s.ring.portB with rx := openReceiver s.now s.ring.portB.rx } } with dueAt := some (s.now + 10 * Config.ms) } := by
  simp [startedUp, firstRounds, openPorts, takeControl]

theorem startedUp_station : (startedUp s).link.station = openReceiver s.now s.link.station := by simp [startedUp, firstRounds, openPorts, takeControl]
theorem startedUp_service : (startedUp s).link.service = openReceiver s.now s.link.service := by simp [startedUp, firstRounds, openPorts, takeControl]

theorem startedUp_lines : (startedUp s).lines.control = true ∧
    (startedUp s).lines.inputs = s.lines.inputs.map fun x => { x with timer := some s.now } := by simp [startedUp, firstRounds, openPorts, takeControl]

theorem startedUp_timers : (startedUp s).gate.silenceSince = some s.now ∧ (startedUp s).loop.dueAt = some (s.now + 500 * Config.ms) := by
  simp [startedUp, firstRounds, openPorts, takeControl]

theorem loadStore_good (h : imageGood s.store.image = true) : loadStore s =
    loadBlocks s.store.image.ring s.store.image.loop s.store.image.split s.store.image.policy s.store.image.enables false s := if_pos h

theorem loadStore_bad (h : imageGood s.store.image = false) : loadStore s =
    raiseNotice (nStoreFault true) (loadBlocks defaultRingTables defaultLoopTables 0 defaultForward defaultEnables true s) := if_neg (by simp [h])

end

/-- The blocks as they are loaded, whatever the tables: what START_UP starts from. -/
structure FreshBlocks (s u : State) : Prop where
  now : u.now = s.now
  phase : u.phase = .running
  store : u.store = s.store
  pending : u.pending = s.pending
  portA : u.ring.portA = freshRingPort
  portB : u.ring.portB = freshRingPort
  station : u.link.station = closedReceiver
  service : u.link.service = closedReceiver
  split : u.ring.splitEff = u.ring.splitReq
  inputs : u.lines.inputs = s.lines.inputs.map fun x => freshInput x.raw
  seqr : u.seqr = freshSequencer s.store.latch

theorem loadBlocks_fresh (rt : RingTables) (lt : LoopTables) (split : Nat) (pol : List Forward) (en : List Bool) (bad : Bool) (s : State) :
    FreshBlocks s (loadBlocks rt lt split pol en bad s) where
  now := rfl
  phase := rfl
  store := rfl
  pending := rfl
  portA := rfl
  portB := rfl
  station := rfl
  service := rfl
  split := rfl
  inputs := by simp [loadBlocks, freshLines, Function.comp_def]
  seqr := rfl

theorem FreshBlocks.raised {s u : State} (h : FreshBlocks s u) (n : Notice) : FreshBlocks s (raiseNotice n u) := by
  obtain ⟨h1, h2, h3, h4, h5, h6, h7, h8, h9, h10, h11⟩ := h
  exact ⟨by simp [h1], by simp [h2], by simp [h3], by simp [h4], by simp [h5], by simp [h6], by simp [h7], by simp [h8], by simp [h9], by simp [h10],
    by simp [h11]⟩

theorem loadStore_fresh (s : State) : FreshBlocks s (loadStore s) := by
  cases h : imageGood s.store.image with
  | true => rw [loadStore_good s h]; exact loadBlocks_fresh _ _ _ _ _ _ _
  | false => rw [loadStore_bad s h]; exact (loadBlocks_fresh _ _ _ _ _ _ _).raised _

/-- Settles O12: what is loaded by the store, and what steps 2 to 5 do with it. -/
theorem startUpOrder : Obligations.StartUpOrder := by
  intro s hs
  have hf := loadStore_fresh s
  refine ⟨startedUp (loadStore s), by simp [exec, execStartUp, hs, startUp_eq], ?_⟩
  refine ⟨by simp [hf.phase], by simp [hf.now], by simp [hf.store], by simp [hf.pending], fun hg => ?_, fun hg => ?_, (startedUp_lines _).1, ?_, ?_, ?_, ?_, ?_,
    ?_, ?_, ?_, ?_⟩
  · rw [loadStore_good s hg]
    simp [startedUp_ring, loadBlocks, freshMgmt, freshLink, freshRing, sendSplit, broadcast, sendOn, modPort, advance]
  · rw [loadStore_bad s hg]
    simp [startedUp_ring, loadBlocks, freshMgmt, freshLink, freshRing, sendSplit, broadcast, sendOn, modPort, advance]
  · simp [(startedUp_lines _).2, hf.inputs, hf.now, freshInput]
  · intro x hx
    have hopen : openReceiver s.now closedReceiver = ⟨true, s.now, none, ⟨0, 0, 0, 0⟩⟩ := rfl
    rw [← hopen]
    obtain rfl | rfl | rfl | rfl := hx
    · simp [startedUp_ring, sendSplit, broadcast, sendOn, modPort, advance, hf.portA, hf.now, freshRingPort]
    · simp [startedUp_ring, sendSplit, broadcast, sendOn, modPort, advance, hf.portB, hf.now, freshRingPort]
    · rw [startedUp_station, hf.station, hf.now]
    · rw [startedUp_service, hf.service, hf.now]
  · rw [(startedUp_timers _).1, hf.now]
  · simp [startedUp_ring, sendSplit, broadcast, sendOn, modPort, advance, hf.portA, freshRingPort]
  · simp [startedUp_ring, sendSplit, broadcast, sendOn, modPort, advance, hf.portA, hf.portB, freshRingPort]
  · simp [startedUp_ring, sendSplit, broadcast, sendOn, modPort, advance, hf.split]
  · simp [startedUp_ring, hf.now, Config.ms]
  · rw [(startedUp_timers _).2, hf.now]; rfl
  · rw [startedUp_seqr, hf.seqr]
    cases h : latchStart s.store.latch <;> simp [freshSequencer, h]

/-- Settles O13: the record that the reset cut has no good check at the start-up. -/
theorem cutRecordIsLost : Obligations.CutRecordIsLost := by
  rintro s a b hs hr ha hb
  have ha' : a = resetTo .off s := by simpa [exec, execPowerLoss, hs, eq_comm] using ha
  have hb' : b = resetTo .startUpDue (resetTo .off s) := by subst ha'; simpa [exec, execPowerOn, resetTo, hr, eq_comm] using hb
  have hstore : b.store = cutStore s.mgmt.store s.store := by rw [hb']; rfl
  obtain ⟨t, ht, hrun, -, -, -, -, hbad, -, -, -, -, -, -, -, -, -, hlatch⟩ := startUpOrder b (by rw [hb']; rfl)
  refine ⟨t, ht, hrun, fun hw => ?_, fun hw => ?_⟩
  · have hl : latchStart b.store.latch = some .latchLost := by simp [hstore, hw, cutStore, latchStart, latch_cut]
    rw [hl] at hlatch
    exact hlatch
  · have hi : imageGood b.store.image = false := by simp [hstore, hw, cutStore, imageGood, image_cut]
    obtain ⟨h1, h2, -, -, -, h3⟩ := hbad hi
    exact ⟨h3, h1, h2⟩

/-! ## The store (R187, R188) -/

theorem storeStart_save (m : Mgmt) : (storeStart m).save = m.save := by unfold storeStart; split <;> rfl
theorem storeStart_storeFault (m : Mgmt) : (storeStart m).storeFault = m.storeFault := by unfold storeStart; split <;> rfl
theorem storeStart_lastLatch (m : Mgmt) : (storeStart m).lastLatch = m.lastLatch := by unfold storeStart; split <;> rfl
theorem storeStart_busy {m : Mgmt} (h : m.store ≠ .idle) : storeStart m = m := by unfold storeStart; split <;> simp_all
theorem storeStart_writesLatch {m : Mgmt} {l : LatchRec} (h : m.store = .idle) (hl : m.latchWaiting = some l) :
    storeStart m = { m with store := .writingLatch, latchWriting := some l, latchWaiting := none } := by unfold storeStart; simp [h, hl]
theorem storeStart_writesImage {m : Mgmt} {j : SaveJob} (h : m.store = .idle) (hl : m.latchWaiting = none) (hj : m.save = some j) :
    storeStart m = { m with store := .writingImage } := by unfold storeStart; simp [h, hl, hj]
theorem storeStart_none {m : Mgmt} (hl : m.latchWaiting = none) (hj : m.save = none) : storeStart m = m := by unfold storeStart; simp [hl, hj]

/-- What the end of the image write leaves in the Management Unit, but for the response. -/
theorem imageDone_mgmt (j : SaveJob) (s : State) : (imageDone j s).mgmt = storeStart { s.mgmt with store := .idle, save := none, storeFault := false } := by
  unfold imageDone
  dsimp only
  split <;> simp

theorem imageDone_frame (j : SaveJob) (s : State) :
    imageDone j s = { s with store := (imageDone j s).store, mgmt := (imageDone j s).mgmt, lines := (imageDone j s).lines, link := (imageDone j s).link } := by
  unfold imageDone
  dsimp only
  split <;> apply State.eq_of_fields <;> simp

theorem imageDone_store (j : SaveJob) (s : State) : (imageDone j s).store = { s.store with image := j.image } := by
  unfold imageDone
  dsimp only
  split <;> simp

/-- With the store fault clear nothing but the response follows. -/
theorem imageDone_quiet (j : SaveJob) {s : State} (h : s.mgmt.storeFault = false) : (imageDone j s).lines = s.lines ∧
    (imageDone j s).link = sendUp s.now s.mgmt.ringTables.rate j.port
      ⟨.response, true, false, rspFrame j.src j.id 0x1D .done (encU16 j.ringGen ++ encU16 j.loopGen)⟩ s.link := by
  have hrate : ∀ m : Mgmt, (storeStart m).ringTables = m.ringTables := fun m => by rw [storeStart_latch]
  simp [imageDone, h, answerAs, hrate]

/-- Settles O14. -/
theorem storeWrites : Obligations.StoreWrites := by
  refine ⟨fun i => ⟨rfl, closeImage_checkOk i, rfl⟩, fun r s h ha hn => ?_, fun s j hs hw hj => ?_, fun s l hs hw hl => ?_⟩
  · refine ⟨_, argsRequest_held _ _ h (noArgs_nil ha), ?_, ?_, fun hi hl => ?_, fun hi => ?_⟩ <;> simp only [saveBody, received_mgmt, hn]
    · rfl
    · simp [storeStart_save, saveJob]
    · simp [storeStart_writesImage (j := saveJob r (received r s)) (m := { s.mgmt with save := some (saveJob r (received r s)) }) hi hl rfl]
    · simp [storeStart_busy (m := { s.mgmt with save := some (saveJob r (received r s)) }) hi]
  · have he : exec .imageWriteDone s = .next (imageDone j s) := by simp [exec, execImageWriteDone, act, hs, hw, hj]
    refine ⟨_, he, imageDone_frame j s, imageDone_store j s, ?_, ?_, fun l hl => ?_, fun hl => ?_, imageDone_quiet j⟩ <;> rw [imageDone_mgmt]
    · exact storeStart_save _
    · exact storeStart_storeFault _
    · rw [storeStart_writesLatch rfl (by exact hl)]; exact ⟨rfl, rfl, rfl⟩
    · rw [storeStart_none (by exact hl) rfl]
  · have he : exec .latchWriteDone s = .next (latchDone l s) := by simp [exec, execLatchWriteDone, act, hs, hw, hl]
    refine ⟨_, he, rfl, storeStart_lastLatch _, fun l' hl' => ?_, fun hn hj => ?_, fun hn hj => ?_⟩
    · simp only [latchDone, State.onMgmt_mgmt]
      rw [storeStart_writesLatch rfl (by exact hl')]; exact ⟨rfl, rfl⟩
    · obtain ⟨j, hj⟩ := Option.isSome_iff_exists.mp hj
      simp only [latchDone, State.onMgmt_mgmt]
      rw [storeStart_writesImage rfl (by exact hn) (by exact hj)]
    · simp only [latchDone, State.onMgmt_mgmt]
      rw [storeStart_none (by exact hn) (by exact hj)]

end Sys2Proof.Machine
end

section
/-! The frame ports and the queues upward, authority and the traffic policy, the checks of every request, and the force records. -/

namespace Sys2Proof.Machine

/-! ## The checks of every request (R182) -/

/-- A request of Table 12-8 is carried out as one: its checks first, then its own body. -/
theorem exec_of_requestOf {c : Instr} {r : Request} {code : Nat} {ch : Bool} (h : requestOf c = some (r, code, ch)) :
    ∃ body, ∀ s, exec c s = request r code ch body s := by
  cases c <;> cases h <;> exact ⟨_, fun _ => rfl⟩

/-- Settles O60: the checks of R182, whatever the request. -/
theorem requestsRefused : Obligations.RequestsRefused := by
  refine ⟨fun c r code changing s hc h => ?_, fun code r s h hno => ?_⟩
  · obtain ⟨body, he⟩ := exec_of_requestOf hc
    refine ⟨fun hr => ?_, fun hr hch hn => ?_⟩ <;> rw [he, request_reaches _ _ _ h]
    · simp [requestChecks, hr]
    · simp [requestChecks, hr, hch, hn]
  · obtain ⟨hrun, hin, hsrc⟩ := h
    have hdue : (frameInTime s r.port r.syncAt && !requestCodes.contains code.toNat) = true := by rw [hin, hno]; rfl
    refine (act_running _ hrun).trans (congrArg _ ((whenDue_true _ _ hdue).trans ?_))
    simp [requestArrives, hsrc, received, frameReceived]

/-! ## Frames that are not taken (R167, R168) -/

/-- A frame is in time within 250 ms of a sync byte since the opening of the port, and since the last bit rate on the Station Link. -/
theorem frameInTime_iff (s : State) (p : FramePort) (t0 : Nat) : frameInTime s p t0 = true ↔
    (rxOf s.link p).isOpen = true ∧ (rxOf s.link p).openedAt ≤ t0 ∧ t0 ≤ s.now ∧ s.now ≤ t0 + 250000 ∧
      (p = .station → ∀ t1, s.link.rateAt = some t1 → t1 < t0) := by
  have hcut : cutByRate s p t0 = false ↔ (p = .station → ∀ t1, s.link.rateAt = some t1 → t1 < t0) := by
    cases p with
    | service => simp [cutByRate]
    | station => cases hr : s.link.rateAt <;> simp [cutByRate, hr]
  simp only [frameInTime, inTime, hears, Bool.and_eq_true, Bool.not_eq_true', hcut, decide_eq_true_eq, and_assoc]
  exact Iff.rfl

theorem not_frameInTime {s : State} {p : FramePort} {t0 : Nat}
    (h : t0 + 250000 < s.now ∨ (p = .station ∧ ∃ t1, s.link.rateAt = some t1 ∧ t0 ≤ t1) ∨ t0 < (rxOf s.link p).openedAt) :
    frameInTime s p t0 = false := by
  rw [← Bool.not_eq_true, frameInTime_iff]
  rintro ⟨-, hopen, -, hlate, hrate⟩
  obtain h | ⟨hp, t1, ht1, hle⟩ | h := h
  · omega
  · exact absurd (hrate hp t1 ht1) (by omega)
  · omega

theorem request_untaken {r : Request} {code : Nat} {ch : Bool} {body : State → State} {s : State} (h : frameInTime s r.port r.syncAt = false) :
    request r code ch body s = .next s := by simp [request, act, whenDue, h]

theorem modRx_modRx (p : FramePort) (f g : Receiver → Receiver) (l : Link) : modRx p f (modRx p g l) = modRx p (fun x => f (g x)) l := by cases p <;> rfl

theorem resync_eq (h : List Byte) (t0 b : Nat) : resync h t0 b = (h.idxOf? 0xA5#8).map fun i => t0 + b * (i + 1) := by
  unfold resync; cases h.idxOf? 0xA5#8 <;> rfl

theorem comesIn_running {p : FramePort} {t0 : Nat} {s : State} (h : comesIn p t0 s) (g : State → State) :
    act s (fun s => whenDue (frameInTime s p t0) g s) = .next (g s) :=
  (act_running _ h.1).trans (congrArg _ (whenDue_true _ _ h.2))

theorem ran_of {since dur now : Nat} (h : since + dur ≤ now) : ran since dur now = true := decide_eq_true h

theorem hears_of {rx : Receiver} {t0 : Nat} (h1 : rx.isOpen = true) (h2 : rx.openedAt ≤ t0) : hears rx t0 = true := by
  rw [hears, h1, decide_eq_true h2]; rfl

theorem cutByRate_of {s : State} {t0 t1 : Nat} (h : s.link.rateAt = some t1) (hle : t0 ≤ t1) : cutByRate s .station t0 = true := by
  rw [cutByRate, h]; simp [hle]

theorem framePortFragment_due {p : FramePort} {t0 : Nat} {s : State} (hs : s.phase = .running)
    (hdue : (hears (rxOf s.link p) t0 && fragmentDue s p t0) = true) :
    exec (.framePortFragment p t0) s = .next (countLink p addFragment (linkSearching p s)) := by
  simp only [exec, execFramePortFragment, act, whenDue, hs, hdue, if_true]

/-- Settles O54. -/
theorem framePortErrors : Obligations.FramePortErrors := by
  refine ⟨fun p t0 h s hs hopen hsince hnow hlate hrate hlen hbig => ?_, fun p t0 s hs hopen hsince hlate => ?_, fun t0 t1 s hs hopen hsince hr hle => ?_,
    fun p t0 s hbefore => ?_, fun p t0 s hout => ?_, fun p t0 f k s hin hk => ?_, fun p t0 f s hin => ?_⟩
  · have hdue : (frameInTime s p t0 && lengthError h) = true := by
      rw [(frameInTime_iff s p t0).mpr ⟨hopen, hsince, hnow, hlate, hrate⟩, lengthError, hlen, decide_eq_true hbig]; rfl
    refine (act_running _ hs).trans (congrArg _ ((whenDue_true _ _ hdue).trans ?_))
    simp only [countLink, State.onLink, modRx_modRx, resync_eq, addFragment, satInc]
  · have hdue : (hears (rxOf s.link p) t0 && fragmentDue s p t0) = true  := by
      rw [hears_of hopen hsince, fragmentDue, ran_of (dur := 250 * Config.ms) hlate]; rfl
    rw [framePortFragment_due hs hdue]
    simp only [countLink, linkSearching, State.onLink, modRx_modRx, addFragment, satInc]
  · have hdue : (hears (rxOf s.link .station) t0 && fragmentDue s .station t0) = true  := by
      rw [hears_of (rx := rxOf s.link .station) hopen hsince, fragmentDue, cutByRate_of hr hle, Bool.or_true]; rfl
    rw [framePortFragment_due hs hdue]
    simp only [countLink, linkSearching, State.onLink, modRx, addFragment, satInc]
  · have hno : (hears (rxOf s.link p) t0 && fragmentDue s p t0) = false := by simp [hears, hbefore]
    exact (by simp [exec, execFramePortFragment, act, whenDue, hno])
  · have hno := not_frameInTime hout
    refine ⟨fun f => ⟨?_, ?_, fun k => ?_⟩, fun h => ?_, fun r hp ht => ⟨fun c => ?_, fun i c b hi => ?_⟩⟩
    · simp [exec, execSetpointReceived, act, whenDue, hno]
    · simp [exec, execNodeCmdReceived, act, whenDue, hno]
    · simp [exec, execStationFrameDiscarded, act, whenDue, hno]
    · simp [exec, execFramePortLengthError, act, whenDue, hno]
    · simp [exec, execUnknownRequest, act, whenDue, hp, ht, hno]
    · obtain ⟨body, he⟩ := exec_of_requestOf hi
      rw [he, request_untaken (by rw [hp, ht]; exact hno)]
  · refine (comesIn_running hin _).trans (congrArg _ ((if_neg hk).trans ?_))
    simp only [countLink, linkSearching, State.onLink, modRx_modRx, addCheck, satInc]
  · refine ⟨fun hroute => ?_, fun hroute => ?_⟩ <;> refine (comesIn_running hin _).trans (congrArg _ ((if_pos rfl).trans ?_)) <;>
      simp only [linkFrame, hroute, countLink, State.onLink, addAddress, addKind, satInc, frameReceived]

/-- Settles O55. -/
theorem nodeCommandsQueued : Obligations.NodeCommandsQueued := by
  intro p x s hin hroute
  have he : exec (.nodeCmdReceived p x) s = .next (nodeCmdTaken p x.frame (frameReceived p s)) := by
    refine (comesIn_running hin _).trans (congrArg _ ?_)
    simp [linkFrame, hroute, frameReceived]
  dsimp only
  rw [he]
  have hlive : ∀ a, liveOf (frameReceived p s) a = liveOf s a := fun a => by simp [liveOf]
  refine ⟨fun h hd h1 h2 h3 => ?_, fun h hd h1 h2 h3 => ?_, fun h hd h1 => ?_, fun h hd => ?_, fun h => ?_⟩
  · have h3' : ¬8 ≤ s.ring.downQueue.length := by omega
    simp [nodeCmdTaken, nodeCmdInsert, hlive, h, hd, h1, h2, h3', State.onRing]
  · simp [nodeCmdTaken, nodeCmdInsert, hlive, h, hd, h1, h2, h3]
  · simp [nodeCmdTaken, nodeCmdInsert, hlive, h, hd, h1]
  · simp [nodeCmdTaken, nodeCmdInsert, h, hd]
  · simp [nodeCmdTaken, h]

/-! ## The queues upward (R173 to R175) -/

theorem lowestBelow_some {c r : Nat} {q : List UpFrame} (h : lowestBelow c q = some r) :
    r < c ∧ (∃ g ∈ q, g.cls.rank = r) ∧ ∀ x ∈ q, r ≤ x.cls.rank := by
  unfold lowestBelow at h
  have hr : r < c := List.mem_range.mp (List.mem_of_find?_eq_some h)
  refine ⟨hr, by simpa using List.find?_some h, fun x hx => ?_⟩
  by_contra hlt
  push Not at hlt
  obtain ⟨-, as, bs, hsplit, hno⟩ := List.find?_eq_some_iff_append.mp h
  have hmem : x.cls.rank ∈ as := by
    have hlen : as.length = r := by
      have := congrArg (·[as.length]?) hsplit
      have hlen : as.length < c := by have := congrArg List.length hsplit; simp at this; omega
      simpa [List.getElem?_range hlen] using this
    have := congrArg (·[x.cls.rank]?) hsplit
    rw [List.getElem?_append_left (by omega), List.getElem?_range (by omega)] at this
    exact List.mem_of_getElem? this.symm
  have := hno _ hmem
  simp only [Bool.not_eq_eq_eq_not, Bool.not_true, List.any_eq_false, beq_iff_eq] at this
  exact this x hx rfl

theorem lowestBelow_none {c : Nat} {q : List UpFrame} : lowestBelow c q = none ↔ ∀ x ∈ q, c ≤ x.cls.rank := by
  simp only [lowestBelow, List.find?_eq_none, List.mem_range, List.any_eq_true, beq_iff_eq, not_exists, not_and]
  exact ⟨fun h x hx => by by_contra hlt; exact h _ (by omega) x hx rfl, fun h r hr x hx he => absurd (h x hx) (by omega)⟩

/-- The oldest frame of a rank is the one that goes. -/
theorem dropOldest_split {r : Nat} {q : List UpFrame} (h : ∃ g ∈ q, g.cls.rank = r) :
    ∃ a b g, q = a ++ g :: b ∧ dropOldest r q = a ++ b ∧ g.cls.rank = r ∧ ∀ x ∈ a, x.cls.rank ≠ r := by
  obtain ⟨g, hg, hr⟩ := h
  obtain ⟨y, a, b, hno, hy, hq, hd⟩ := List.exists_of_eraseP (p := fun f => f.cls.rank == r) hg (by simpa using hr)
  exact ⟨a, b, y, hq, hd, by simpa using hy, fun x hx => by simpa using hno x hx⟩

theorem QClass.eq_alarm {c : QClass} (h : QClass.alarm.rank ≤ c.rank) : c = .alarm := by cases c <;> simp_all [QClass.rank]

theorem queueJoin_full {f : UpFrame} {l : Link} (h : l.queue.length = 64) : queueJoin f l =
    match lowestBelow f.cls.rank l.queue with
    | some r => { l with queue := dropOldest r l.queue ++ [f], losses := l.losses.modify r satInc }
    | none => { l with losses := l.losses.modify f.cls.rank satInc } := if_neg (by omega)

/-- Settles O56. -/
theorem fullQueueLosesLowest : Obligations.FullQueueLosesLowest := by
  intro f l hfull
  rw [queueJoin_full hfull]
  cases hlow : lowestBelow f.cls.rank l.queue with
  | none =>
    have hall := lowestBelow_none.mp hlow
    refine ⟨fun ⟨g, hg, hlt⟩ => absurd (hall g hg) (by omega), fun _ => rfl, fun ha _ g hg => QClass.eq_alarm (ha ▸ hall g hg)⟩
  | some r =>
    obtain ⟨hlt, hmem, hleast⟩ := lowestBelow_some hlow
    obtain ⟨a, b, g, hq, hd, hg, ha⟩ := dropOldest_split hmem
    refine ⟨fun _ => ⟨a, b, g, hq, congrArg (· ++ [f]) hd, by omega, hg ▸ hleast, fun x hx he => ha x hx (he ▸ hg), by rw [hg]; rfl⟩, fun hall => ?_, fun _ hno => ?_⟩
    · obtain ⟨x, hx, hxr⟩ := hmem
      exact absurd (hall x hx) (by omega)
    · exact absurd (List.mem_append_right _ (List.mem_singleton.mpr rfl)) hno

/-- The highest rank present, by a frame that has it. -/
theorem highest_eq {a b : List UpFrame} {g : UpFrame} (h : ∀ y ∈ a ++ b, y.cls.rank ≤ g.cls.rank) : highest (a ++ g :: b) = g.cls.rank := by
  have hfold : ∀ (q : List UpFrame) (m : Nat), (∀ y ∈ q, y.cls.rank ≤ g.cls.rank) → m ≤ g.cls.rank →
      q.foldl (fun m f => max m f.cls.rank) m ≤ g.cls.rank := by
    intro q
    induction q with
    | nil => exact fun m _ hm => hm
    | cons y q ih => exact fun m hq hm => ih _ (fun z hz => hq z (.tail _ hz)) (max_le hm (hq y (.head _)))
  have hmono : ∀ (q : List UpFrame) (m : Nat), m ≤ q.foldl (fun m f => max m f.cls.rank) m := by
    intro q
    induction q with
    | nil => exact fun m => le_rfl
    | cons y q ih => exact fun m => (le_max_left _ _).trans (ih _)
  rw [highest, List.foldl_append, List.foldl_cons]
  refine le_antisymm (hfold b _ (fun y hy => h y (List.mem_append_right _ hy)) (max_le (hfold a 0 (fun y hy => h y (List.mem_append_left _ hy)) (Nat.zero_le _)) le_rfl))
    ((le_max_right _ _).trans (hmono b _))

/-- Of the frames waiting the oldest of the highest class is taken. -/
theorem highest_found {a b : List UpFrame} {g : UpFrame} (h : ∀ y ∈ a ++ b, y.cls.rank ≤ g.cls.rank) (ha : ∀ y ∈ a, y.cls.rank < g.cls.rank) :
    ((a ++ g :: b).find? fun f => f.cls.rank == highest (a ++ g :: b)) = some g ∧ dropOldest (highest (a ++ g :: b)) (a ++ g :: b) = a ++ b := by
  have hno : ∀ x ∈ a, ¬(x.cls.rank == g.cls.rank) = true := fun x hx => by simpa using (ha x hx).ne
  rw [highest_eq h]
  refine ⟨List.find?_eq_some_iff_append.mpr ⟨by simp, a, b, rfl, fun x hx => by simpa using (ha x hx).ne⟩, ?_⟩
  rw [dropOldest, List.eraseP_append_right _ hno, List.eraseP_cons_of_pos (by simp)]

theorem upDue_some {x : UpTx} {now : Nat} (h : (8 + x.item.frame.payload.length) * 10 * 1000000 ≤ (now - x.since) * x.rate) :
    upDue (some x) now = true := decide_eq_true h

theorem stationTxDone_due {s : State} {x : UpTx} (hs : s.phase = .running) (hx : s.link.queueTx = some x)
    (h : (8 + x.item.frame.payload.length) * 10 * 1000000 ≤ (s.now - x.since) * x.rate) :
    exec .stationTxDone s = .next { s with link := stationTake s.now s.mgmt.ringTables.rate { s.link with queueTx := none } } := by
  have hdue : upDue s.link.queueTx s.now = true := hx ▸ upDue_some h
  simp only [exec, execStationTxDone, act, whenDue, hs, hdue, if_true, State.onLink]

theorem serviceTxDone_due {s : State} {x : UpTx} (hs : s.phase = .running) (hx : s.link.fifoTx = some x)
    (h : (8 + x.item.frame.payload.length) * 10 * 1000000 ≤ (s.now - x.since) * x.rate) :
    exec .serviceTxDone s = .next { s with link := serviceTake s.now { s.link with fifoTx := none } } := by
  have hdue : upDue s.link.fifoTx s.now = true := hx ▸ upDue_some h
  simp only [exec, execServiceTxDone, act, whenDue, hs, hdue, if_true, State.onLink]

/-- Settles O57. -/
theorem nextFrameTaken : Obligations.NextFrameTaken := by
  refine ⟨fun s x a b g hs hx hopen hdue hq hle hlt => ?_, fun s x hs hx hq hdue => ?_, fun s x g b hs hx hopen hdue hq => ?_, fun s x hs hx hq hdue => ?_⟩
  · obtain ⟨hfind, hdrop⟩ := highest_found hle hlt
    rw [stationTxDone_due hs hx hdue]
    simp only [stationTake, Option.isSome_none, hopen, hq, hfind, hdrop, withCount, nextCount, Bool.not_true, Bool.or_false, Bool.false_eq_true, if_false]
  · rw [stationTxDone_due hs hx hdue]
    simp [stationTake, hq]
  · rw [serviceTxDone_due hs hx hdue]
    simp only [serviceTake, Option.isSome_none, hopen, hq, withCount, nextCount, Bool.not_true, Bool.or_false, Bool.false_eq_true, if_false]
  · rw [serviceTxDone_due hs hx hdue]
    simp [serviceTake, hq]

end Sys2Proof.Machine
end

section
/-! Authority and the traffic policy, the force records and the readback of the contactors. -/

namespace Sys2Proof.Machine

/-! ## What a sequencer's reaction leaves of the inputs and the force records -/

theorem setNone_of_none {α : Type} {l : List (Option α)} {o : Nat} (h : l.getD o none = none) : l.set o none = l := by
  refine List.ext_getElem? fun i => ?_
  rw [List.getElem?_set]
  split_ifs with hi hl
  · subst hi
    rw [List.getElem?_eq_getElem hl]
    rw [List.getD_eq_getElem?_getD, List.getElem?_eq_getElem hl] at h
    exact congrArg some h.symm
  · subst hi
    exact (List.getElem?_eq_none (by omega)).symm
  · rfl

theorem endForce_forces (o : Nat) (s : State) : (endForce o s).lines.forces = s.lines.forces.set o none := by
  unfold endForce
  split
  · exact (setNone_of_none ‹_›).symm
  · simp

@[simp] theorem endForce_inputs (o : Nat) (s : State) : (endForce o s).lines.inputs = s.lines.inputs := by
  unfold endForce
  split <;> simp

@[simp] theorem strayStart_inputs (c : Cause) (s : State) : (strayStart c s).lines.inputs = s.lines.inputs := by simp [strayStart]
@[simp] theorem strayStart_forces (c : Cause) (s : State) : (strayStart c s).lines.forces = s.lines.forces := by simp [strayStart]

@[simp] theorem seqTo_inputs (st : SeqState) (s : State) : (seqTo st s).lines.inputs = s.lines.inputs := by
  simp only [seqTo, endContactorForces]
  split_ifs <;> simp

/-- Only leaving OPEN ends forces (R162). -/
theorem seqTo_forces {st : SeqState} {s : State} (h : s.seqr.state ≠ .open_ ∨ st = .open_) : (seqTo st s).lines.forces = s.lines.forces := by
  have hno : ¬(s.seqr.state = .open_ ∧ st ≠ .open_) := by tauto
  simp only [seqTo, hno, if_false]
  split_ifs <;> simp

@[simp] theorem takeBay_inputs (c : Cause) (s : State) : (takeBay c s).lines.inputs = s.lines.inputs := by
  unfold takeBay
  split <;> (try split) <;> simp [tripTo, lockOut]

theorem takeBay_forces {c : Cause} (hc : c ≠ .fire) (s : State) : (takeBay c s).lines.forces = s.lines.forces := by
  unfold takeBay
  split <;> rename_i hst
  case h_4 | h_5 => simp [tripTo, seqTo_forces, hst]
  case h_6 => split <;> simp
  case h_7 => rw [if_neg (by simp [hc])]
  case h_8 | h_9 => rfl
  all_goals simp [seqTo_forces, hst]

@[simp] theorem bayEval_inputs (s : State) : (bayEval s).lines.inputs = s.lines.inputs := by
  simp only [bayEval]
  split_ifs <;> simp
@[simp] theorem bayEval_forces (s : State) : (bayEval s).lines.forces = s.lines.forces := by
  simp only [bayEval]
  split_ifs <;> simp [takeBay_forces]

theorem zonesEvaluated_lines (g : Nat → Bool) (l : List Nat) (s : State) : (l.foldl (fun x z => if g z then zoneEval z x else x) s).lines = s.lines :=
  foldl_keeps State.lines _ (fun b a => by split <;> simp) l s

@[simp] theorem coolSettle_inputs (old : State) (also : Nat → Bool) (s : State) : (coolSettle old also s).lines.inputs = s.lines.inputs := by
  simp only [coolSettle, refreshLines_inputs, bayEval_inputs, zonesEvaluated_lines, followPumps_lines]
@[simp] theorem coolSettle_forces (old : State) (also : Nat → Bool) (s : State) : (coolSettle old also s).lines.forces = s.lines.forces := by
  simp only [coolSettle, refreshLines_forces, bayEval_forces, zonesEvaluated_lines, followPumps_lines]

@[simp] theorem reformOne_inputs (o : Nat) (s : State) : (reformOne o s).lines.inputs = s.lines.inputs := by simp [reformOne]
@[simp] theorem reformOne_forces (o : Nat) (s : State) : (reformOne o s).lines.forces = s.lines.forces := by simp [reformOne]

theorem dropForce_forces (s : State) (o : Nat) : (dropForce s o).lines.forces = s.lines.forces.set o none := by
  unfold dropForce
  split
  · exact (setNone_of_none ‹_›).symm
  · split <;> simp [endForce_forces]

@[simp] theorem dropForce_inputs (s : State) (o : Nat) : (dropForce s o).lines.inputs = s.lines.inputs := by
  unfold dropForce
  split
  · rfl
  · split <;> simp

@[simp] theorem dropAllForces_inputs (s : State) : (dropAllForces s).lines.inputs = s.lines.inputs := by
  simp only [dropAllForces, refreshLines_inputs]
  exact foldl_keeps (fun x => x.lines.inputs) _ (fun b a => dropForce_inputs b a) _ s

theorem dropForces_none (l : List Nat) (s : State) {o : Nat} (h : o ∈ l ∨ s.lines.forces.getD o none = none) :
    (l.foldl dropForce s).lines.forces.getD o none = none := by
  induction l generalizing s with
  | nil => simpa using h
  | cons a l ih =>
    refine ih _ ?_
    rw [dropForce_forces]
    by_cases ha : a = o
    · right
      subst ha
      simp only [List.getD, List.getElem?_set]
      split_ifs <;> rfl
    · refine h.imp (fun hm => (List.mem_cons.mp hm).resolve_left (Ne.symm ha)) fun hn => ?_
      simpa [List.getD, List.getElem?_set, ha] using hn

theorem dropAllForces_none {o : Nat} (h : o < 22) (s : State) : (dropAllForces s).lines.forces.getD o none = none := by
  simp only [dropAllForces, refreshLines_forces]
  exact dropForces_none _ s (.inl (List.mem_range.mpr h))

/-! ## Authority (R171, R172) -/

/-- What a change of the holder leaves. -/
theorem authorityTo_changes {h : FramePort} {reason : Nat} {answered : State → State} {s : State} (hne : s.link.holder ≠ h)
    (hans : ∀ x, (answered x) = { x with link := (answered x).link } ∧ (answered x).link.holder = x.link.holder ∧
      (answered x).link.serviceSince = x.link.serviceSince) :
    let t := authorityTo h reason answered s
    t.link.holder = h ∧ t.link.serviceSince = (if h = .service then some s.now else none) ∧
      t.gate = { s.gate with silenceSince := if h = .station then some s.now else none, silenceStopped := 0 } ∧
      (∀ o, o < 22 → t.lines.forces.getD o none = none) ∧ t.fire = s.fire ∧ t.cell = s.cell ∧ t.loop = s.loop ∧ t.store = s.store := by
  have hfields : ∀ x, (answered x).gate = x.gate ∧ (answered x).fire = x.fire ∧ (answered x).cell = x.cell ∧ (answered x).loop = x.loop ∧
      (answered x).store = x.store ∧ (answered x).now = x.now := fun x => by
    rw [(hans x).1]; exact ⟨rfl, rfl, rfl, rfl, rfl, rfl⟩
  have hholder := fun x => (hans x).2.1
  have hsince := fun x => (hans x).2.2
  simp only [authorityTo, hne, if_false, silenceAuthority]
  refine ⟨?_, ?_, ?_, fun o ho => ?_, ?_, ?_, ?_, ?_⟩
  · simp [hholder]
  · simp [hsince]
  · simp [hholder, hfields]
  · simpa using dropAllForces_none ho _
  · simp [hfields]
  · simp [hfields]
  · simp [hfields]
  · simp [hfields]

theorem authorityAnswer_link (r : Request) (code : Nat) (st : Status) (x : State) :
    authorityAnswer r code st x = { x with link := (authorityAnswer r code st x).link } ∧ (authorityAnswer r code st x).link.holder = x.link.holder ∧
      (authorityAnswer r code st x).link.serviceSince = x.link.serviceSince := ⟨rfl, by simp [authorityAnswer], by simp [authorityAnswer]⟩

/-- The gate's timers at a frame of the Service Port stay. -/
theorem received_gate_service {r : Request} (h : r.port = .service) (s : State) : (received r s).gate = s.gate := by
  simp [received, frameReceived, validFrame, linkSearching, h]

theorem serviceSilenceExpiry_due {s : State} {t0 : Nat} (hs : s.phase = .running) (hh : s.link.holder = .service) (h0 : s.link.serviceSince = some t0)
    (hlate : t0 + 300000000 ≤ s.now) : exec .serviceSilenceExpiry s = .next (authorityTo .station 2 id s) := by
  have hdue : ranOpt s.link.serviceSince (300 * Config.second) s.now = true := by rw [h0]; exact ran_of hlate
  simp only [exec, execServiceSilenceExpiry, act, whenDue, hs, hh, hdue, beq_self_eq_true, Bool.and_true, if_true]

/-- Settles O58. -/
theorem authorityAndPolicy : Obligations.AuthorityAndPolicy := by
  refine ⟨fun r s h ha hp hh => ?_, fun r s h ha hp hh => ?_, fun r s h ha hp => ?_, fun r s h ha hp hh => ?_, fun r s h ha hp => ?_,
    fun r s h ha hp hh => ?_, fun t0 s hs hh h0 hlate => ?_, fun r a b c role p s h ha hrole hused hpol hc => ?_, fun r a b s h ha hlt => ?_⟩
  · refine ⟨_, argsRequest_taken _ h (noArgs_nil ha), ?_⟩
    simp only [takeBody, hp]
    simpa [hp, received_gate_service] using authorityTo_changes (h := .service) (reason := 1) (s := received r s) (by simp [hh]) (authorityAnswer_link r 0x1B .done)
  · refine (argsRequest_taken _ h (noArgs_nil ha)).trans ?_
    simp [takeBody, hp, hh, authorityAnswer, holderCode]
  · refine (argsRequest_taken _ h (noArgs_nil ha)).trans ?_
    cases hport : r.port with
    | station => simp [takeBody, hport, ← hp, authorityAnswer, holderCode]
    | service => simp [takeBody, hport, ← hp, authorityAnswer, authorityTo, holderCode]
  · refine (argsRequest_taken _ h (noArgs_nil ha)).trans ?_
    simp [releaseAuthBody, hp, hh, authorityTo, authorityAnswer, holderCode]
  · refine (argsRequest_taken _ h (noArgs_nil ha)).trans ?_
    cases hh : s.link.holder <;> simp [releaseAuthBody, hp, hh, authorityAnswer, holderCode]
  · refine ⟨_, argsRequest_taken _ h (noArgs_nil ha), ?_⟩
    simp only [releaseAuthBody, hp]
    simpa [hp, received_gate_service] using authorityTo_changes (h := .station) (reason := 1) (s := received r s) (by simp [hh]) (authorityAnswer_link r 0x1C .done)
  · refine ⟨_, serviceSilenceExpiry_due hs hh h0 hlate, ?_⟩
    simpa using authorityTo_changes (h := .station) (reason := 2) (answered := id) (s := s) (by simp [hh]) (fun x => ⟨rfl, rfl, rfl⟩)
  · have hx : forwardArgs r = some (roleIdx role, ⟨p, c.toNat⟩) := by
      have hc' : c.toNat ≠ 0 := fun he => hc (BitVec.eq_of_toNat_eq he)
      simp [forwardArgs, ha, hrole, hpol, hused, hc']
    refine (argsRequest_held _ _ h hx).trans ?_
    simp [done, State.onLink]
  · have hx : enableArgs r = some ((List.range 9).map fun i => i == 4 || (a.toNat * 256 + b.toNat).testBit i) := by
      have hn : a.toNat * 256 + b.toNat < 512 := by have := b.isLt; omega
      simp [enableArgs, ha, getU16, whole, u16, hn]
    refine ⟨by simp, (argsRequest_held _ _ h hx).trans ?_⟩
    simp [done, State.onLink]

/-! ## Force records (R161, R162) -/

theorem modOut_outLive {s : State} {o : Nat} (f : OutLive → OutLive) (h : o < s.cool.outs.length) : outLive (s.onCool (modOut o f)) o = f (outLive s o) := by
  simp [outLive, modOut, List.getElem?_eq_getElem h]

/-- A force under QUIET is the source of its output (R88). -/
theorem forceSet_outLive {o v : Nat} {s : State} (hq : s.fire.state = .quiet) (ho : o < 12) (hlen : o < s.cool.outs.length)
    (hforces : o < s.lines.forces.length) : (outLive (forceSet o v s) o).source = .force ∧ (outLive (forceSet o v s) o).sourceValue = v := by
  set u := raiseNotice (nOutputForce o v) (s.onLines fun l => { l with forces := l.forces.set o (some ⟨v, s.now⟩) }) with hu
  have hout : outLive (forceSet o v s) o = reformOut u o (outLive u o) := by
    have houts : (forceSet o v s).cool.outs = (u.onCool (modOut o (reformOut u o))).cool.outs := by
      rw [forceSet, if_pos ho, refreshLines_cool, reformOne, coolSettle_outs]
    rw [← modOut_outLive (reformOut u o) (show o < u.cool.outs.length by simpa [hu] using hlen), outLive, houts]
    rfl
  have hsource : sourceOf u o (outLive u o).automatic = (.force, v) := by
    have haction : fireAction u o = .auto := by simp [fireAction, hu, hq]
    have hforce : u.lines.forces.getD o none = some ⟨v, s.now⟩ := by simp [hu, hforces]
    rw [sourceOf, haction, hforce]
  rw [hout]
  simp [reformOut, immediate, shapeOut, hsource]

theorem forceSet_frame (o v : Nat) (s : State) : (forceSet o v s).lines.forces = s.lines.forces.set o (some ⟨v, s.now⟩) ∧
    (forceSet o v s).lines.inputs = s.lines.inputs ∧ (forceSet o v s).fire = s.fire ∧ (forceSet o v s).cell = s.cell ∧ (forceSet o v s).loop = s.loop ∧
    (forceSet o v s).store = s.store := by
  unfold forceSet
  dsimp only
  split <;> simp

theorem forceSet_switched {o v : Nat} (ho : 12 ≤ o) (s : State) :
    (forceSet o v s).cool = s.cool ∧ (forceSet o v s).seqr = s.seqr ∧ (forceSet o v s).env = s.env := by
  simp [forceSet, ho.not_gt]

theorem isContactor_iff (o : Nat) : isContactor o = true ↔ o = 14 ∨ o = 15 ∨ o = 16 := by simp [isContactor, or_assoc]

/-- A byte above 1 is no flag. -/
theorem getBool_byte {x : Byte} (h : 1 < x.toNat) : getBool [x] = none := by
  unfold getBool getU8
  split <;> simp_all

theorem whole_getBool_long (x y : Byte) (r : List Byte) : whole (getBool (x :: y :: r)) = none := by
  unfold getBool getU8
  split
  · rename_i h
    obtain ⟨-, rfl⟩ := Prod.mk.inj (Option.some.inj h)
    rfl
  · rename_i h
    obtain ⟨-, rfl⟩ := Prod.mk.inj (Option.some.inj h)
    rfl
  · rfl

theorem forceArgs_invalid {r : Request} {o : Byte} {b : List Byte} (ha : r.args = o :: b)
    (h : 22 ≤ o.toNat ∨ o.toNat = 12 ∨ o.toNat = 13 ∨ o.toNat = 17 ∨ (o.toNat < 12 ∧ ∀ x y, b = [x, y] → 1000 < x.toNat * 256 + y.toNat) ∨
      (12 ≤ o.toNat ∧ ∀ x, b = [x] → 1 < x.toNat)) : forceArgs r = none := by
  simp only [forceArgs, ha, getU8]
  by_cases hf : forceable o.toNat = true
  · have hf' : o.toNat < 22 ∧ o.toNat ≠ 12 ∧ o.toNat ≠ 13 ∧ o.toNat ≠ 17 := by simpa [forceable, and_assoc] using hf
    rw [hf, if_neg (by simp)]
    split
    · rename_i hlt
      have hval : ∀ x y, b = [x, y] → 1000 < x.toNat * 256 + y.toNat := by
        obtain h | h | h | h | ⟨-, h⟩ | ⟨h, -⟩ := h <;> [omega; omega; omega; omega; exact h; omega]
      match b with
      | [] | [_] | _ :: _ :: _ :: _ => rfl
      | [x, y] => simp [getU16, whole, u16, hval x y rfl]
    · have hval : ∀ x, b = [x] → 1 < x.toNat := by
        obtain h | h | h | h | ⟨h, -⟩ | ⟨-, h⟩ := h <;> [omega; omega; omega; omega; omega; exact h]
      match b with
      | [] => rfl
      | [x] => rw [getBool_byte (hval x rfl)]; rfl
      | x :: y :: r => rw [whole_getBool_long]; rfl
  · simp [hf]

/-- Settles O52. -/
theorem forceRecords : Obligations.ForceRecords := by
  refine ⟨fun r o v s h ha hq hc => ?_, fun r o v s h ha hno => ?_, fun r o b s h ha hbad => ?_, fun r s h ha => ?_, fun o x s hs hx hlate => ?_⟩
  · have hset : forceBody r (o, v) (received r s) = done r 0x19 [] (forceSet o v (received r s)) := by
      have hopen : (isContactor o && s.seqr.state != .open_) = false := by
        cases hi : isContactor o
        · rfl
        · simpa using hc ((isContactor_iff o).mp hi)
      simp [forceBody, hq, hopen]
    refine ⟨_, (argsRequest_held _ _ h ha).trans (by rw [hset]), ?_⟩
    obtain ⟨h1, h2, h3, h4, h5, h6⟩ := forceSet_frame o v (received r s)
    refine ⟨by simp [done, h1], by simp [done, h2], by simp [done, h3], by simp [done, h4], by simp [done, h5], by simp [done, h6], fun ho hlen hforces => ?_,
      fun ho => ?_⟩
    · simpa [done, outLive] using forceSet_outLive (v := v) (s := received r s) (by simpa using hq) ho (by simpa using hlen) (by simpa using hforces)
    · simpa [done] using forceSet_switched (v := v) ho (received r s)
  · refine (argsRequest_held _ _ h ha).trans ?_
    have hrefused : (decide (s.fire.state ≠ .quiet) || (isContactor o && s.seqr.state != .open_)) = true := by
      obtain hf | ⟨ho, hst⟩ := hno
      · simp [hf]
      · simp [(isContactor_iff o).mpr ho, hst]
    simp only [forceBody, received_fire, received_seqr, hrefused, if_true]
  · exact argsRequest_invalid _ _ h (forceArgs_invalid ha hbad)
  · refine ⟨_, argsRequest_held _ _ h (noArgs_nil ha), fun o ho => ?_, ?_, ?_, ?_, ?_, ?_⟩
    · simpa [done] using dropAllForces_none ho _
    all_goals simp [done]
  · have hdue : forceDue s o = true := by rw [forceDue, hx]; exact ran_of hlate
    refine ⟨refreshLines (dropForce s o), by simp only [exec, execForceExpiry, act, whenDue, hs, hdue, if_true], ?_⟩
    simp [dropForce_forces]

/-! ## Readback (R163, R164) -/

/-- The outputs of the two contactors have no interlock and read nothing that a composition writes. -/
theorem composed_contactor_congr {s t : State} (c : Contactor) (hseqr : t.seqr = s.seqr) (hforces : t.lines.forces = s.lines.forces) :
    composed t (contOutput c) = composed s (contOutput c) := by
  cases c <;> simp [composed, interlocked, demand, contOutput, hseqr, hforces]

theorem composeAll_outLevel (c : Contactor) (s : State) : outLevel (composeAll s) (contOutput c) = composed s (contOutput c) := by
  have hout : outLevel (composeAll s) (contOutput c) = composed (s.onLines fun l => { l with cut := cutNow s }) (contOutput c) := by
    cases c <;> simp [outLevel, composeAll, contOutput, List.range_succ]
  rw [hout]
  exact composed_contactor_congr c rfl rfl

@[simp] theorem faultEval_readback (c : Contactor) (s : State) : readbackOf (faultEval s).lines c = readbackOf s.lines c := by
  cases c <;> simp [faultEval, readbackOf]
@[simp] theorem composeAll_readback (c : Contactor) (s : State) : readbackOf (composeAll s).lines c = readbackOf s.lines c := by cases c <;> rfl
theorem readbackEval_same (c : Contactor) (s : State) : readbackOf (readbackEval c s).lines c =
    readbackNext (readbackOf s.lines c) (outLevel s (contOutput c)) (inputReads s (contAux c)) s.now := by
  cases c <;> simp [readbackEval, readbackOf, setReadback]

theorem readbackEval_neg_pos (s : State) : (readbackEval .neg s).lines.pos = s.lines.pos := by simp [readbackEval, setReadback]
theorem readbackEval_outLevel (c : Contactor) (s : State) (o : Nat) : outLevel (readbackEval c s) o = outLevel s o := by
  cases c <;> simp [outLevel, readbackEval, setReadback]
theorem readbackEval_pos_neg (s : State) : (readbackEval .pos s).lines.neg = s.lines.neg := by simp [readbackEval, setReadback]
theorem readbackEval_reads (c : Contactor) (s : State) (i : Input) : inputReads (readbackEval c s) i = inputReads s i := by simp [inputReads]

/-- What composition under control makes of a contactor's readback. -/
theorem refreshLines_readback (c : Contactor) {s : State} (h : s.lines.control = true) : readbackOf (refreshLines s).lines c =
    readbackNext (readbackOf s.lines c) (composed s (contOutput c)) (inputReads s (contAux c)) s.now := by
  rw [refreshLines, if_pos h, composeAll_readback, faultEval_readback]
  cases c with
  | pos =>
    have hpos : readbackOf (readbackEval .neg (readbackEval .pos (composeAll s))).lines .pos = readbackOf (readbackEval .pos (composeAll s)).lines .pos :=
      readbackEval_neg_pos _
    rw [hpos, readbackEval_same, composeAll_outLevel]
    rfl
  | neg =>
    have hneg : readbackOf (readbackEval .pos (composeAll s)).lines .neg = readbackOf (composeAll s).lines .neg := readbackEval_pos_neg _
    rw [readbackEval_same, hneg, readbackEval_outLevel, composeAll_outLevel, readbackEval_reads]
    simp [inputReads]

theorem faultEval_faults (s : State) : (faultEval s).lines.faults = faultsNow s := by simp [faultEval]

theorem refreshLines_faults {s : State} (h : s.lines.control = true) : (refreshLines s).lines.faults.readback = readbackFault (refreshLines s) := by
  rw [refreshLines, if_pos h]
  have hf : ∀ x, (composeAll (faultEval x)).lines.faults.readback = readbackFault (composeAll (faultEval x)) := fun x => by
    have h1 : (composeAll (faultEval x)).lines.faults = faultsNow x := faultEval_faults x
    rw [h1]
    simp [faultsNow, readbackFault, composeAll, faultEval]
  exact hf _

/-- The state in which the readback fault of a contactor has been set, before it is taken as a cause. -/
def readbackSet (c : Contactor) (s : State) : State := refreshLines (raiseNotice (nReadbackFault c true) (s.onLines fun l => setReadback c ⟨none, true⟩ l))

theorem readbackTimeout_due {c : Contactor} {t0 : Nat} {s : State} (hs : s.phase = .running) (hr : readbackOf s.lines c = ⟨some t0, false⟩)
    (hlate : t0 + 200000 ≤ s.now) : exec (.readbackTimeout c) s = .next (refreshLines (takeBay .readback (readbackSet c s))) := by
  have hdue : readbackDue (readbackOf s.lines c) s.now = true := by
    have hran : ran t0 (200 * Config.ms) s.now = true := ran_of hlate
    simp only [readbackDue, hr, ranOpt, hran, Bool.not_false, Bool.and_self]
  simp only [exec, execReadbackTimeout, act, whenDue, hs, hdue, if_true, readbackExpire, readbackSet]

theorem readbackFault_of (c : Contactor) {s : State} (h : (readbackOf s.lines c).fault = true) : readbackFault s = true := by
  cases c <;> simp_all [readbackFault, readbackOf]

/-- A state change that neither leaves nor enters CONNECTED changes the sequencer, the lines and the link alone. -/
theorem seqTo_frame {st : SeqState} {s : State} (h1 : s.seqr.state ≠ .connected) (h2 : st ≠ .connected) :
    seqTo st s = { s with seqr := (seqTo st s).seqr, lines := (seqTo st s).lines, link := (seqTo st s).link } := by
  have henv : (seqTo st s).env = s.env := by
    simp only [seqTo, h1, h2, false_and, if_false]
    split_ifs <;> simp
  have hring : (seqTo st s).ring = s.ring := by
    simp only [seqTo, h1, h2, false_and, if_false]
    split_ifs <;> simp
  refine State.eq_of_fields _ _ ?_ ?_ ?_ hring ?_ henv ?_ ?_ ?_ ?_ ?_ ?_ ?_ ?_ ?_ ?_ <;> simp

theorem takeBay_precharged {c : Cause} {s : State} (h : s.seqr.state = .precharge ∨ s.seqr.state = .dcReady ∨ s.seqr.state = .recloseWait) :
    takeBay c s = seqTo .opening (raiseNotice (nSeqTrip false c s.seqr.reclose) s) := by
  obtain h | h | h := h <;> simp [takeBay, h]

theorem takeBay_open {c : Cause} {s : State} (h : s.seqr.state = .open_) (hc : c ≠ .fire) : takeBay c s = s := by simp [takeBay, h, hc]

/-- The disagreement goes on at a composition: the flag stays, and its timer stays stopped. -/
theorem refreshLines_readback_kept {c : Contactor} {a : Bool} {s : State} (h : s.lines.control = true) (hr : readbackOf s.lines c = ⟨none, true⟩)
    (ha : inputReads s (contAux c) = some a) (hne : a ≠ composed s (contOutput c)) : readbackOf (refreshLines s).lines c = ⟨none, true⟩ := by
  simp [refreshLines_readback c h, hr, ha, readbackNext, hne]

theorem readbackOf_setReadback (c : Contactor) (r : Readback) (l : Lines) : readbackOf (setReadback c r l) c = r := by cases c <;> rfl

theorem linesCurrent_contactor {s : State} (h : linesCurrent s) (hc : s.lines.control = true) (c : Contactor) :
    composed s (contOutput c) = outLevel s (contOutput c) := by
  cases c
  · rw [contOutput, outLevel_composed (i := 3) h (by decide), hc]; rfl
  · rw [contOutput, outLevel_composed (i := 4) h (by decide), hc]; rfl

/-- Settles O53. -/
theorem readbackFaultTrips : Obligations.ReadbackFaultTrips := by
  intro c t0 s hs hr hlate
  have hframe : readbackSet c s = { s with lines := (readbackSet c s).lines, link := (readbackSet c s).link } := by
    apply State.eq_of_fields <;> simp [readbackSet]
  have hseqr : (readbackSet c s).seqr = s.seqr := by rw [hframe]
  obtain ⟨htrip, -, hopen, -, -, hrest⟩ := takeBay_taken .readback (readbackSet c s) (by decide)
  rw [readbackTimeout_due hs hr hlate]
  refine ⟨fun hst => ⟨_, rfl, ?_⟩, fun hst => ⟨_, rfl, ?_⟩, fun a hst hcur hctl ha hne => ?_⟩
  · obtain ⟨h1, h2, -⟩ := htrip (hseqr ▸ hst)
    refine ⟨by simpa using h1, by simpa using h2, ?_, ?_, ?_⟩ <;> simp [readbackSet]
  · obtain ⟨h1, h2⟩ := hopen (hseqr ▸ hst)
    refine ⟨by simpa using h1, by simpa [readbackSet] using h2, ?_⟩
    rw [takeBay_precharged (hseqr ▸ hst), seqTo_frame (by obtain h | h | h := hst <;> simp [hseqr, h]) (by decide)]
    apply State.eq_of_fields <;> simp [readbackSet]
  · rw [takeBay_open (by rw [hseqr]; exact hst) (by decide)]
    set u := raiseNotice (nReadbackFault c true) (s.onLines fun l => setReadback c ⟨none, true⟩ l) with hu
    have hcontrol : u.lines.control = true := by cases c <;> simp [hu, setReadback, hctl]
    have hcomp : composed u (contOutput c) = outLevel s (contOutput c) :=
      (composed_contactor_congr c (by simp [hu]) (by cases c <;> simp [hu, setReadback])).trans (linesCurrent_contactor hcur hctl c)
    have hreads : inputReads u (contAux c) = some a := by rw [← ha]; cases c <;> simp [inputReads, hu, setReadback]
    have hset : readbackOf u.lines c = ⟨none, true⟩ := by simp [hu, readbackOf_setReadback]
    have hkept := refreshLines_readback_kept hcontrol hset hreads (by rwa [hcomp])
    have hcontrol' : (readbackSet c s).lines.control = true := (refreshLines_control u).trans hcontrol
    have hcomp' : composed (readbackSet c s) (contOutput c) = composed u (contOutput c) := composed_contactor_congr c (by simp [readbackSet, hu]) (by simp [readbackSet, hu])
    have hagain : readbackOf (refreshLines (readbackSet c s)).lines c = ⟨none, true⟩ :=
      refreshLines_readback_kept hcontrol' hkept (((refreshLines_tidy u).reads _).trans hreads) (by rwa [hcomp', hcomp])
    refine ⟨_, rfl, hagain, ?_, by simp [hseqr], ?_⟩
    · rw [refreshLines_faults hcontrol', readbackFault_of c (by rw [hagain])]
    · apply State.eq_of_fields <;> simp [readbackSet]

end Sys2Proof.Machine
end

section
/-! The channels of a module and CLEAR_TRIPS, the computation of the envelope, the setpoint gate and the reading requests. -/

namespace Sys2Proof.Machine

/-! ## One channel (R31 to R34) -/

theorem condHolds_iff {p : Profile} {r : Option Int} {c : Cond} (h : c.isTrip = false) : condHolds p r c = true ↔ staysIn p r c := by
  cases c
  case uvTrip | ovTrip | otTrip => cases h
  all_goals cases r <;> simp [condHolds, staysIn]

/-- The channel after R33 on the condition `b` it holds or has fallen to. -/
theorem chanRise_of (p : Profile) (c : Cond) (x : Chan) :
    (c.rank ≤ x.cond.rank → chanRise p c x = { x with dwell := 0, level := none }) ∧
    (x.cond.rank < c.rank → chanRise p c x =
      if p.dwell ≤ x.dwell + 1 then { x with cond := levelNext c x.level, dwell := 0, level := none, latched := (levelNext c x.level).isTrip }
      else { x with dwell := x.dwell + 1, level := some (levelNext c x.level) }) :=
  ⟨fun h => if_neg (by omega), fun h => if_pos h⟩

theorem levelNext_none (c : Cond) : levelNext c none = c := rfl
theorem levelNext_some (c l : Cond) : levelNext c (some l) = if c.rank < l.rank ∨ (c.rank = l.rank ∧ c ≠ l) then c else l := rfl

section
variable {k : ChanKind} {p : Profile} {x : Chan} {r : Option Int}

theorem chanEval_stays (hl : x.latched = false) (ht : x.cond.isTrip = false) (h : staysIn p r x.cond) :
    chanEval k p r x = chanRise p (candidate k p r) { x with value := r } := by
  simp [chanEval, hl, chanFall, (condHolds_iff ht).mpr h]

theorem chanEval_falls (hl : x.latched = false) (ht : x.cond.isTrip = false) (h : ¬staysIn p r x.cond) :
    chanEval k p r x = chanRise p (candidate k p r) { x with value := r, cond := fallTo x.cond (candidate k p r), dwell := 0, level := none } := by
  have hno : condHolds p r x.cond = false := Bool.eq_false_iff.mpr fun hc => h ((condHolds_iff ht).mp hc)
  simp [chanEval, hl, chanFall, hno]

theorem chanEval_latched (hl : x.latched = true) : chanEval k p r x = { x with value := r, dwell := 0, level := none } := by simp [chanEval, hl]

theorem fallTo_eq (c k : Cond) : fallTo c k = if c ≠ .unknown ∧ k.warning.rank < c.rank then k.warning else .normal := by
  unfold fallTo
  by_cases h : c = .unknown <;> simp [h]

end

/-- The pending level after a run of samples that count (R33). -/
def levelAfter (k : ChanKind) (p : Profile) (rs : List (Option Int)) : Option Cond :=
  rs.foldl (fun l r => some (levelNext (candidate k p r) l)) none

theorem levelAfter_snoc (k : ChanKind) (p : Profile) (rs : List (Option Int)) (r : Option Int) :
    levelAfter k p (rs ++ [r]) = some (levelNext (candidate k p r) (levelAfter k p rs)) := by simp [levelAfter]

/-- The pending level is the least severe of the run. -/
theorem levelAfter_least (k : ChanKind) (p : Profile) {rs : List (Option Int)} {l : Cond} (h : levelAfter k p rs = some l) :
    (∃ r ∈ rs, l = candidate k p r) ∧ ∀ r ∈ rs, l.rank ≤ (candidate k p r).rank := by
  induction rs using List.reverseRecOn generalizing l with
  | nil => cases h
  | append_singleton rs r ih =>
    rw [levelAfter_snoc] at h
    obtain rfl := Option.some.inj h
    cases hb : levelAfter k p rs with
    | none =>
      have hnil : rs = [] := by
        obtain rfl | ⟨q, z, rfl⟩ := rs.eq_nil_or_concat
        · rfl
        · rw [List.concat_eq_append, levelAfter_snoc] at hb; cases hb
      subst hnil
      simp [levelNext_none]
    | some b =>
      obtain ⟨⟨r0, hr0, hb0⟩, hmin⟩ := ih hb
      rw [levelNext_some]
      split_ifs with hlow
      · refine ⟨⟨r, by simp, rfl⟩, fun z hz => ?_⟩
        obtain hz | hz := List.mem_append.mp hz
        · have := hmin z hz
          omega
        · rw [List.mem_singleton.mp hz]
      · refine ⟨⟨r0, by simp [hr0], hb0⟩, fun z hz => ?_⟩
        obtain hz | hz := List.mem_append.mp hz
        · exact hmin z hz
        · rw [List.mem_singleton.mp hz]; omega

section
variable {k : ChanKind} {p : Profile} {x : Chan} {rs : List (Option Int)}

/-- A run that is shorter than the dwell leaves the condition, and counts. -/
theorem run_counts (ht : x.cond.isTrip = false) (hl : x.latched = false) (hd : x.dwell = 0) (hn : x.level = none)
    (hall : ∀ r ∈ rs, staysIn p r x.cond ∧ x.cond.rank < (candidate k p r).rank) (hlen : rs.length < p.dwell) :
    ∃ v, rs.foldl (fun x r => chanEval k p r x) x = { x with value := v, dwell := rs.length, level := levelAfter k p rs } := by
  induction rs using List.reverseRecOn with
  | nil => exact ⟨x.value, by cases x; simp_all [levelAfter]⟩
  | append_singleton rs r ih =>
    rw [List.length_append, List.length_singleton] at hlen
    obtain ⟨v, hv⟩ := ih (fun r hr => hall r (by simp [hr])) (by omega)
    obtain ⟨hstay, hrank⟩ := hall r (by simp)
    refine ⟨r, ?_⟩
    rw [List.foldl_append, hv, List.foldl_cons, List.foldl_nil, chanEval_stays (by exact hl) (by exact ht) (by exact hstay), (chanRise_of _ _ _).2 (by exact hrank),
      if_neg (by simp; omega), levelAfter_snoc]
    simp

/-- At the dwell-th sample the least severe of the run is taken. -/
theorem run_raises (ht : x.cond.isTrip = false) (hl : x.latched = false) (hd : x.dwell = 0) (hn : x.level = none) (hdwell : 1 ≤ p.dwell)
    (hall : ∀ r ∈ rs, staysIn p r x.cond ∧ x.cond.rank < (candidate k p r).rank) (hlen : rs.length = p.dwell) :
    ∃ v l, levelAfter k p rs = some l ∧
      rs.foldl (fun x r => chanEval k p r x) x = { x with value := v, cond := l, dwell := 0, level := none, latched := l.isTrip } := by
  obtain rfl | ⟨q, r, rfl⟩ := rs.eq_nil_or_concat
  · simp at hlen; omega
  · rw [List.concat_eq_append] at *
    rw [List.length_append, List.length_singleton] at hlen
    obtain ⟨v, hv⟩ := run_counts (rs := q) ht hl hd hn (fun r hr => hall r (by simp [hr])) (by omega)
    obtain ⟨hstay, hrank⟩ := hall r (by simp)
    refine ⟨r, _, levelAfter_snoc k p q r, ?_⟩
    rw [List.foldl_append, hv, List.foldl_cons, List.foldl_nil, chanEval_stays (by exact hl) (by exact ht) (by exact hstay), (chanRise_of _ _ _).2 (by exact hrank),
      if_pos (by simp; omega)]

end

/-- Settles O28. -/
theorem dwellAndLatch : Obligations.DwellAndLatch := by
  refine ⟨fun k p x r hl ht => ⟨fun hs => ?_, fun hs => ?_⟩, fun k p x rs ht hl hd hn hdwell hlen hall => ?_,
    fun k p c x rs hc hl hd hn hdwell hrank hall hlen => ?_, fun k p x rs r hl => ?_⟩
  · rw [chanEval_stays hl ht hs]
    exact ⟨fun h => (chanRise_of _ _ _).1 h, fun h => ⟨_, fun hn => by rw [hn]; rfl, fun l0 h0 => by rw [h0]; rfl, (chanRise_of _ _ _).2 h⟩⟩
  · rw [chanEval_falls hl ht hs, ← fallTo_eq]
    exact ⟨fun h => (chanRise_of _ _ _).1 h, fun h => ⟨_, fun _ => rfl, by rintro _ ⟨⟩, (chanRise_of _ _ _).2 h⟩⟩
  · obtain ⟨v, l, hlev, hy⟩ := run_raises (k := k) ht hl hd hn hdwell (fun r hr => (hall r hr)) hlen
    obtain ⟨hmem, hleast⟩ := levelAfter_least k p hlev
    dsimp only
    rw [hy]
    exact ⟨hmem, hleast, rfl, rfl, rfl⟩
  · have hcounts : ∀ r ∈ rs, staysIn p r x.cond ∧ x.cond.rank < (candidate k p r).rank := fun r hr => by
      rw [hc, hall r hr]; exact ⟨trivial, hrank⟩
    have ht : x.cond.isTrip = false := by rw [hc]; rfl
    refine ⟨fun hlt => ?_, fun heq => ?_⟩
    · obtain ⟨v, hy⟩ := run_counts ht hl hd hn hcounts hlt
      rw [hy]
      exact ⟨hc, hl, rfl⟩
    · obtain ⟨v, l, hlev, hy⟩ := run_raises ht hl hd hn hdwell hcounts heq
      obtain ⟨⟨r0, hr0, hl0⟩, -⟩ := levelAfter_least k p hlev
      rw [hy, hl0, hall r0 hr0]
      exact ⟨rfl, rfl, rfl, rfl⟩
  · have hrun : ∀ rs : List (Option Int), ∃ v d l, rs.foldl (fun x r => chanEval k p r x) x = { x with value := v, dwell := d, level := l } := by
      intro rs
      induction rs using List.reverseRecOn with
      | nil => exact ⟨_, _, _, rfl⟩
      | append_singleton rs r ih =>
        obtain ⟨v, d, l, hv⟩ := ih
        exact ⟨r, 0, none, by rw [List.foldl_append, hv, List.foldl_cons, List.foldl_nil, chanEval_latched (by exact hl)]⟩
    obtain ⟨v, d, l, hv⟩ := hrun rs
    rw [List.foldl_append, hv, List.foldl_cons, List.foldl_nil, chanEval_latched (by exact hl)]

/-! ## CLEAR_TRIPS (R38) -/

theorem recOf_changeRec_ne {a b : Nat} (h : b ≠ a) (f : ModuleRec → ModuleRec) (s : State) : recOf (changeRec a f s) b = recOf s b := by
  unfold changeRec
  split
  · rfl
  · rename_i m hm
    cases a with
    | zero => cases hm
    | succ k =>
      cases b with
      | zero => rfl
      | succ j =>
        have hne : k ≠ j := fun he => h (by rw [he])
        simp [recOf, hne]

theorem recOf_changeRec_none {a : Nat} {f : ModuleRec → ModuleRec} {s : State} (h : recOf s a = none) : changeRec a f s = s := by
  simp only [changeRec, h]

/-- One change to the Module Record of each address of a list, in turn. -/
theorem foldl_changeRec {g : State → Nat → ModuleRec → ModuleRec} {s : State} (hg : ∀ t : State, t.ring = s.ring → t.mgmt = s.mgmt → g t = g s)
    {l : List Nat} (hl : l.Nodup) :
    let t := l.foldl (fun t a => changeRec a (g t a) t) s
    t = { s with cell := t.cell, link := t.link } ∧ (∀ a, a ∉ l ∨ recOf s a = none → recOf t a = recOf s a) ∧
      ∀ a ∈ l, ∀ m, recOf s a = some m → recOf t a = some { g s a m with cond := moduleCond (g s a m) } := by
  dsimp only
  induction l generalizing s with
  | nil => exact ⟨rfl, fun _ _ => rfl, fun a ha => nomatch ha⟩
  | cons b l ih =>
    obtain ⟨hb, hl⟩ := List.nodup_cons.mp hl
    have hframe := changeRec_frame b (g s b) s
    have hsame : g (changeRec b (g s b) s) = g s := hg _ (by rw [hframe]) (by rw [hframe])
    obtain ⟨h1, h2, h3⟩ := ih (s := changeRec b (g s b) s) (fun t hr hm => by rw [hsame]; exact hg t (by rw [hr, hframe]) (by rw [hm, hframe])) hl
    rw [List.foldl_cons]
    refine ⟨h1.trans (by rw [hframe]), fun a ha => ?_, fun a ha m hm => ?_⟩
    · by_cases hab : a = b
      · subst hab
        obtain ha | ha := ha
        · exact absurd List.mem_cons_self ha
        · rw [recOf_changeRec_none ha] at *
          exact h2 a (.inr ha)
      · have he := recOf_changeRec_ne hab (g s b) s
        rw [h2 a (ha.imp (fun hn hm => hn (.tail _ hm)) fun hn => he.trans hn), he]
    · by_cases hab : a = b
      · subst hab
        rw [h2 a (.inl hb)]
        exact recOf_changeRec a (g s a) s m hm
      · rw [h3 a ((List.mem_cons.mp ha).resolve_left hab) m ((recOf_changeRec_ne hab _ _).trans hm), hsame]

theorem ringAddrs_nodup : ringAddrs.Nodup := (List.nodup_range).map (add_left_injective 1)
theorem mem_ringAddrs {a : Nat} : a ∈ ringAddrs ↔ 1 ≤ a ∧ a ≤ 40 := by
  simp only [ringAddrs, List.mem_map, List.mem_range]
  exact ⟨by rintro ⟨i, hi, rfl⟩; omega, fun h => ⟨a - 1, by omega, by omega⟩⟩

theorem profileOf_congr {s t : State} (h : t.mgmt = s.mgmt) (a : Nat) : profileOf t a = profileOf s a := by simp [profileOf, cfgOf, h]

/-- Every Module Record is cleared by its profile. -/
theorem clearTrips_records (s : State) : clearTrips s = { s with cell := (clearTrips s).cell, link := (clearTrips s).link } ∧
    ∀ a m, 1 ≤ a → a ≤ 40 → recOf s a = some m → recOf (clearTrips s) a =
      some { recClear (profileOf s a) m with cond := moduleCond (recClear (profileOf s a) m) } := by
  obtain ⟨h1, -, h3⟩ := foldl_changeRec (g := fun t a => recClear (profileOf t a)) (s := s) (fun t _ hm => by funext a; rw [profileOf_congr hm]) ringAddrs_nodup
  exact ⟨h1, fun a m hlo hhi hm => h3 a (mem_ringAddrs.mpr ⟨hlo, hhi⟩) m hm⟩

theorem latchedCount_eq (s : State) : latchedCount s = (s.cell.recs.map fun o => match o with
    | some m => ((m.cells ++ m.temps).filter (·.latched)).length
    | none => 0).sum := by
  rw [latchedCount, List.length_flatMap]
  congr 1
  refine List.map_congr_left fun o _ => ?_
  cases o <;> rfl

theorem runawayCount_eq (s : State) : runawayCount s = (s.cell.recs.filter fun o => o.any (·.runaway)).length := by
  rw [runawayCount]
  congr 1
  refine List.filter_congr fun o _ => ?_
  cases o <;> rfl

theorem chanClear_of {k : ChanKind} {p : Profile} {x : Chan} (hl : x.latched = true) : (clearable p x = true →
    chanClear k p x = { x with cond := candidate k p x.value, latched := (candidate k p x.value).isTrip, dwell := 0, level := none }) ∧
    (clearable p x = false → chanClear k p x = x) := by
  refine ⟨fun h => ?_, fun h => ?_⟩ <;> simp [chanClear, hl, h]

/-- Settles O29. -/
theorem clearTripsRequest : Obligations.ClearTripsRequest := by
  refine ⟨fun r s h ha => ?_, fun p x v hl hc hv => ⟨fun hlt => ?_, fun hle => ?_⟩, fun p x v hl hc hv => ⟨fun hlt => ?_, fun hle => ?_⟩,
    fun p x v hl hc hv => ⟨fun hlt => ?_, fun hle => ?_⟩, fun k p x h => ?_⟩
  · obtain ⟨hframe, hrecs⟩ := clearTrips_records (received r s)
    have he : exec (.clearTrips r) s = .next (answer r 0x10 .done (encU16 (latchedCount (clearTrips (received r s))) ++
        encU8 (runawayCount (clearTrips (received r s)))) (clearTrips (received r s))) := argsRequest_held _ _ h (noArgs_nil ha)
    refine ⟨_, he, ⟨(clearTrips (received r s)).link, ?_⟩, fun a m hlo hhi hm => ?_⟩
    · rw [latchedCount_eq, runawayCount_eq, answer_cell, ← hframe] <;> rfl
    · have hrec : recOf (received r s) a = some m := by rw [← hm]; unfold recOf; rw [received_cell]
      have hcleared := hrecs a m hlo hhi hrec
      rw [profileOf_congr (received_mgmt r s)] at hcleared
      refine ⟨{ recClear (profileOf s a) m with cond := moduleCond (recClear (profileOf s a) m) }, ?_, rfl, rfl, rfl, rfl⟩
      rw [← hcleared]; unfold recOf; rw [answer_cell]
  · rw [(chanClear_of hl).1 (by simp [clearable, hv, hc, hlt]), hv]
  · exact (chanClear_of hl).2 (by simp [clearable, hv, hc]; omega)
  · rw [(chanClear_of hl).1 (by simp [clearable, hv, hc, hlt]), hv]
  · exact (chanClear_of hl).2 (by simp [clearable, hv, hc]; omega)
  · rw [(chanClear_of hl).1 (by simp [clearable, hv, hc, hlt]), hv]
  · exact (chanClear_of hl).2 (by simp [clearable, hv, hc]; omega)
  · obtain h | h := h <;> simp [chanClear, clearable, h]

end Sys2Proof.Machine
end

section
/-! The computation of the envelope, the setpoint gate and the reading requests. -/

namespace Sys2Proof.Machine

/-! ## The computation of the envelope (R51 to R59) -/

/-- The gates of Table 3-4 that hold. -/
def gatesNow (b : BaySummary) (s : State) : List Nat := gateCodes.filter (gateHolds s b)

/-- The targets of a computation (R57). -/
def chgTargetNow (b : BaySummary) (bay : CoolState) (s : State) : Nat :=
  targetOf ((gatesNow b s).any closesCharge) s.mgmt.ringTables.envelope.ratings.chgRated (minCharge (factorsOf s.mgmt.ringTables.envelope b bay s.seqr.blind))
def disTargetNow (b : BaySummary) (bay : CoolState) (s : State) : Nat :=
  targetOf ((gatesNow b s).any closesDischarge) s.mgmt.ringTables.envelope.ratings.disRated
    (minDischarge (factorsOf s.mgmt.ringTables.envelope b bay s.seqr.blind))

theorem envelopeCompute_env (b : BaySummary) (bay : CoolState) (s : State) : (envelopeCompute b bay s).env =
    { chg := moveLimit ((gatesNow b s).any closesCharge) (chgTargetNow b bay s) s.env.chg (stepOf s.mgmt.ringTables.envelope.ratings.upSlope b.elapsed)
        (stepOf s.mgmt.ringTables.envelope.ratings.downSlope b.elapsed)
      dis := moveLimit ((gatesNow b s).any closesDischarge) (disTargetNow b bay s) s.env.dis (stepOf s.mgmt.ringTables.envelope.ratings.upSlope b.elapsed)
        (stepOf s.mgmt.ringTables.envelope.ratings.downSlope b.elapsed)
      chgTarget := chgTargetNow b bay s, disTarget := disTargetNow b bay s
      factors := some (factorsOf s.mgmt.ringTables.envelope b bay s.seqr.blind), gates := gatesNow b s, lastRound := b.round } := by
  simp only [envelopeCompute, setLimits_env, raiseAll_env, State.onEnv_env, gatesNow, chgTargetNow, disTargetNow]

theorem envelopeCompute_ring (b : BaySummary) (bay : CoolState) (s : State) :
    (envelopeCompute b bay s).ring = { s.ring with slot := (envelopeCompute b bay s).ring.slot } := by
  simp only [envelopeCompute]
  rw [setLimits_ring]
  simp

theorem envelopeCompute_frame (b : BaySummary) (bay : CoolState) (s : State) : envelopeCompute b bay s =
    { s with env := (envelopeCompute b bay s).env, ring := { s.ring with slot := (envelopeCompute b bay s).ring.slot }, link := (envelopeCompute b bay s).link } := by
  apply State.eq_of_fields <;> simp [← envelopeCompute_ring]

theorem mem_gatesNow {b : BaySummary} {s : State} {g : Nat} : g ∈ gatesNow b s ↔ (1 ≤ g ∧ g ≤ 9) ∧ gateHolds s b g = true := by
  have hcodes : g ∈ gateCodes ↔ 1 ≤ g ∧ g ≤ 9 := by simp only [gateCodes, List.mem_cons, List.not_mem_nil, or_false]; omega
  rw [gatesNow, List.mem_filter, hcodes]

theorem closesCharge_any (l : List Nat) : l.any closesCharge = true ↔ ∃ g ∈ l, g ≠ 7 := by simp [closesCharge]
theorem closesDischarge_any (l : List Nat) : l.any closesDischarge = true ↔ ∃ g ∈ l, g ≠ 6 ∧ g ≠ 9 := by simp [closesDischarge]

/-- A target is the rating scaled by the least factor, rounded down, and 0 under a gate (R57). -/
theorem targetOf_floor {g : Bool} {P : Prop} [Decidable P] (h : g = true ↔ P) (rated least : Nat) :
    ((targetOf g rated least : Nat) : Int) = if P then 0 else ⌊((rated : ℚ) * (least : Nat)) / 1000⌋ := by
  have hfloor : ⌊((rated : ℚ) * (least : Nat)) / 1000⌋ = ((rated * least / 1000 : Nat) : Int) := by
    have := Rat.floor_intCast_div_natCast ((rated * least : Nat) : Int) 1000
    push_cast at this ⊢
    exact this
  rw [hfloor, targetOf]
  by_cases hp : P
  · rw [if_pos (h.mpr hp), if_pos hp]; rfl
  · rw [if_neg (fun hg => hp (h.mp hg)), if_neg hp]

/-- The published limit moves toward the target by the step of its direction (R59). -/
theorem moveLimit_table {g : Bool} {P : Prop} [Decidable P] (h : g = true ↔ P) (target published up down : Nat) :
    moveLimit g target published up down = if P then 0 else if published < target then min target (published + up) else max target (published - down) := by
  unfold moveLimit
  simp only [h]
  split_ifs <;> omega

theorem minCharge_eq (f : FactorSet) : minCharge f = min f.fvChg (min f.cold (min f.hot (min f.cool (min f.sf f.blind)))) := by unfold minCharge; omega

/-- Settles O34. -/
theorem envelopeComputation : Obligations.EnvelopeComputation := by
  intro b bay s
  dsimp only
  refine ⟨envelopeCompute_frame b bay s, ?_, ?_⟩
  · refine ⟨rfl, rfl, fun h => ?_, fun x h => ?_, fun h => ?_, fun x h => ?_, fun h => ?_, fun h => ?_, fun h => ?_, fun h => ?_, rfl, rfl⟩ <;>
      simp [factorsOf, curveFactor, coolFactor, h]
  · rw [envelopeCompute_env]
    refine ⟨fun g hg => (mem_gatesNow.mp hg).1, by simp [mem_gatesNow, gateHolds], by simp [mem_gatesNow, gateHolds], by simp [mem_gatesNow, gateHolds],
      by simp [mem_gatesNow, gateHolds], by simp [mem_gatesNow, gateHolds], by simp [mem_gatesNow, gateHolds], by simp [mem_gatesNow, gateHolds],
      by simp [mem_gatesNow, gateHolds], by simp [mem_gatesNow, gateHolds], rfl, rfl, ?_, ?_, ?_, ?_⟩
    · rw [← minCharge_eq]
      exact targetOf_floor (closesCharge_any _) _ _
    · exact targetOf_floor (closesDischarge_any _) _ _
    · exact moveLimit_table (closesCharge_any _) _ _ _ _
    · exact moveLimit_table (closesDischarge_any _) _ _ _ _

/-! ## The setpoint gate (R67 to R78) -/

theorem clampNow_eq (s : State) (p : Int) : clampNow s p = min (max p (-(s.env.chg : Int))) s.env.dis := rfl

theorem not_decide_eq (a b : Int) : (a != b) = !decide (a = b) := by by_cases h : a = b <;> simp [h]

theorem setpointReceived_taken {p : FramePort} {x : TimedFrame} {s : State} (hin : comesIn p x.syncAt s) (hroute : route x.frame = .setpoint) :
    exec (.setpointReceived p x) s = .next (setpointTaken p x.frame (frameReceived p s)) := by
  obtain ⟨hs, hdue⟩ := hin
  simp [exec, execSetpointReceived, act, whenDue, hs, hdue, linkFrame, hroute, frameReceived]

theorem roleAddr_frameReceived (p : FramePort) (s : State) (r : Role) : roleAddr (frameReceived p s) r = roleAddr s r := by simp [roleAddr]
theorem liveOf_frameReceived (p : FramePort) (s : State) (a : Nat) : liveOf (frameReceived p s) a = liveOf s a := by simp [liveOf]

/-- Settles O35: the screening of R67 in its order. -/
theorem setpointScreened : Obligations.SetpointScreened := by
  intro p x s hin hroute
  dsimp only
  rw [setpointReceived_taken hin hroute]
  refine ⟨fun tag pw q hp ha hl hh => ?_, fun tag b hb hp => ?_, fun tag pw q hp ha => ?_, fun tag pw q hp ha hl => ?_, fun tag pw q hp ha hl hh => ?_⟩
  · cases p <;> simp [setpointTaken, hp, roleAddr_frameReceived, ha, liveOf_frameReceived, hl, hh, setpointAccept, clampNow_eq, State.onGate, State.onRing,
      originOf, not_decide_eq]
  · rw [setpointTaken, hp, hb]
  · have hne : ∀ a, roleAddr s .conv = some a → a ≠ x.frame.dst.toNat := fun a he hd => ha (hd ▸ he)
    cases hr : roleAddr s .conv with
    | none => simp [setpointTaken, hp, roleAddr_frameReceived, hr]
    | some a => simp [setpointTaken, hp, roleAddr_frameReceived, hr, hne a hr]
  · simp [setpointTaken, hp, roleAddr_frameReceived, ha, liveOf_frameReceived, hl]
  · simp [setpointTaken, hp, roleAddr_frameReceived, ha, liveOf_frameReceived, hl, hh]

/-- What the reissue check finds to correct (R75). -/
theorem reissueNeeded_iff (s : State) (r : Requested) : reissueNeeded s r = true ↔
    ∀ w, s.gate.forwarded = some w → clampNow s r.p ≠ w.p ∨ r.q ≠ w.q ∨ r.fallback ≠ w.flags.fallback := by
  unfold reissueNeeded
  cases s.gate.forwarded <;> simp [or_assoc]

/-- The reissue check leaves in the slot what R75 says; of the state it reads the limits, the CONVERTER entry and its node state. -/
theorem reissueCheck_leaves {s u : State} (henv : u.env = s.env) (hrole : roleAddr u .conv = roleAddr s .conv) (hlive : ∀ a, liveOf u a = liveOf s a) :
    reissueLeaves s u.gate u.ring.slot (reissueCheck u).ring.slot := by
  have hclamp : ∀ q, clampNow u q = min (max q (-(s.env.chg : Int))) s.env.dis := fun q => by rw [clampNow_eq, henv]
  refine ⟨fun h => ?_, fun r a hr hf hx ha hl => ⟨fun hd => ?_, fun w hw hp hq hb => ?_⟩⟩
  · unfold reissueCheck
    split
    · next r a hr hf hx ha =>
      split
      · next hdo =>
        exfalso
        have hlive' : (liveOf s a).state ≠ .excluded := by
          rw [← hlive]; simpa using (Bool.and_eq_true_iff.mp hdo).1
        rw [hr, hf, hx] at h
        simp only [reduceCtorEq, ne_eq, not_true_eq_false, false_or] at h
        exact hlive' (h a (hrole ▸ ha))
      · rfl
    · rfl
  · have hdo : ((liveOf u a).state != .excluded && reissueNeeded u r) = true := by
      rw [Bool.and_eq_true_iff, reissueNeeded_iff, hlive]
      exact ⟨by simpa using hl, fun w hw => by rw [hclamp]; exact hd w hw⟩
    have hslot : (reissueCheck u).ring.slot = some ⟨BitVec.ofNat 8 a, 0, 0, r.tag, clampNow u r.p, r.q, ⟨clampNow u r.p != r.p, true, r.fallback⟩⟩ := by
      simp only [reissueCheck, hr, hf, hx, hrole, ha, hdo, if_true, State.onRing_ring]
    rw [hslot, hclamp]
    simp [not_decide_eq]
  · have hno : ((liveOf u a).state != .excluded && reissueNeeded u r) = false := by
      rw [Bool.and_eq_false_iff]
      right
      rw [← Bool.not_eq_true, reissueNeeded_iff]
      intro h
      have := h w hw
      rw [hclamp] at this
      tauto
    have hslot : (reissueCheck u).ring.slot = u.ring.slot := by simp only [reissueCheck, hr, hf, hx, hrole, ha, hno, Bool.false_eq_true, if_false]
    rw [hslot, hx]

theorem reissueCheck_frame (u : State) : reissueCheck u = { u with ring := { u.ring with slot := (reissueCheck u).ring.slot } } := by
  apply State.eq_of_fields <;> simp [← reissueCheck_ring]

/-- The setpoint in flight is given up and counted, before the reissue check (R74). -/
def ackLost (tag : Nat) (s : State) : State :=
  raiseIf (s.gate.ackCount == 2) (nUnresponsive true)
    ((raiseNotice (nAckLost tag (min 3 (s.gate.ackCount + 1))) s).onGate fun g => { g with inFlight := none, ackCount := min 3 (s.gate.ackCount + 1) })

theorem ackTimeout_due {s : State} {tag t0 : Nat} (hs : s.phase = .running) (h : s.gate.inFlight = some (tag, t0)) (hlate : t0 + 500000 ≤ s.now) :
    exec .ackTimeout s = .next (reissueCheck (ackLost tag s)) := by
  have hdue : ackTimeoutDue s = true := by
    have hran : ran t0 (500 * Config.ms) s.now = true := ran_of hlate
    simp only [ackTimeoutDue, h, hran]
  simp only [exec, execAckTimeout, act, whenDue, hs, hdue, if_true, ackTimeout, h, ackLost]

/-- The fallback that replaces the Requested Setpoint (R78). -/
def fallbackOf (s : State) : Requested := ⟨s.mgmt.ringTables.setpoint.fallbackP, 0, (s.gate.requested.map (·.tag)).getD 0, .s48, true⟩

theorem fallbackInstall_eq (u : State) :
    fallbackInstall u = reissueCheck ((u.onGate fun g => { g with requested := some (fallbackOf u) }).onRing fun g => { g with slot := none }) := by
  unfold fallbackInstall fallbackOf
  cases h : u.gate.requested <;> rfl

/-- The silence has been noted, and the fallback has taken the place of the Requested Setpoint, before the reissue check (R77, R78). -/
def fellBack (t0 : Nat) (s : State) : State :=
  ((raiseNotice (nStationSilent true) (s.onGate fun g => { g with silenceSince := none, silenceStopped := s.now - t0, silent := true })).onGate fun g =>
    { g with requested := some (fallbackOf s) }).onRing fun g =>
      { g with slot := none }

theorem silenceExpiry_due {s : State} {t0 : Nat} (hs : s.phase = .running) (hsil : s.gate.silent = false) (hh : s.link.holder = .station)
    (h0 : s.gate.silenceSince = some t0) (hlate : t0 + s.mgmt.ringTables.setpoint.silenceTime * 1000000 ≤ s.now) :
    exec .silenceExpiry s = .next (reissueCheck (fellBack t0 s)) := by
  have hdue : silenceDue s = true := by
    have hran : ran t0 (s.mgmt.ringTables.setpoint.silenceTime * Config.second) s.now = true := ran_of hlate
    simp only [silenceDue, h0, ranOpt, hran, hsil, hh, Bool.not_false, beq_self_eq_true, Bool.and_self]
  simp only [exec, execSilenceExpiry, act, whenDue, hs, hdue, if_true, silenceExpire, fallbackInstall_eq, h0, fellBack]
  simp [fallbackOf]

/-- Settles O36. -/
theorem gateTimersExpire : Obligations.GateTimersExpire := by
  refine ⟨fun s tag t0 hs hf hlate => ?_, fun s t0 hs hsil hh h0 hlate => ?_⟩
  · have hgate : (ackLost tag s).gate = { s.gate with inFlight := none, ackCount := min 3 (s.gate.ackCount + 1) } := by simp [ackLost]
    have hring : (ackLost tag s).ring = s.ring := by simp [ackLost]
    have hleaves := reissueCheck_leaves (s := s) (u := ackLost tag s) (by simp [ackLost]) (by simp [ackLost, roleAddr]) (fun a => by simp [ackLost, liveOf])
    refine ⟨_, ackTimeout_due hs hf hlate, ?_, by simpa using hgate, ?_⟩
    · apply State.eq_of_fields <;> simp [ackLost]
      rw [reissueCheck_ring]; simp
    · simpa [hring] using hleaves
  · have hgate : (fellBack t0 s).gate = { s.gate with silenceSince := none, silenceStopped := s.now - t0, silent := true, requested := some (fallbackOf s) } := by simp [fellBack]
    have hring : (fellBack t0 s).ring = { s.ring with slot := none } := by simp [fellBack]
    have hleaves := reissueCheck_leaves (s := s) (u := fellBack t0 s) (by simp [fellBack]) (by simp [fellBack, roleAddr]) (fun a => by simp [fellBack, liveOf])
    rw [hring] at hleaves
    refine ⟨_, silenceExpiry_due hs hsil hh h0 hlate, ?_, by simp [hgate], by simp [hgate], by simp [hgate], by simp [hgate], ?_,
      by simpa using hleaves, fun a hf hfw ha hl => ?_⟩
    · apply State.eq_of_fields <;> simp [fellBack]
      rw [reissueCheck_ring]; simp
    · simp only [reissueCheck_gate, hgate, fallbackOf]
      cases s.gate.requested <;> rfl
    · have hclamped := (hleaves.2 _ a (by rw [hgate]) (by rw [hgate]; exact hf) rfl ha hl).1 (fun w hw => by
        rw [hgate] at hw; exact nomatch hfw.symm.trans hw)
      obtain ⟨f, hslot, he⟩ := Option.map_eq_some_iff.mp hclamped
      rw [hslot]
      simp only [Prod.mk.injEq] at he
      obtain ⟨h1, h2, -, h4, h5, h6⟩ := he
      simp [h1, h2, h4, h5, h6, fallbackOf]

end Sys2Proof.Machine
end

section
/-! The reading requests, the dither of a PWM output, and the requests that change a node's state. -/

namespace Sys2Proof.Machine

/-! ## The reading requests (R45, R64, R101, R135, R183, R184) -/

theorem withArgs_some {α : Type} {r : Request} {code : Nat} {o : Option α} {g : α → State → State} {x : α} {s : State} (h : o = some x) :
    withArgs r code o g s = g x s := by simp [withArgs, h]

theorem oneByte_of {r : Request} {b : Byte} (h : r.args = [b]) : oneByte r = some b.toNat := by simp [oneByte, getU8, whole, h]

/-- A byte of a word is what `wordBytes` writes. -/
theorem encU16_eq (n : Nat) : encU16 n = wordBytes n := by
  have h : BitVec.ofNat 8 n = BitVec.ofNat 8 (n % 256) := BitVec.eq_of_toNat_eq (by simp)
  rw [encU16, wordBytes, h]

theorem optU16_eq (x : Option Nat) : optU16 x = wordOr x := by
  cases x with
  | none => simp [optU16, wordOr, encU16]
  | some n => exact encU16_eq n

theorem optS16_eq (x : Option Int) : optS16 x = signedOr x := by
  cases x with
  | none => simp [optS16, signedOr, encU16]
  | some i => exact encU16_eq _

theorem encBool_eq (b : Bool) : encBool b = [flagByte b] := by cases b <;> rfl

theorem optU8_toNat (x : Option Byte) : optU8 (x.map BitVec.toNat) = [x.getD 0xFF] := by
  cases x <;> simp [optU8, encU8]

/-- A set of flags as a number is the sum of the powers of two of the flags set. -/
theorem flagBits_sum (n : Nat) (p : Nat → Bool) : flagBits ((List.range n).map p) = (((List.range n).filter p).map (2 ^ ·)).sum := by
  induction n generalizing p with
  | zero => rfl
  | succ n ih =>
    have hsum (l : List Nat) : ((l.map Nat.succ).map fun i => 2 ^ i).sum = 2 * (l.map fun i => 2 ^ i).sum := by
      induction l with
      | nil => rfl
      | cons x l ih => simp only [List.map_cons, List.sum_cons, ih, Nat.pow_succ]; omega
    rw [List.range_succ_eq_map, List.map_cons, flagBits, List.map_map, ih, List.filter_cons, List.filter_map]
    split
    next h => rw [List.map_cons, List.sum_cons, hsum, h]; rfl
    next h => rw [hsum, Bool.eq_false_of_not_eq_true h]; simp [Function.comp_def]

theorem gateBits_sum (gates : List Nat) :
    gateBits gates = (((List.range 9).filter fun i => gates.contains (i + 1)).map (2 ^ ·)).sum :=
  flagBits_sum 9 fun i => gates.contains (i + 1)

/-- The outlet is in use exactly while the coolant node in effect is IN_SERVICE and has reported one (R84). -/
theorem outletInUse_iff (s : State) (z : Nat) : (outletInUse s z).isSome = true ↔ (zoneLive s z).outlet ≠ none ∧
    ∃ a, (zoneCfg s.mgmt.ringTables.cooling z).node = some a ∧ (cfgOf s a).role = .cool ∧ (cfgOf s a).zone = z ∧ (liveOf s a).state = .inService := by
  unfold outletInUse effInService effNode
  cases h : (zoneCfg s.mgmt.ringTables.cooling z).node with
  | none => simp
  | some a =>
    by_cases h1 : (cfgOf s a).role = .cool ∧ (cfgOf s a).zone = z
    · by_cases h2 : (liveOf s a).state = .inService <;> cases h3 : (zoneLive s z).outlet <;> simp [h1, h2]
    · simpa [h1] using fun _ hr hz => absurd ⟨hr, hz⟩ h1

theorem outletInUse_received (r : Request) (s : State) (z : Nat) : outletInUse (received r s) z = outletInUse s z := by
  have hn : effNode (received r s) z = effNode s z := by unfold effNode cfgOf; rw [received_mgmt]
  have he : effInService (received r s) z = effInService s z := by unfold effInService liveOf; rw [hn, received_ring]
  simp [outletInUse, he, zoneLive]

/-- READ_ZONE, field by field (R101). -/
theorem zoneResults_fields (r : Request) (s : State) (n : Nat) (inUse : Bool) (h : (outletInUse s n).isSome = inUse) :
    let z := zoneLive s n
    let c := zoneCfg s.mgmt.ringTables.cooling n
    let out := fun (o : Nat) => BitVec.ofNat 8 (outLive s o).source.code :: (wordBytes (outLive s o).sourceValue ++
      wordBytes (outLive s o).shaped ++ wordBytes (outLive s o).applied)
    zoneResults (received r s) n =
      signedOr z.hottest ++ [BitVec.ofNat 8 z.contributing, BitVec.ofNat 8 z.supervised, flagByte z.blind] ++ wordBytes z.demand ++
        signedOr z.inlet ++ signedOr z.outlet ++ wordOr z.flow ++ wordOr z.pressure ++
        [z.status.getD 0xFF, flagByte inUse, BitVec.ofNat 8 z.state.code, flagByte z.counted] ++
        c.pump.elim (List.replicate 14 0) (fun p => 1 :: (out p ++ [BitVec.ofNat 8 (pumpLive s p).state.code, BitVec.ofNat 8 (pumpLive s p).faults] ++
          wordBytes (((pumpLive s p).clock + (pumpLive s p).clockSince.elim 0 (s.now - ·)) / 1000000) ++
          wordOr ((pumpLive s p).restart.map fun t => (t + 30000000 - s.now) / 1000))) ++
        BitVec.ofNat 8 c.fans.length :: c.fans.flatMap fun f => out (4 + f) := by
  have hclock (x : PumpLive) : faultFree x s.now = x.clock + x.clockSince.elim 0 (s.now - ·) := by
    unfold faultFree; cases x.clockSince <;> rfl
  have hl (o : Nat) : outLive (received r s) o = outLive s o := by simp [outLive]
  have hp (p : Nat) : pumpLive (received r s) p = pumpLive s p := by simp [pumpLive]
  have hz : zoneLive (received r s) n = zoneLive s n := by simp [zoneLive]
  intro z c out
  unfold zoneResults
  simp only [outletInUse_received, h, hl, hp, hz, received_mgmt, received_now, optS16_eq, optU16_eq, encU16_eq, encBool_eq, optU8_toNat, encU8, outFields, hclock,
    msLeft, toMs]
  cases hpump : (zoneCfg s.mgmt.ringTables.cooling n).pump <;>
    simp [c, z, out, List.append_assoc, Config.second, Config.ms]

/-- The ENVELOPE section of READ_STATUS fits one part (R64). -/
theorem envelopeSection_results (s : State) : statusResults s 3 0 = some ([3, 0, 1] ++ wordBytes s.env.chg ++ wordBytes s.env.dis ++
      wordBytes s.env.chgTarget ++ wordBytes s.env.disTarget ++
      s.env.factors.elim (List.replicate 14 0xFF) (fun f => [f.fvChg, f.fvDis, f.hot, f.cold, f.cool, f.sf, f.blind].flatMap wordBytes) ++
      wordBytes (((List.range 9).filter fun i => s.env.gates.contains (i + 1)).map (2 ^ ·)).sum ++ wordBytes s.env.lastRound) := by
  rw [← gateBits_sum]
  cases h : s.env.factors <;>
    simp [statusResults, sectionFields, envelopeSection, h, packInto, encU16_eq, wordBytes, optU16, encU8]

/-- Settles O30. -/
theorem readingRequests : Obligations.ReadingRequests := by
  intro r s h
  refine ⟨fun b res ha hr => ?_, fun b k res ha hr => ?_, fun b ha hb => ?_, fun b ha hb => ?_, fun a b res ha hr => ?_, fun b ha h1 h40 => ?_,
    fun res hr => ?_, fun b inUse ha hb => ?_, fun ha => ?_, fun t p res ha hr => ?_, by simp⟩
  · exact (request_taken _ _ h).trans (congrArg _ (withArgs_some (by simpa [moduleArgs, ha] using hr)))
  · exact (request_taken _ _ h).trans (congrArg _ (withArgs_some (by simpa [moduleArgs, ha] using hr)))
  · exact argsRequest_taken _ h (by simp [oneByte_of ha, below, Option.filter, hb])
  · exact argsRequest_taken _ h (by simp [oneByte_of ha, below, Option.filter, hb])
  · exact (request_taken _ _ h).trans (congrArg _ (withArgs_some (by simpa [ha] using hr)))
  · exact argsRequest_taken _ h (by simp [oneByte_of ha, Option.filter, isRingAddr, h1, h40])
  · exact (request_taken _ _ h).trans (congrArg _ (withArgs_some hr))
  · intro z c out hin
    have huse : (outletInUse s b.toNat).isSome = inUse := by rw [Bool.eq_iff_iff, outletInUse_iff, hin]
    refine (argsRequest_taken (x := b.toNat) _ h (by simp [oneByte_of ha, below, Option.filter, hb])).trans ?_
    rw [zoneResults_fields r s b.toNat inUse huse]; rfl
  · have hres := envelopeSection_results (received r s)
    rw [received_env] at hres
    exact (request_taken _ _ h).trans (congrArg _ (withArgs_some (by simpa [ha] using hres)))
  · have hread : tableArgs (received r s) r = some ((t.toNat, p.toNat), false) := by simp [tableArgs, ha, hr]
    refine (request_taken _ _ h).trans (congrArg _ ((withArgs_some hread).trans ?_))
    simp [readTableBody, hr, done]

end Sys2Proof.Machine
end

section
/-! The cooling chapter: the PWM outputs, and the supervision of the pumps. -/

namespace Sys2Proof.Machine

/-! ## The dither of a high time (R93) -/

/-- A run of eight goes through all eight dither indices, wherever it starts. -/
theorem dither_turn (f : Nat → Nat) (k : Nat) : ((List.range 8).map fun i => f ((k + i) % 8)).sum = ((List.range 8).map f).sum := by
  have hk : k % 8 < 8 := Nat.mod_lt _ (by decide)
  have hmod (i : Nat) : (k + i) % 8 = (k % 8 + i) % 8 := by omega
  simp only [hmod]
  generalize k % 8 = r at hk
  interval_cases r <;> simp [List.range_succ] <;> omega

/-- A period with index k has the whole part of the high time, and one count more where L steps over a whole. -/
theorem highTime_step (d n k : Nat) : let q := d * n / 1000; let l := 8 * (d * n - 1000 * q) / 1000
    highTime d n k = q + ((k + 1) * l / 8 - k * l / 8) := by
  intro q l
  have hl : l ≤ 8 := by omega
  have hstep : (k + 1) * l = k * l + l := by ring
  simp only [highTime, show d * n / 1000 = q from rfl, show 8 * (d * n - 1000 * q) / 1000 = l from rfl, hstep]
  split <;> omega

/-- Settles O39: the steps of the eight indices add up to L. -/
theorem ditherSum : Obligations.DitherSum := by
  intro d n k q
  rw [dither_turn (highTime d n)]
  simp only [highTime_step, show d * n / 1000 = q from rfl, List.range_succ, List.range_zero, List.nil_append, List.map_append, List.map_cons, List.map_nil,
    List.sum_append, List.sum_cons, List.sum_nil]
  generalize 8 * (d * n - 1000 * q) / 1000 = l
  omega

/-! ## The PWM commands (R93, R94) -/

theorem refIdx_of {i n : Nat} (h : [250, 500, 1000][i]? = some n) : refIdx n = some i := by
  match i, h with
  | 0, h | 1, h | 2, h => cases h; rfl

/-- The place of a member of an ascending list is the number of its members below it. -/
theorem idxOf?_ascending {l : List Nat} (h : l.Pairwise (· < ·)) {o : Nat} (ho : o ∈ l) :
    l.idxOf? o = some (l.filter fun x => decide (x < o)).length := by
  induction h with
  | nil => cases ho
  | @cons x l hx h ih =>
    by_cases hxo : x = o
    · subst hxo
      have hnone : l.filter (fun y => decide (y < x)) = [] := List.filter_eq_nil_iff.mpr fun y hy => by simpa using (hx y hy).le
      simp [List.idxOf?_cons, hnone]
    · have hmem := (List.mem_cons.mp ho).resolve_left (Ne.symm hxo)
      simp [List.idxOf?_cons, hxo, hx o hmem, ih hmem]

/-- The active fan outputs of a period, as the outputs from 4 on that are active with it. -/
theorem activeFans_eq (s : State) (n : Nat) : activeFans s n =
    (List.range 12).filter fun x => decide (4 ≤ x) && cfgPeriod s.mgmt.ringTables.cooling x == n && decide (0 < (outLive s x).applied) := by
  have hfans : (List.range 8).map (· + 4) = (List.range 12).filter fun x => decide (4 ≤ x) := by decide
  rw [activeFans, hfans, List.filter_filter]
  congr 1; funext x
  cases decide (4 ≤ x) <;> simp [Bool.and_comm]

theorem outLive_refStart {s : State} {n i o : Nat} (hi : refIdx n = some i) (ho : o < s.cool.outs.length) : outLive (refStart n s) o =
    if cfgPeriod s.mgmt.ringTables.cooling o = n then refOut s.now n (phaseOffset s n o) (outLive s o) else outLive s o := by
  simp [refStart, hi, outLive, ho, List.getD_eq_getElem?_getD]

/-- What modifies the record of an output, as the record set anew. -/
theorem modOut_set (s : State) (o : Nat) (f : OutLive → OutLive) :
    s.cool.outs.modify o f = s.cool.outs.set o (f (outLive s o)) := by
  apply List.ext_getElem? ; intro k
  rw [List.getElem?_modify, List.getElem?_set]
  by_cases hk : o = k
  · subst hk
    by_cases ho : o < s.cool.outs.length <;> simp [ho, outLive]
  · simp [hk]

theorem highOver_of {x : OutLive} {now e : Nat} (hl : x.level = true) (he : x.highEnd = some e) (hd : e ≤ now) (hn : e < x.nextStart) :
    highOver x now = true := by simp [highOver, hl, he, hd, hn]

theorem not_highOver_of {x : OutLive} {now e : Nat} (he : x.highEnd = some e) (hn : x.nextStart ≤ e) : highOver x now = false := by
  simp [highOver, he]; intros; omega

/-- Settles O40. -/
theorem pwmCommands : Obligations.PwmCommands := by
  refine ⟨fun s i n hs hi href hnew hlen => ?_, fun s o i r hs ho hnext hi htaken hr hlen => ?_, fun s o e hs hl he hd hn => ?_,
    fun s o e hs he hn => ?_, fun s n o ho => ?_⟩
  · have hidx := refIdx_of hi
    have hdue : refDue s n = true := by simpa only [refDue, hidx, href, Bool.and_eq_true, bne_iff_ne] using ⟨rfl, hnew⟩
    refine ⟨_, (act_running _ hs).trans (congrArg _ (whenDue_true _ _ hdue)), ?_, ?_, fun o ho => ?_⟩
    · simp [refStart, hidx, State.onCool]
    · simp [refStart, hidx]
    · rw [outLive_refStart hidx (by omega)]
      split <;> simp_all [refOut]
  · have hdue : (decide (o < 12) && decide ((outLive s o).nextStart ≤ s.now) && refCurrent s (outLive s o).period) = true := by
      simp [ho, hnext, refCurrent, refIdx_of hi, -List.getD_eq_getElem?_getD, htaken, hr]
    refine (act_running _ hs).trans (congrArg _ ((whenDue_true _ _ hdue).trans ?_))
    simp only [State.onCool, modOut, modOut_set, periodStart]
  · refine (act_running _ hs).trans (congrArg _ ((whenDue_true _ _ (highOver_of hl he hd hn)).trans ?_))
    simp only [State.onCool, modOut, modOut_set]
  · exact (act_running _ hs).trans (congrArg _ (whenDue_false _ _ (not_highOver_of he hn)))
  · intro active
    have hact : activeFans s n = active := activeFans_eq s n
    have hsorted : active.Pairwise (· < ·) := List.Pairwise.filter _ List.pairwise_lt_range
    refine ⟨fun hin => ?_, fun hout => ?_⟩
    · simp only [phaseOffset, hact, idxOf?_ascending hsorted hin]
    · simp only [phaseOffset, hact, List.idxOf?_eq_none_iff.mpr hout]

end Sys2Proof.Machine
end

section
/-! The supervision of the pumps: what a settling of the cooling leaves of the pumps and zones, and what each pump event adds to it. -/

namespace Sys2Proof.Machine

/-! ## What follows a change of duties or pump states -/

theorem pumpLive_modPump (s : State) (p k : Nat) (f : PumpLive → PumpLive) (hk : k < s.cool.pumps.length) :
    pumpLive (s.onCool (modPump p f)) k = if k = p then f (pumpLive s k) else pumpLive s k := by
  by_cases h : k = p
  · subst h; simp [pumpLive, modPump, hk]
  · simp [pumpLive, modPump, h, show ¬p = k from fun e => h e.symm]

theorem pumpLive_default {s : State} {p : Nat} (h : s.cool.pumps.length ≤ p) : pumpLive s p = freshPump := by
  simp [pumpLive, List.getElem?_eq_none h]

theorem outLive_modOut (s : State) (p k : Nat) (f : OutLive → OutLive) (hk : k < s.cool.outs.length) :
    outLive (s.onCool (modOut p f)) k = if k = p then f (outLive s k) else outLive s k := by
  by_cases h : k = p
  · subst h; simp [outLive, modOut, hk]
  · simp [outLive, modOut, h, show ¬p = k from fun e => h e.symm]

/-- Whether a pump is supervised does not depend on the pumps (R95). -/
theorem supervised_congr {s t : State} (hm : t.mgmt.ringTables = s.mgmt.ringTables) (hr : t.ring.nodes = s.ring.nodes) (p : Nat) :
    supervised t p = supervised s p := by
  unfold supervised effInService effNode cfgOf liveOf; rw [hm, hr]

/-- The pumps follow the applied duties and the supervision. -/
theorem pumpLive_followPumps (s : State) {p : Nat} (hp : p < 4) (hl : p < s.cool.pumps.length) :
    pumpLive (followPumps s) p = pumpFollow (supervised s p) (outLive s p).applied s.now (pumpLive s p) := by
  have hlen (k : Nat) (x : State) : (followPump k x).cool.pumps.length = x.cool.pumps.length := by simp [followPump, modPump]
  have hone (k : Nat) (x : State) (hx : p < x.cool.pumps.length) : pumpLive (followPump k x) p =
      if p = k then pumpFollow (supervised x p) (outLive x p).applied x.now (pumpLive x p) else pumpLive x p := by
    rw [followPump, pumpLive_modPump _ _ _ _ hx]; split
    next h => rw [h]
    next => rfl
  have hsup (k : Nat) (x : State) : supervised (followPump k x) p = supervised x p := supervised_congr rfl rfl p
  have hout (k : Nat) (x : State) : outLive (followPump k x) p = outLive x p := rfl
  have hnow (k : Nat) (x : State) : (followPump k x).now = x.now := rfl
  unfold followPumps
  simp only [hone, hlen, hl, hsup, hout, hnow]
  interval_cases p <;> simp

theorem pumpLive_coolSettle (old : State) (also : Nat → Bool) (s : State) {p : Nat} (hp : p < 4) (hl : p < s.cool.pumps.length) :
    pumpLive (coolSettle old also s) p = pumpFollow (supervised s p) (outLive s p).applied s.now (pumpLive s p) := by
  rw [← pumpLive_followPumps s hp hl, pumpLive, pumpLive]
  simp only [coolSettle, refreshLines_cool, bayEval_cool]
  rw [foldl_keeps (fun x : State => x.cool.pumps) _ (fun x z => by split <;> simp [zoneEval, modZone])]

@[simp] theorem outLive_coolSettle (old : State) (also : Nat → Bool) (s : State) (o : Nat) : outLive (coolSettle old also s) o = outLive s o := by
  simp [outLive]

/-- What follows leaves each zone's record but for its state. -/
theorem zoneLive_coolSettle (old : State) (also : Nat → Bool) (s : State) {z : Nat} (hz : z < 4) (hl : z < s.cool.zones.length) :
    (zoneLive (coolSettle old also s) z).counted = (zoneLive s z).counted := by
  obtain ⟨halike, -⟩ := zones_evaluated (fun z => also z || zoneTouched old (followPumps s) z) z (followPumps s) hz hl
  have hcounted := congrArg ZoneLive.counted halike.zone
  simp only [coolSettle, zoneLive, refreshLines_cool, bayEval_cool] at hcounted ⊢
  exact hcounted

theorem zones_length_coolSettle (old : State) (also : Nat → Bool) (s : State) : (coolSettle old also s).cool.zones.length = s.cool.zones.length := by
  simp only [coolSettle, refreshLines_cool, bayEval_cool]
  rw [foldl_keeps (fun x : State => x.cool.zones.length) _ (fun x z => by split <;> simp [zoneEval, modZone])]
  rfl

theorem ringTables_coolSettle (old : State) (also : Nat → Bool) (s : State) : (coolSettle old also s).mgmt.ringTables = s.mgmt.ringTables := by
  rw [coolSettle_latch]

/-- The cooling is seen from a state of the same bay cooling state, sequencer and clock. -/
theorem coolingSeen_congr {s u t : State} (hbay : u.cool.bay = s.cool.bay) (hseqr : u.seqr = s.seqr) (hnow : u.now = s.now)
    (h : coolingSeen u t) : coolingSeen s t := by
  simpa only [coolingSeen, bayTaken, hbay, hseqr, hnow] using h

/-- A zone sees its pump where the pump's state has changed. -/
theorem zonesSee_coolSettle {old s : State} {also : Nat → Bool} {p : Nat}
    (h : ∀ z, (zoneCfg s.mgmt.ringTables.cooling z).pump = some p → also z = true ∨ (pumpLive old p).state ≠ (pumpLive (followPumps s) p).state) :
    zonesSee p (coolSettle old also s) := by
  intro z hz hl hpump
  rw [zones_length_coolSettle] at hl
  rw [ringTables_coolSettle] at hpump
  refine coolSettle_stands old also s z hz hl ((h z hpump).imp_right fun hne => ?_)
  simp [zoneTouched, hpump, hne]

/-! ## The pump events (R96 to R98) -/

/-- An output formed anew takes its duty from its own record alone. -/
theorem reformOut_held {s : State} {o : Nat} {x : OutLive} (h : pumpHeld s o = true) : (reformOut s o x).applied = 0 := by
  simp [reformOut, immediate, shapeOut, pumpHeld, pumpLive] at h ⊢
  split <;> simp_all

/-- A pump that has changed in place (R96). -/
theorem pumpTo_seen (p : Nat) (f : PumpLive → PumpLive) (s : State) : coolingSeen s (pumpTo p f s) :=
  coolingSeen_congr (by simp [modPump, modOut]) (by simp) (by simp) (coolSettle_seen _ _ _)

theorem pumpTo_pump {p : Nat} {f : PumpLive → PumpLive} {s : State} (hp : p < 4) (hl : p < s.cool.pumps.length) (ho : p < s.cool.outs.length)
    (hheld : (f (pumpLive s p)).state = .restartWait ∨ (f (pumpLive s p)).state = .locked) :
    (outLive (pumpTo p f s) p).applied = 0 ∧ pumpLive (pumpTo p f s) p = pumpFollow (supervised s p) 0 s.now (f (pumpLive s p)) := by
  set u := raiseNotice (nPumpState p (pumpLive (s.onCool (modPump p f)) p).state) (s.onCool (modPump p f)) with hu
  have hpump : pumpLive u p = f (pumpLive s p) := by
    have h := pumpLive_modPump s p p f hl
    rw [if_pos rfl] at h
    rw [← h, hu, pumpLive, pumpLive, raiseNotice_cool]
  have hout : (outLive (u.onCool (modOut p (reformOut u p))) p).applied = 0 := by
    rw [outLive_modOut _ _ _ _ (by simpa [hu, modPump] using ho), if_pos rfl]
    exact reformOut_held (by simpa [pumpHeld, hp, hpump] using hheld)
  have hfollow := pumpLive_coolSettle s (fun _ => false) (u.onCool (modOut p (reformOut u p))) hp (by simpa [hu, modPump, modOut] using hl)
  rw [hout, show pumpLive (u.onCool (modOut p (reformOut u p))) p = f (pumpLive s p) from hpump,
    supervised_congr (s := s) (by simp [hu]) (by simp [hu]), show (u.onCool (modOut p (reformOut u p))).now = s.now by simp [hu]] at hfollow
  exact ⟨by rw [show pumpTo p f s = coolSettle s (fun _ => false) (u.onCool (modOut p (reformOut u p))) from rfl, outLive_coolSettle, hout], hfollow⟩

/-- What a pump becomes at its n-th fault (R96). -/
def faulted (n now : Nat) (x : PumpLive) : PumpLive :=
  { x with faults := n, clock := 0, clockSince := none, flowLoss := none, state := if n < 3 then .restartWait else .locked,
           restart := if n < 3 then some now else none }

theorem faulted_held (n now : Nat) (x : PumpLive) : (faulted n now x).state = .restartWait ∨ (faulted n now x).state = .locked := by
  unfold faulted; by_cases h : n < 3 <;> simp [h]

theorem pumpFollow_faulted (sup : Bool) (a n now now' : Nat) (x : PumpLive) : pumpFollow sup a now' (faulted n now x) = faulted n now x := by
  unfold faulted pumpFollow; by_cases h : n < 3 <;> simp [h]

/-- What a pump event leaves as it was. -/
structure PumpApart (s t : State) : Prop where
  fire : t.fire = s.fire
  loop : t.loop = s.loop
  cell : t.cell = s.cell
  now : t.now = s.now
  store : t.store = s.store
  pending : t.pending = s.pending

theorem PumpApart.settled {s u : State} (h : PumpApart s u) (old : State) (also : Nat → Bool) : PumpApart s (coolSettle old also u) :=
  ⟨by simp [h.fire], by simp [h.loop], by simp [h.cell], by simp [h.now], by simp [h.store], by simp [h.pending]⟩

theorem flowLoss_eq (p : Nat) (s : State) :
    flowLoss p s = pumpTo p (faulted ((pumpLive s p).faults + 1) s.now) (raiseNotice (nPumpFault p ((pumpLive s p).faults + 1)) s) := by
  unfold flowLoss faulted; simp

theorem flowLoss_due {s : State} {p t0 : Nat} (hs : s.phase = .running) (h0 : (pumpLive s p).flowLoss = some t0) (hlate : t0 + 10000000 ≤ s.now) :
    exec (.flowLossTimeout p) s = .next (flowLoss p s) := by
  have hran : ran t0 (10 * Config.second) s.now = true := ran_of hlate
  simp only [exec, execFlowLossTimeout, act, whenDue, hs, h0, ranOpt, hran, if_true]

/-- A fault takes the pump's duty to 0, and it waits or locks (R96). -/
theorem flowLoss_pump {p : Nat} {s : State} (hp : p < 4) (hl : p < s.cool.pumps.length) (ho : p < s.cool.outs.length) :
    (outLive (flowLoss p s) p).applied = 0 ∧ pumpLive (flowLoss p s) p = faulted ((pumpLive s p).faults + 1) s.now (pumpLive s p) := by
  have h := pumpTo_pump (f := faulted ((pumpLive s p).faults + 1) s.now) (s := raiseNotice (nPumpFault p ((pumpLive s p).faults + 1)) s) hp
    (by simpa using hl) (by simpa using ho) (faulted_held _ _ _)
  rw [pumpFollow_faulted] at h
  rw [flowLoss_eq]
  exact ⟨h.1, h.2.trans (by simp [pumpLive])⟩

theorem flowLoss_apart (p : Nat) (s : State) : PumpApart s (flowLoss p s) := by
  rw [flowLoss_eq]; exact .settled ⟨by simp, by simp, by simp, by simp, by simp, by simp⟩ _ _

theorem flowLoss_seen (p : Nat) (s : State) : coolingSeen s (flowLoss p s) := by
  rw [flowLoss_eq]; exact coolingSeen_congr (by simp) (by simp) (by simp) (pumpTo_seen _ _ _)

/-- The state of a pump once the others have followed is the state it has in the end. -/
theorem pumpState_followPumps (old : State) (also : Nat → Bool) (s : State) {p : Nat} (hp : p < 4) (hl : p < s.cool.pumps.length) :
    (pumpLive (followPumps s) p).state = (pumpLive (coolSettle old also s) p).state := by
  rw [pumpLive_coolSettle _ _ _ hp hl, pumpLive_followPumps _ hp hl]

/-- A settling after which a pump has another state than before is seen by its zones. -/
theorem zonesSee_changed {old s : State} {also : Nat → Bool} {p : Nat} (hp : p < 4) (hl : p < s.cool.pumps.length)
    (h : (pumpLive old p).state ≠ (pumpLive (coolSettle old also s) p).state) : zonesSee p (coolSettle old also s) :=
  zonesSee_coolSettle fun _ _ => .inr (by rwa [pumpState_followPumps old also s hp hl])

theorem flowLoss_zones {p : Nat} {s : State} (hp : p < 4) (hl : p < s.cool.pumps.length) (ho : p < s.cool.outs.length)
    (hrun : (pumpLive s p).state = .running) : zonesSee p (flowLoss p s) := by
  have hpump := (flowLoss_pump hp hl ho).2
  rw [flowLoss_eq] at hpump ⊢
  refine zonesSee_changed hp (by simpa [modPump, modOut] using hl) ?_
  have hstate := congrArg PumpLive.state hpump
  rw [pumpTo] at hstate
  rw [hstate, show (pumpLive (raiseNotice (nPumpFault p ((pumpLive s p).faults + 1)) s) p).state = .running by simpa [pumpLive] using hrun]
  rcases faulted_held ((pumpLive s p).faults + 1) s.now (pumpLive s p) with h | h <;> rw [h] <;> decide

/-- The duty at which a pump restarts (R97). -/
def restartDuty (x : OutLive) (minDuty : Nat) : Nat := if x.shaped = 0 then 0 else if x.source = .override then x.shaped else minDuty

/-- The output of a pump at its restart: formed anew from duty 0. -/
def restartOut (p : Nat) (s : State) : OutLive := shapeOut s p { outLive s p with applied := 0 }

/-- A pump after its restart wait, before the cooling settles. -/
def restarted (p : Nat) (s : State) : State :=
  let s1 := s.onCool (modPump p fun x => { x with state := .stopped, restart := none })
  let a := restartDuty (restartOut p s) s.mgmt.ringTables.cooling.shaping.minDuty
  raiseNotice (nPumpState p (if 0 < a then .running else .stopped)) (s1.onCool (modOut p fun _ => { restartOut p s with applied := a }))

theorem restartExpire_eq (p : Nat) (s : State) : restartExpire p s = coolSettle s (fun _ => false) (restarted p s) := rfl

theorem restartExpire_due {s : State} {p t0 : Nat} (hs : s.phase = .running) (hst : (pumpLive s p).state = .restartWait)
    (h0 : (pumpLive s p).restart = some t0) (hlate : t0 + 30000000 ≤ s.now) : exec (.restartWaitExpiry p) s = .next (restartExpire p s) := by
  have hran : ran t0 (30 * Config.second) s.now = true := ran_of hlate
  simp only [exec, execRestartWaitExpiry, act, whenDue, hs, hst, h0, ranOpt, hran, beq_self_eq_true, Bool.and_self, if_true]

theorem outLive_restarted {p : Nat} {s : State} (ho : p < s.cool.outs.length) : outLive (restarted p s) p =
    { restartOut p s with applied := restartDuty (restartOut p s) s.mgmt.ringTables.cooling.shaping.minDuty } := by
  have h := outLive_modOut (s.onCool (modPump p fun x => { x with state := .stopped, restart := none })) p p
    (fun _ => { restartOut p s with applied := restartDuty (restartOut p s) s.mgmt.ringTables.cooling.shaping.minDuty })
    (by simpa [modPump] using ho)
  rw [if_pos rfl] at h
  rw [← h, restarted, outLive, outLive, raiseNotice_cool]

theorem pumpLive_restarted {p : Nat} {s : State} (hl : p < s.cool.pumps.length) :
    pumpLive (restarted p s) p = { pumpLive s p with state := .stopped, restart := none } := by
  have h := pumpLive_modPump s p p (fun x => { x with state := .stopped, restart := none }) hl
  rw [if_pos rfl] at h
  rw [← h, restarted, pumpLive, raiseNotice_cool]; rfl

/-- A pump at rest follows its duty. -/
theorem pumpFollow_stopped (sup : Bool) (a now : Nat) {x : PumpLive} (h : x.state = .stopped) :
    (pumpFollow sup a now x).state = (if 0 < a then .running else .stopped) ∧ (pumpFollow sup a now x).restart = x.restart ∧
      (pumpFollow sup a now x).faults = x.faults := by
  simp [pumpFollow, h]

theorem restartExpire_apart (p : Nat) (s : State) : PumpApart s (restartExpire p s) := by
  rw [restartExpire_eq, restarted]; exact .settled ⟨by simp, by simp, by simp, by simp, by simp, by simp⟩ _ _

theorem restartExpire_seen (p : Nat) (s : State) : coolingSeen s (restartExpire p s) := by
  rw [restartExpire_eq]
  exact coolingSeen_congr (by simp [restarted, modPump, modOut]) (by simp [restarted]) (by simp [restarted]) (coolSettle_seen _ _ _)

theorem restartExpire_pump {p : Nat} {s : State} (hp : p < 4) (hl : p < s.cool.pumps.length) (ho : p < s.cool.outs.length) :
    let x := outLive (restartExpire p s) p
    x.applied = restartDuty x s.mgmt.ringTables.cooling.shaping.minDuty ∧
      (pumpLive (restartExpire p s) p).state = (if 0 < x.applied then .running else .stopped) ∧ (pumpLive (restartExpire p s) p).restart = none ∧
      (pumpLive (restartExpire p s) p).faults = (pumpLive s p).faults := by
  intro x
  have hx : x = { restartOut p s with applied := restartDuty (restartOut p s) s.mgmt.ringTables.cooling.shaping.minDuty } := by
    rw [← outLive_restarted ho, ← outLive_coolSettle s (fun _ => false) (restarted p s)]; rfl
  have hpump := pumpLive_coolSettle s (fun _ => false) (restarted p s) hp (by simpa [restarted, modPump, modOut] using hl)
  rw [← restartExpire_eq, pumpLive_restarted hl, outLive_restarted ho, ← hx] at hpump
  obtain ⟨h1, h2, h3⟩ := pumpFollow_stopped (supervised (restarted p s) p) x.applied (restarted p s).now
    (x := { pumpLive s p with state := .stopped, restart := none }) rfl
  exact ⟨by rw [hx]; rfl, by rw [hpump, h1], by rw [hpump, h2], by rw [hpump, h3]⟩

theorem restartExpire_zones {p : Nat} {s : State} (hp : p < 4) (hl : p < s.cool.pumps.length) (ho : p < s.cool.outs.length)
    (hst : (pumpLive s p).state = .restartWait) : zonesSee p (restartExpire p s) := by
  have hstate := (restartExpire_pump hp hl ho).2.1
  rw [restartExpire_eq] at hstate ⊢
  refine zonesSee_changed hp (by simpa [restarted, modPump, modOut] using hl) ?_
  rw [hst, hstate]; split <;> decide

theorem faultFreeExpiry_due {s : State} {p t0 : Nat} (hs : s.phase = .running) (h0 : (pumpLive s p).clockSince = some t0)
    (hlate : 300000000 ≤ (pumpLive s p).clock + (s.now - t0)) :
    exec (.faultFreeExpiry p) s = .next (s.onCool (modPump p fun x => { x with faults := 0, clock := 0, clockSince := some s.now })) := by
  have hfree : decide (300 * Config.second ≤ faultFree (pumpLive s p) s.now) = true := by
    simp only [faultFree, h0, decide_eq_true_eq]; exact hlate
  simp only [exec, execFaultFreeExpiry, act, whenDue, hs, hfree, h0, Option.isSome_some, Bool.and_self, if_true]

theorem modPump_set (s : State) (p : Nat) (f : PumpLive → PumpLive) : s.cool.pumps.modify p f = s.cool.pumps.set p (f (pumpLive s p)) := by
  apply List.ext_getElem?; intro k
  rw [List.getElem?_modify, List.getElem?_set]
  by_cases hk : p = k
  · subst hk
    by_cases ho : p < s.cool.pumps.length <;> simp [ho, pumpLive]
  · simp [hk]

/-! ## CLEAR_PUMP_LOCK (R98) -/

/-- Unlocking pumps: theirs are fresh, the others as they were, and all that settles the cooling besides stays. -/
structure Unlocked (ps : List Nat) (s t : State) : Prop where
  apart : PumpApart s t
  pumps : t.cool.pumps.length = s.cool.pumps.length
  outs : t.cool.outs.length = s.cool.outs.length
  zones : t.cool.zones = s.cool.zones
  bay : t.cool.bay = s.cool.bay
  seqr : t.seqr = s.seqr
  tables : t.mgmt.ringTables = s.mgmt.ringTables
  fresh : ∀ p ∈ ps, p < s.cool.pumps.length → pumpLive t p = freshPump
  others : ∀ p, p ∉ ps → pumpLive t p = pumpLive s p

theorem unlockPump_unlocked (s : State) (p : Nat) : Unlocked [p] s (unlockPump s p) where
  apart := ⟨by simp [unlockPump], by simp [unlockPump], by simp [unlockPump], by simp [unlockPump], by simp [unlockPump], by simp [unlockPump]⟩
  pumps := by simp [unlockPump, modPump, modOut]
  outs := by simp [unlockPump, modPump, modOut]
  zones := by simp [unlockPump, modPump, modOut]
  bay := by simp [unlockPump, modPump, modOut]
  seqr := by simp [unlockPump]
  tables := by simp [unlockPump]
  fresh := by
    intro k hk hl
    obtain rfl := List.mem_singleton.mp hk
    have h := pumpLive_modPump s k k (fun _ => freshPump) hl
    rw [if_pos rfl] at h
    rw [← h, unlockPump, pumpLive, pumpLive, State.onCool_cool, modOut, raiseNotice_cool]
  others := by
    intro k hk
    have hne : ¬p = k := fun e => hk (by simp [e])
    simp [unlockPump, pumpLive, modPump, modOut, hne]

theorem Unlocked.trans {ps qs : List Nat} {s t u : State} (h : Unlocked ps s t) (g : Unlocked qs t u) : Unlocked (ps ++ qs) s u where
  apart := ⟨g.apart.fire.trans h.apart.fire, g.apart.loop.trans h.apart.loop, g.apart.cell.trans h.apart.cell, g.apart.now.trans h.apart.now,
    g.apart.store.trans h.apart.store, g.apart.pending.trans h.apart.pending⟩
  pumps := g.pumps.trans h.pumps
  outs := g.outs.trans h.outs
  zones := g.zones.trans h.zones
  bay := g.bay.trans h.bay
  seqr := g.seqr.trans h.seqr
  tables := g.tables.trans h.tables
  fresh := by
    intro p hp hl
    by_cases hq : p ∈ qs
    · exact g.fresh p hq (by rwa [h.pumps])
    · rw [g.others p hq]; exact h.fresh p ((List.mem_append.mp hp).resolve_right hq) hl
  others := by
    intro p hp
    rw [g.others p fun e => hp (List.mem_append_right _ e), h.others p fun e => hp (List.mem_append_left _ e)]

theorem foldl_unlockPump (ps : List Nat) (s : State) : Unlocked ps s (ps.foldl unlockPump s) := by
  induction ps generalizing s with
  | nil => exact ⟨⟨rfl, rfl, rfl, rfl, rfl, rfl⟩, rfl, rfl, rfl, rfl, rfl, rfl, fun _ h => by simp at h, fun _ _ => rfl⟩
  | cons p ps ih => exact (unlockPump_unlocked s p).trans (ih _)

theorem Unlocked.answered {ps : List Nat} {s t : State} (h : Unlocked ps s t) (r : Request) (code : Nat) (res : List Byte) : Unlocked ps s (done r code res t) where
  apart := ⟨by simp [done, h.apart.fire], by simp [done, h.apart.loop], by simp [done, h.apart.cell], by simp [done, h.apart.now],
    by simp [done, h.apart.store], by simp [done, h.apart.pending]⟩
  pumps := by simp [done, h.pumps]
  outs := by simp [done, h.outs]
  zones := by simp [done, h.zones]
  bay := by simp [done, h.bay]
  seqr := by simp [done, h.seqr]
  tables := by simp [done, h.tables]
  fresh p hp hl := by simpa [done, pumpLive] using h.fresh p hp hl
  others p hp := by simpa [done, pumpLive] using h.others p hp

/-- The state before the cooling settles, of a CLEAR_PUMP_LOCK. -/
def lockCleared (r : Request) (ps : List Nat) (s : State) : State :=
  let locked := ps.filter fun p => (pumpLive s p).state == .locked
  done r 0x11 (encU8 locked.length) (locked.foldl unlockPump s)

theorem clearPumpBody_eq (r : Request) (ps : List Nat) (s : State) :
    clearPumpBody r ps s = coolSettle s (pumpNamed s ps) (lockCleared r ps s) := rfl

theorem lockCleared_unlocked (r : Request) (ps : List Nat) (s : State) :
    Unlocked (ps.filter fun p => (pumpLive s p).state == .locked) s (lockCleared r ps s) :=
  (foldl_unlockPump _ s).answered _ _ _

theorem clearPumpLock_held {r : Request} {b : Byte} {ps : List Nat} {s : State} (h : held r s) (ha : r.args = [b]) (hb : namedPumps b.toNat = some ps) :
    exec (.clearPumpLock r) s = .next (clearPumpBody r ps (received r s)) :=
  argsRequest_held _ _ h (by simp [oneByte_of ha, hb])

theorem PumpApart.trans {s t u : State} (h : PumpApart s t) (g : PumpApart t u) : PumpApart s u :=
  ⟨g.fire.trans h.fire, g.loop.trans h.loop, g.cell.trans h.cell, g.now.trans h.now, g.store.trans h.store, g.pending.trans h.pending⟩

theorem clearPumpBody_apart (r : Request) (ps : List Nat) (s : State) : PumpApart s (clearPumpBody r ps (received r s)) :=
  .settled (.trans ⟨by simp, by simp, by simp, by simp, by simp, by simp⟩ (lockCleared_unlocked r ps (received r s)).apart) _ _

theorem clearPumpBody_seen (r : Request) (ps : List Nat) (s : State) : coolingSeen s (clearPumpBody r ps (received r s)) := by
  have h := lockCleared_unlocked r ps (received r s)
  rw [clearPumpBody_eq]
  exact coolingSeen_congr (u := lockCleared r ps (received r s)) (by rw [h.bay, received_cool]) (by rw [h.seqr, received_seqr]) (by rw [h.apart.now, received_now]) (coolSettle_seen _ _ _)

/-- A pump that was locked and is named follows its duty from a fresh record. -/
theorem clearPumpBody_unlocks (r : Request) {ps : List Nat} {s : State} {p : Nat} (hp : p < 4) (hl : p < s.cool.pumps.length) (hin : p ∈ ps)
    (hst : (pumpLive s p).state = .locked) :
    let t := clearPumpBody r ps (received r s)
    (pumpLive t p).faults = 0 ∧ (pumpLive t p).restart = none ∧ (pumpLive t p).state = (if 0 < (outLive t p).applied then .running else .stopped) := by
  intro t
  have h := lockCleared_unlocked r ps (received r s)
  have hlive : pumpLive (received r s) p = pumpLive s p := by simp [pumpLive]
  have hfresh := h.fresh p (List.mem_filter.mpr ⟨hin, by rw [hlive, hst]; rfl⟩) (by simpa using hl)
  have ht : pumpLive t p = pumpFollow (supervised (lockCleared r ps (received r s)) p) (outLive t p).applied (lockCleared r ps (received r s)).now freshPump := by
    rw [← hfresh, show outLive t p = outLive (lockCleared r ps (received r s)) p from outLive_coolSettle _ _ _ _]
    exact pumpLive_coolSettle (received r s) (pumpNamed (received r s) ps) (lockCleared r ps (received r s)) hp (by rw [h.pumps]; simpa using hl)
  obtain ⟨h1, h2, h3⟩ := pumpFollow_stopped (supervised (lockCleared r ps (received r s)) p) (outLive t p).applied (lockCleared r ps (received r s)).now
    (x := freshPump) rfl
  exact ⟨by rw [ht, h3]; rfl, by rw [ht, h2]; rfl, by rw [ht, h1]⟩

/-- A pump that is not named keeps its lock. -/
theorem clearPumpBody_keeps (r : Request) {ps : List Nat} {s : State} {p : Nat} (hp : p < 4) (hout : p ∉ ps)
    (hst : (pumpLive s p).state = .locked) : (pumpLive (clearPumpBody r ps (received r s)) p).state = .locked := by
  have hl : p < s.cool.pumps.length := by
    by_contra hc; rw [pumpLive_default (by omega)] at hst; exact absurd hst (by decide)
  have h := lockCleared_unlocked r ps (received r s)
  have hsame := h.others p fun e => hout (List.mem_of_mem_filter e)
  rw [clearPumpBody_eq, pumpLive_coolSettle _ _ _ hp (by rw [h.pumps]; simpa using hl), hsame]
  simp [pumpFollow, show pumpLive (received r s) p = pumpLive s p by simp [pumpLive], hst]

/-- No pump that is named is left locked. -/
theorem clearPumpBody_unlocked (r : Request) {ps : List Nat} {s : State} {p : Nat} (hp : p < 4) (hl : p < s.cool.pumps.length) (hin : p ∈ ps) :
    (pumpLive (clearPumpBody r ps (received r s)) p).state ≠ .locked := by
  by_cases hst : (pumpLive s p).state = .locked
  · rw [(clearPumpBody_unlocks r hp hl hin hst).2.2]; split <;> decide
  · have h := lockCleared_unlocked r ps (received r s)
    have hlive : pumpLive (received r s) p = pumpLive s p := by simp [pumpLive]
    have hsame := h.others p fun e => hst (by simpa [hlive] using (List.mem_filter.mp e).2)
    rw [clearPumpBody_eq, pumpLive_coolSettle _ _ _ hp (by rw [h.pumps]; simpa using hl), hsame, hlive]
    cases hs : (pumpLive s p).state <;> simp_all [pumpFollow]
    all_goals split <;> decide

theorem clearPumpBody_zones (r : Request) {ps : List Nat} {s : State} {p : Nat} (hin : p ∈ ps) :
    zonesSee p (clearPumpBody r ps (received r s)) := by
  have h := lockCleared_unlocked r ps (received r s)
  rw [clearPumpBody_eq]
  refine zonesSee_coolSettle fun z hz => .inl ?_
  rw [h.tables, received_mgmt] at hz
  simp [pumpNamed, hz, hin]

/-! ## Publications and node states (R84, R85, R99) -/

/-- A publication's views, duties and counted zones, before the cooling settles (R85 to R91). -/
def published (b : BaySummary) (s : State) : State :=
  let t := zoneViews b s
  (t.onCool fun c => { c with outs := c.outs.mapIdx fun o x => publishOut t (stepOf t.mgmt.ringTables.cooling.shaping.dutySlope b.elapsed) o x }).onCool fun c =>
    { c with zones := c.zones.mapIdx fun z x => { x with counted := zoneHasModule t z } }

theorem coolingPass_eq (b : BaySummary) (s : State) : coolingPass b s = coolSettle s (fun _ => true) (published b s) := by
  have hviews : (List.range 4).foldl (fun x z => zoneView b z x) s = zoneViews b s := rfl
  simp only [coolingPass, hviews, published]

/-- The views of a publication leave what the cooling is seen from. -/
theorem zoneViews_apart (b : BaySummary) (s : State) :
    (zoneViews b s).cool.bay = s.cool.bay ∧ (zoneViews b s).seqr = s.seqr ∧ (zoneViews b s).now = s.now ∧ (zoneViews b s).ring = s.ring := by
  have hbay (x : State) (z : Nat) : (zoneView b z x).cool.bay = x.cool.bay := by unfold zoneView; simp [modZone]
  have hseqr (x : State) (z : Nat) : (zoneView b z x).seqr = x.seqr := by unfold zoneView; simp
  have hnow (x : State) (z : Nat) : (zoneView b z x).now = x.now := by unfold zoneView; simp
  have hring (x : State) (z : Nat) : (zoneView b z x).ring = x.ring := by unfold zoneView; simp
  exact ⟨foldl_keeps (fun x : State => x.cool.bay) _ hbay _ s, foldl_keeps State.seqr _ hseqr _ s, foldl_keeps State.now _ hnow _ s,
    foldl_keeps State.ring _ hring _ s⟩

theorem published_cool (b : BaySummary) (s : State) : (published b s).cool = { (zoneViews b s).cool with
    outs := (published b s).cool.outs, zones := (zoneViews b s).cool.zones.mapIdx fun z x => { x with counted := zoneHasModule (zoneViews b s) z } } := by
  simp only [published, State.onCool_cool]

theorem coolingPass_seen (b : BaySummary) (s : State) : coolingSeen s (coolingPass b s) := by
  obtain ⟨hbay, hseqr, hnow, -⟩ := zoneViews_apart b s
  rw [coolingPass_eq]
  exact coolingSeen_congr (u := published b s) (by rw [published_cool]; exact hbay) (by simpa only [published, State.onCool_seqr] using hseqr)
    (by simpa only [published, State.onCool_now] using hnow) (coolSettle_seen _ _ _)

/-- A zone's MODULEs serve by the Node Table and the nodes alone. -/
theorem moduleServes_congr {s t : State} (hr : t.ring.nodes = s.ring.nodes) (hm : t.mgmt.ringTables = s.mgmt.ringTables) (z : Nat) :
    moduleServes t z ↔ moduleServes s z := by
  rw [← zoneHasModule_iff, ← zoneHasModule_iff, zoneHasModule, zoneHasModule, moduleCount, moduleCount, hr, hm]

theorem coolingPass_zones (b : BaySummary) (s : State) (z : Nat) (hz : z < 4) (hl : z < (coolingPass b s).cool.zones.length) :
    zoneStands (coolingPass b s) z ∧ ((zoneLive (coolingPass b s) z).counted = true ↔ moduleServes (coolingPass b s) z) := by
  rw [coolingPass_eq, zones_length_coolSettle] at hl
  have hserves : moduleServes (coolSettle s (fun _ => true) (published b s)) z ↔ moduleServes (zoneViews b s) z :=
    moduleServes_congr (by rw [coolSettle_ring]; simp only [published, State.onCool_ring])
      (by rw [ringTables_coolSettle]; simp only [published, State.onCool_mgmt]) z
  have hlen : z < (zoneViews b s).cool.zones.length := by rwa [published_cool, List.length_mapIdx] at hl
  have hcounted : (zoneLive (published b s) z).counted = zoneHasModule (zoneViews b s) z := by
    rw [zoneLive, published_cool]; simp [hlen]
  rw [coolingPass_eq, zoneLive_coolSettle _ _ _ hz hl, hcounted, hserves, zoneHasModule_iff]
  exact ⟨coolSettle_stands _ _ _ z hz hl (.inl rfl), Iff.rfl⟩

theorem coolNode_zone {a z : Nat} {s : State} (hz : z < 4) (hl : z < (coolNode a s).cool.zones.length)
    (hn : (zoneCfg s.mgmt.ringTables.cooling z).node = some a) (hrole : (cfgOf s a).role = .cool) (hzone : (cfgOf s a).zone = z) :
    zoneStands (coolNode a s) z := by
  rw [coolNode, zones_length_coolSettle] at hl
  exact coolSettle_stands _ _ _ z hz hl (.inl (by simp [effNode, hn, hrole, hzone]))

end Sys2Proof.Machine
end

section
/-! The Bay Ring: the start of a round, the end of a sending, the response window, the reply timeout, the transmission opportunity and the requests that change a
node. -/

namespace Sys2Proof.Machine

/-! ## The start of a round (R8, R13, R14) -/

/-- A broadcast joins what both ports send, and advances the count. -/
theorem broadcast_frame (kind : Byte) (payload : List Byte) (now : Nat) (r : Ring) : broadcast kind payload now r =
    { r with count := nextCount r.count, portA := (broadcast kind payload now r).portA, portB := (broadcast kind payload now r).portB } := rfl

theorem broadcast_tx (kind : Byte) (payload : List Byte) (now : Nat) (r : Ring) :
    (broadcast kind payload now r).portA.tx = r.portA.tx ++ [⟨⟨63, 0, kind, BitVec.ofNat 8 r.count, payload⟩, .broadcast⟩] ∧
      (broadcast kind payload now r).portB.tx = r.portB.tx ++ [⟨⟨63, 0, kind, BitVec.ofNat 8 r.count, payload⟩, .broadcast⟩] := ⟨rfl, rfl⟩

/-- The ring once a round has been counted and its next due time set, and the SPLIT, if one is due, is on its way. -/
def roundCounted (s : State) : State :=
  let s := s.onRing fun r => { r with
    round := (r.round + 1) % 65536, running := true, roundStart := s.now, fallenDue := false, overrun := false,
    dueAt := some (s.now + s.mgmt.ringTables.interval * Config.ms) }
  if s.ring.splitPending then s.onRing fun r => sendSplit s.now { r with splitPending := false } else s

/-- The poll lists of the sides and the SYNC, sent once the sides are set. -/
def syncSending (s : State) (r : Ring) : Ring :=
  broadcast kSync (encU16 r.round) s.now
    { r with
      seqA := ⟨.sync, toPoll s (if s.ring.splitEff = 0 then s.mgmt.ringTables.poll else s.mgmt.ringTables.poll.take (s.ring.splitEff - 1))⟩
      seqB := if s.ring.splitEff = 0 then idleSeq else ⟨.sync, toPoll s (s.mgmt.ringTables.poll.drop (s.ring.splitEff - 1))⟩ }

/-- What the SPLIT changes of the ring: its ports, its count and the split that was pending. -/
theorem roundCounted_frame (s : State) : roundCounted s = { s with ring := (roundCounted s).ring } := by
  simp only [roundCounted]; split <;> rfl

theorem roundCounted_ring (s : State) : (roundCounted s).ring = { s.ring with
    round := (s.ring.round + 1) % 65536, running := true, roundStart := s.now, fallenDue := false, overrun := false,
    dueAt := some (s.now + s.mgmt.ringTables.interval * Config.ms), splitPending := false,
    count := if s.ring.splitPending then nextCount s.ring.count else s.ring.count,
    portA := (roundCounted s).ring.portA, portB := (roundCounted s).ring.portB } := by
  cases h : s.ring.splitPending
  · simp only [roundCounted, State.onRing_ring, h, Bool.false_eq_true, if_false]
  · simp only [roundCounted, State.onRing_ring, h, if_true, sendSplit]
    rw [broadcast_frame]

/-- The SPLIT of a ring, if one is due, as its ports send it. -/
def splitDue (r : Ring) : List RingTx :=
  if r.splitPending then [⟨⟨63, 0, kSplit, ringCount r, encU8 r.splitReq⟩, .broadcast⟩] else []

theorem roundCounted_tx (s : State) : (roundCounted s).ring.portA.tx = s.ring.portA.tx ++ splitDue s.ring ∧
    (roundCounted s).ring.portB.tx = s.ring.portB.tx ++ splitDue s.ring := by
  cases h : s.ring.splitPending <;> simp [roundCounted, splitDue, h, sendSplit, broadcast_tx, ringCount]

theorem sidesAtStart_frame (s : State) :
    sidesAtStart s = { s with ring := { s.ring with splitEff := s.ring.splitReq, nodes := (sidesAtStart s).ring.nodes } } := rfl

/-- The sides are set; the states of the nodes stay. -/
theorem sidesAtStart_state (s : State) (a : Nat) : (liveOf (sidesAtStart s) a).state = (liveOf s a).state := by
  cases a with
  | zero => rfl
  | succ k =>
    simp only [liveOf, sidesAtStart, State.onRing, liveIn, List.getD_eq_getElem?_getD, List.getElem?_mapIdx]
    cases s.ring.nodes[k]? with
    | none => rfl
    | some l => simp only [Option.map_some, Option.getD_some]; split <;> rfl

theorem ringBrokenNow_congr {s t : State} (hn : t.ring.nodes = s.ring.nodes) (hs : t.ring.splitEff = s.ring.splitEff)
    (hm : t.mgmt.ringTables = s.mgmt.ringTables) : ringBrokenNow t = ringBrokenNow s := by
  simp only [ringBrokenNow, joined, liveOf, cfgOf, hn, hs, hm]

/-- A notice depends on nothing of the ring but the number of the round. -/
theorem raiseNotice_link_congr {s t : State} (n : Notice) (hnow : t.now = s.now) (hm : t.mgmt.ringTables.rate = s.mgmt.ringTables.rate)
    (hr : t.ring.round = s.ring.round) (hl : t.link = s.link) : (raiseNotice n t).link = (raiseNotice n s).link := by
  simp only [raiseNotice, State.onLink_link, hnow, hm, hr, hl]

/-- `t` is `s` once a round has started. -/
structure RoundStarted (s t : State) : Prop where
  frame : t = { s with ring := t.ring, link := t.link }
  ring : t.ring = { s.ring with
    round := (s.ring.round + 1) % 65536, running := true, roundStart := s.now, fallenDue := false, overrun := false,
    dueAt := some (s.now + s.mgmt.ringTables.interval * Config.ms), splitPending := false, splitEff := s.ring.splitReq, count := t.ring.count,
    portA := t.ring.portA, portB := t.ring.portB, nodes := t.ring.nodes, broken := t.ring.broken, seqA := t.ring.seqA, seqB := t.ring.seqB }
  txA : t.ring.portA.tx = s.ring.portA.tx ++ splitDue s.ring ++ [⟨⟨63, 0, kSync, BitVec.ofNat 8 (if s.ring.splitPending then nextCount s.ring.count
    else s.ring.count), encU16 t.ring.round⟩, .broadcast⟩]
  txB : t.ring.portB.tx = s.ring.portB.tx ++ splitDue s.ring ++ [⟨⟨63, 0, kSync, BitVec.ofNat 8 (if s.ring.splitPending then nextCount s.ring.count
    else s.ring.count), encU16 t.ring.round⟩, .broadcast⟩]
  seqA : t.ring.seqA = ⟨.sync, (if s.ring.splitReq = 0 then s.mgmt.ringTables.poll else s.mgmt.ringTables.poll.take (s.ring.splitReq - 1)).filter
    fun a => (liveOf s a).state != .excluded⟩
  seqB : t.ring.seqB = if s.ring.splitReq = 0 then ⟨.idle, []⟩ else ⟨.sync, (s.mgmt.ringTables.poll.drop (s.ring.splitReq - 1)).filter
    fun a => (liveOf s a).state != .excluded⟩
  broken : t.ring.broken = ringBrokenNow t
  told : t.link = if t.ring.broken = s.ring.broken then s.link else (raiseNotice (nRingBroken t.ring.broken) { s with ring := t.ring }).link

theorem ringBrokenEval_ring (s : State) : (ringBrokenEval s).ring = { s.ring with broken := ringBrokenNow s } := by simp [ringBrokenEval]

theorem ringBrokenEval_frame (s : State) : ringBrokenEval s = { s with ring := { s.ring with broken := ringBrokenNow s }, link := (ringBrokenEval s).link } := by
  apply State.eq_of_fields <;> simp [ringBrokenEval]

/-- The ring of a round that starts, before its SYNC. -/
def syncReady (s : State) : State := ringBrokenEval (sidesAtStart (roundCounted s))

theorem syncReady_ring (s : State) : (syncReady s).ring = { (roundCounted s).ring with
    splitEff := s.ring.splitReq, nodes := (syncReady s).ring.nodes, broken := ringBrokenNow (sidesAtStart (roundCounted s)) } := by
  have hreq : (roundCounted s).ring.splitReq = s.ring.splitReq := by rw [roundCounted_ring]
  rw [syncReady, ringBrokenEval_ring, sidesAtStart_frame, hreq]

theorem syncReady_frame (s : State) : syncReady s = { s with ring := (syncReady s).ring, link := (syncReady s).link } := by
  unfold syncReady
  rw [ringBrokenEval_frame, sidesAtStart_frame, roundCounted_frame]

theorem syncReady_state (s : State) (a : Nat) : (liveOf (syncReady s) a).state = (liveOf s a).state := by
  have hnodes : (syncReady s).ring.nodes = (sidesAtStart (roundCounted s)).ring.nodes := by rw [syncReady, ringBrokenEval_ring]
  rw [liveOf, hnodes]
  refine (sidesAtStart_state (roundCounted s) a).trans ?_
  rw [liveOf, roundCounted_ring, liveOf]

theorem syncSending_ring (s : State) (r : Ring) : syncSending s r = { r with
    count := nextCount r.count, portA := (syncSending s r).portA, portB := (syncSending s r).portB,
    seqA := (syncSending s r).seqA, seqB := (syncSending s r).seqB } := rfl

theorem syncSending_seqs (s : State) (r : Ring) :
    (syncSending s r).seqA = ⟨.sync, toPoll s (if s.ring.splitEff = 0 then s.mgmt.ringTables.poll else s.mgmt.ringTables.poll.take (s.ring.splitEff - 1))⟩ ∧
      (syncSending s r).seqB = if s.ring.splitEff = 0 then ⟨.idle, []⟩ else ⟨.sync, toPoll s (s.mgmt.ringTables.poll.drop (s.ring.splitEff - 1))⟩ := ⟨rfl, rfl⟩

theorem roundStart_started (s : State) : RoundStarted s (roundStart s) := by
  have hring : (roundStart s).ring = syncSending (syncReady s) (syncReady s).ring := rfl
  have hframe : roundStart s = { syncReady s with ring := (roundStart s).ring } := rfl
  have hmgmt : (syncReady s).mgmt = s.mgmt := by rw [syncReady_frame]
  have heff : (syncReady s).ring.splitEff = s.ring.splitReq := by rw [syncReady_ring]
  have hpoll (l : List Nat) : toPoll (syncReady s) l = l.filter fun a => (liveOf s a).state != .excluded := by
    simp only [toPoll, syncReady_state]
  have hcount : (syncReady s).ring.count = if s.ring.splitPending then nextCount s.ring.count else s.ring.count := by
    rw [syncReady_ring, roundCounted_ring]
  have hbroken : (roundStart s).ring.broken = ringBrokenNow (sidesAtStart (roundCounted s)) := by rw [hring, syncSending_ring, syncReady_ring]
  refine ⟨?_, ?_, ?_, ?_, ?_, ?_, ?_, ?_⟩
  · rw [hframe, syncReady_frame]
  · rw [hring, syncSending_ring, syncReady_ring, roundCounted_ring]
  · rw [hring, ← (roundCounted_tx s).1, ← hcount]
    exact (broadcast_tx _ _ _ _).1.trans (by rw [syncReady_ring]; rfl)
  · rw [hring, ← (roundCounted_tx s).2, ← hcount]
    exact (broadcast_tx _ _ _ _).2.trans (by rw [syncReady_ring]; rfl)
  · rw [hring, (syncSending_seqs _ _).1, hpoll, heff, hmgmt]
  · rw [hring, (syncSending_seqs _ _).2, hpoll, heff, hmgmt]
  · rw [hbroken]
    refine (ringBrokenNow_congr ?_ ?_ ?_).symm
    · rw [hring, syncSending_ring, syncReady, ringBrokenEval_ring]
    · rw [hring, syncSending_ring, heff, sidesAtStart_frame, roundCounted_ring]
    · rw [hframe, hmgmt, sidesAtStart_frame, roundCounted_frame]
  · have hlink : (roundStart s).link = (ringBrokenEval (sidesAtStart (roundCounted s))).link := rfl
    rw [hlink, ringBrokenEval, hbroken]
    have hold : (sidesAtStart (roundCounted s)).ring.broken = s.ring.broken := by rw [sidesAtStart_frame, roundCounted_ring]
    rw [hold]
    by_cases h : ringBrokenNow (sidesAtStart (roundCounted s)) = s.ring.broken
    · rw [if_pos h, h, bne_self_eq_false]
      simp only [raiseIf, Bool.false_eq_true, if_false, State.onRing_link]
      rw [sidesAtStart_frame, roundCounted_frame]
    · rw [if_neg h, raiseIf, if_pos (bne_iff_ne.mpr (Ne.symm h))]
      refine raiseNotice_link_congr _ ?_ ?_ ?_ ?_
      · rw [State.onRing_now, sidesAtStart_frame, roundCounted_frame]
      · rw [State.onRing_mgmt, sidesAtStart_frame, roundCounted_frame]
      · rw [State.onRing_ring, sidesAtStart_frame, hring, syncSending_ring, syncReady_ring]
      · rw [State.onRing_link, sidesAtStart_frame, roundCounted_frame]

theorem roundDue_due {s : State} {d : Nat} (hs : s.phase = .running) (hd : s.ring.dueAt = some d) (hlate : d ≤ s.now) (hf : s.ring.fallenDue = false) :
    exec .roundDue s = .next (roundDue s) := by
  have hdue : roundDueNow s = true := by simp [roundDueNow, hf, hd, hlate]
  exact (act_running _ hs).trans (congrArg _ (whenDue_true _ _ hdue))

theorem ringQuiet_iff (r : Ring) : ringQuiet r = true ↔ r.seqA.phase = .idle ∧ r.seqB.phase = .idle ∧ r.portA.tx = [] ∧ r.portB.tx = [] := by
  simp [ringQuiet, and_assoc]

theorem splitDue_length (r : Ring) : (splitDue r).length = if r.splitPending then 1 else 0 := by unfold splitDue; split <;> rfl

/-- Settles O22. -/
theorem roundDueStartsARound : Obligations.RoundDueStartsARound := by
  refine ⟨fun s d hs hd hlate hf hr hq => ?_, fun s d hs hd hlate hf hr => ?_, fun s d hs hd hlate hf hr hq => ?_⟩
  · obtain ⟨-, -, htA, htB⟩ := (ringQuiet_iff _).mp hq
    have ht := roundStart_started s
    have he : roundDue s = roundStart s := by simp [roundDue, hr, hq]
    have hn := ht.ring
    have hlen : (roundStart s).ring.portA.tx.length = if s.ring.splitPending then 2 else 1 := by
      rw [ht.txA, htA]; simp [splitDue_length]; split <;> rfl
    refine ⟨_, (roundDue_due hs hd hlate hf).trans (congrArg _ he), ht.frame, by rw [hn], by rw [hn], by rw [hn], by rw [hn]; rfl, by rw [hn], by rw [hn],
      by rw [hn], by rw [hn], by rw [hn], ?_, hlen, ?_, by rw [ht.seqA], fun h0 => ⟨?_, ?_⟩, fun h0 => ⟨?_, ?_, ?_⟩⟩
    · rw [ht.txA]; simp
    · rw [ht.txA, ht.txB, htA, htB]
    · rw [ht.seqA, if_pos h0]
    · rw [ht.seqB, if_pos h0]
    · rw [ht.seqB, if_neg h0]
    · rw [ht.seqA, if_neg h0]
    · rw [ht.seqB, if_neg h0]
  · exact (roundDue_due hs hd hlate hf).trans (by simp [roundDue, hr, State.onRing])
  · exact (roundDue_due hs hd hlate hf).trans (by simp [roundDue, hr, hq, State.onRing])

/-! ## The end of a sending (R10, R21, R24) -/

theorem sideOfPort_eq (r : Ring) (p : RingPort) : sideOfPort r p = if r.splitEff = 0 then .a else p := by
  by_cases h : r.splitEff = 0 <;> simp [sideOfPort, joined, h]

theorem frameLength_eq (f : Frame) : frameLength f = 8 + f.payload.length := by simp [frameLength]

/-- The ring of a port whose frame has left. -/
def frameLeft (p : RingPort) (r : List RingTx) (s : State) : State :=
  { s with ring := modPort p (fun y => { y with tx := r, txSince := s.now }) s.ring }

theorem frameLeft_kept (p : RingPort) (r : List RingTx) (s : State) : (frameLeft p r s).ring = { s.ring with
    portA := (frameLeft p r s).ring.portA, portB := (frameLeft p r s).ring.portB } := by cases p <;> rfl

theorem modPort_tail {p : RingPort} {x : RingTx} {r : List RingTx} {g : Ring} (now : Nat) (h : (portOf g p).tx = x :: r) :
    modPort p (fun y => { y with tx := y.tx.drop 1, txSince := now }) g = modPort p (fun y => { y with tx := r, txSince := now }) g := by
  cases p <;> simp only [portOf] at h <;> simp [modPort, h]

/-- What the end of a frame's sending does, by the frame's purpose (R10, R21, R24). -/
def sendingEnds (p : RingPort) (x : RingTx) (s : State) : State :=
  let side := sideOfPort s.ring p
  match x.purpose with
  | .broadcast =>
    if (seqOf s.ring side).phase = .sync then (if syncSent s.ring side then opportunity side s else s) else startIfDue s
  | .poll a second =>
    if (liveOf s a).state = .excluded then opportunity side s else setPhase side (.waiting a p second s.now) s
  | .slot => endOpportunity side s
  | .command d from_ => setPhase side (.window d p from_ s.now) s

theorem ringTxDone_due {p : RingPort} {x : RingTx} {r : List RingTx} {s : State} (hs : s.phase = .running) (hx : (portOf s.ring p).tx = x :: r)
    (hlate : (portOf s.ring p).txSince + 10 * (8 + x.frame.payload.length) ≤ s.now) :
    exec (.ringTxDone p) s = .next (sendingEnds p x (frameLeft p r s)) := by
  have hran : ran (portOf s.ring p).txSince (10 * frameLength x.frame) s.now = true := by rw [frameLength_eq]; exact ran_of hlate
  have hdue : ringTxDue s p = some x := by simp only [ringTxDue, hx, hran, if_true]
  have hleft : s.onRing (modPort p fun y => { y with tx := y.tx.drop 1, txSince := s.now }) = frameLeft p r s := by
    rw [State.onRing, modPort_tail _ hx, frameLeft]
  simp only [exec, execRingTxDone, act, hs, hdue, ringSent, hleft, sendingEnds]
  cases x.purpose <;> rfl

theorem syncSent_iff (r : Ring) (side : RingPort) :
    syncSent r side = true ↔ if r.splitEff = 0 then r.portA.tx = [] ∧ r.portB.tx = [] else (portOf r side).tx = [] := by
  by_cases h : r.splitEff = 0 <;> simp [syncSent, joined, h]

theorem portOf_modPort (p : RingPort) (f : RingPortState → RingPortState) (r : Ring) : portOf (modPort p f r) p = f (portOf r p) := by cases p <;> rfl

theorem modSeq_frame (p : RingPort) (f : PollSeq → PollSeq) (r : Ring) : modSeq p f r = { r with seqA := (modSeq p f r).seqA, seqB := (modSeq p f r).seqB } := by
  cases p <;> rfl

/-- A round that waits starts, or the ring stays as it is (R8). -/
theorem startIfDue_starts {s : State} (hf : s.ring.fallenDue = true) (hr : s.ring.running = false) (hq : ringQuiet s.ring = true) :
    startIfDue s = roundStart s := by simp [startIfDue, hf, hr, hq]

theorem startIfDue_waits {s : State} (h : s.ring.fallenDue = false ∨ ringQuiet s.ring = false) : startIfDue s = s := by
  obtain h | h := h <;> simp [startIfDue, h]

/-- Settles O23. -/
theorem ringSendingEnds : Obligations.RingSendingEnds := by
  intro p x r s hs hx hlate side rest sent idle syncOut
  have hexec := ringTxDone_due hs hx hlate
  have hsent : frameLeft p r s = sent := rfl
  have hside : sideOfPort sent.ring p = side := by rw [sideOfPort_eq, ← hsent, frameLeft_kept]
  have hlive (a : Nat) : liveOf sent a = liveOf s a := by simp only [liveOf, ← hsent]; rw [frameLeft_kept]
  have hrun : sent.ring.running = s.ring.running := by rw [← hsent, frameLeft_kept]
  have hfallen : sent.ring.fallenDue = s.ring.fallenDue := by rw [← hsent, frameLeft_kept]
  have hseq : seqOf sent.ring side = seqOf s.ring side := seqOf_modPort _ _ _ _
  have hidle : setPhase side .idle sent = idle := rfl
  have hidleFrame : idle.ring = { sent.ring with seqA := idle.ring.seqA, seqB := idle.ring.seqB } :=
    modSeq_frame side (fun q => { q with phase := .idle }) rest
  have hsync : syncSent sent.ring side = true ↔ syncOut := by
    have heff : sent.ring.splitEff = s.ring.splitEff := by rw [← hsent, frameLeft_kept]
    rw [syncSent_iff, heff]
    by_cases h0 : s.ring.splitEff = 0
    · simp only [syncOut, h0, if_true]; exact Iff.rfl
    · have hp : side = p := if_neg h0
      have htx : (portOf sent.ring p).tx = r := by rw [← hsent, frameLeft, portOf_modPort]
      simp only [syncOut, h0, if_false, hp, htx]
  rw [hsent] at hexec
  refine ⟨fun a second hp hl => ?_, fun a second hp hl => ?_, fun d up hp => ?_, fun hp hph => ⟨fun hout => ?_, fun hout => ?_⟩, fun hp hr => ?_,
    fun hp hr => ⟨fun h => ?_, fun hf hq => ?_⟩⟩ <;> rw [hexec] <;> simp only [sendingEnds, hp, hside]
  · rw [if_neg (by rwa [hlive])]; rfl
  · rw [if_pos (by rwa [hlive])]; exact ⟨_, rfl, opportunity_arises _ _⟩
  · rfl
  · have hnot : syncSent sent.ring side = false := by rw [← Bool.not_eq_true, hsync]; exact hout
    rw [hseq, if_pos hph, hnot]; rfl
  · rw [hseq, if_pos hph, hsync.mpr hout]; exact ⟨_, rfl, opportunity_arises _ _⟩
  · rw [endOpportunity, if_pos (by rw [hrun]; exact hr)]; exact ⟨_, rfl, nextPoll_pollsNext _ _⟩
  · rw [endOpportunity, if_neg (by rw [hrun, hr]; decide), hidle, startIfDue_waits]
    exact h.imp_left fun h => by rw [hidleFrame, hfallen]; exact h
  · rw [endOpportunity, if_neg (by rw [hrun, hr]; decide), hidle,
      startIfDue_starts (by rw [hidleFrame, hfallen]; exact hf) (by rw [hidleFrame, hrun]; exact hr) hq]
    have ht := roundStart_started idle
    have hring := ht.ring
    have hround : idle.ring.round = s.ring.round := by rw [hidleFrame, ← hsent, frameLeft_kept]
    exact ⟨_, rfl, ht.frame, by rw [hring], by rw [hring, hround], by rw [hring], by rw [hring], by rw [ht.seqA]⟩

/-! ## A valid frame that arrives (R2, R16) -/

/-- A frame that passes the screening is given to its row, and what it leaves unanswered ends (R2, R10). -/
theorem ringFrame_passes (p : RingPort) (t0 : Nat) {f : Frame} {s : State} (deliver : State → State) (h : admitted s f)
    (hk : f.kind = kSample ∨ f.kind = kNodeRsp ∨ (f.kind = kSetpointAck ∧ (cfgOf s f.src.toNat).role = .conv)) :
    ringFrame f.kind p t0 f deliver s = waitLapse t0 (deliver (searching p s)) := by
  simp only [ringFrame, screen_passes p h hk, if_true]

theorem nodeRsp_arrives {p : RingPort} {t0 : Nat} {f : Frame} {s : State} (h : arrives p t0 s) (ha : admitted s f) (hk : f.kind = kNodeRsp) :
    exec (.nodeRspReceived p t0 f) s =
      .next (waitLapse t0 (checked (captured s.ring p t0 f) f.src.toNat f.seq.toNat (rspTaken p t0 f) (searching p s))) := by
  refine (act_running _ h.1).trans (congrArg _ ((whenDue_true _ _ h.2).trans ?_))
  rw [← hk, ringFrame_passes p t0 _ ha (.inr (.inl hk))]

theorem sample_arrives {p : RingPort} {t0 : Nat} {f : Frame} {s : State} (h : arrives p t0 s) (ha : admitted s f) (hk : f.kind = kSample) :
    exec (.sampleReceived p t0 f) s = .next (waitLapse t0 (checked true f.src.toNat f.seq.toNat (sampleTaken t0 f) (searching p s))) := by
  refine (act_running _ h.1).trans (congrArg _ ((whenDue_true _ _ h.2).trans ?_))
  rw [← hk, ringFrame_passes p t0 _ ha (.inl hk)]

/-- The live fields of a node whose frame has been counted. -/
def counted (gaps : Bool) (c lost : Nat) (l : NodeLive) : NodeLive := { l with lastCount := some c, lost := if gaps then satAdd l.lost lost else l.lost }

theorem checked_duplicate {gaps : Bool} {a c : Nat} {next : State → State} {s : State} (h : (liveOf s a).lastCount = some c) :
    checked gaps a c next s = s := by simp [checked, seqCheck, h]

theorem checked_first {gaps : Bool} {a c : Nat} {next : State → State} {s : State} (h : (liveOf s a).lastCount = none) :
    checked gaps a c next s = next (s.onRing (setLive a (counted gaps c 0))) := by
  simp only [checked, seqCheck, h, Bool.false_eq_true, if_false]; rfl

theorem checked_next {gaps : Bool} {a c n : Nat} {next : State → State} {s : State} (h : (liveOf s a).lastCount = some n) (hn : c ≠ n) (h0 : c ≠ 0) :
    checked gaps a c next s = next (s.onRing (setLive a (counted gaps c (if c = successor n then 0 else gap n c)))) := by
  simp only [checked, seqCheck, h, if_neg hn, if_neg h0]
  by_cases hs : c = successor n
  · simp only [if_pos hs, Bool.false_eq_true, if_false]; rfl
  · simp only [if_neg hs, Bool.false_eq_true, if_false]; rfl

theorem checked_restart {gaps : Bool} {a c n : Nat} {next : State → State} {s : State} (h : (liveOf s a).lastCount = some n) (hn : c ≠ n) (h0 : c = 0) :
    checked gaps a c next s = next (nodeRestarted a (s.onRing (setLive a (counted gaps c 0)))) := by
  simp only [checked, seqCheck, h, if_neg hn, if_pos h0, if_true]; rfl

/-! ## The response window (R24) -/

theorem windowOf_eq {r : Ring} {side q : RingPort} {d since : Nat} {up : FramePort} (h : (seqOf r side).phase = .window d q up since) :
    windowOf r side = some (d, q, up, since) := by simp [windowOf, h]

/-- A response within its window. -/
theorem captures_of {r : Ring} {side p : RingPort} {a t0 since : Nat} {up : FramePort} (h : (seqOf r side).phase = .window a p up since) (h0 : since ≤ t0)
    (h1 : t0 ≤ since + 2000) : captures r side p a t0 = some up := by
  have hr : t0 ≤ since + replyTime := h1
  simp [captures, windowOf_eq h, h0, hr]

theorem rspTaken_captured {p : RingPort} {t0 since : Nat} {up : FramePort} {f : Frame} {s : State}
    (h : (seqOf s.ring (sideOfPort s.ring p)).phase = .window f.src.toNat p up since) (h0 : since ≤ t0) (h1 : t0 ≤ since + 2000) :
    rspTaken p t0 f s = endOpportunity (sideOfPort s.ring p) (passUp up f s) := by
  simp only [rspTaken, captures_of h h0 h1]

/-- Outside a round, with none waiting, an opportunity that has ended leaves its side idle. -/
theorem endOpportunity_idle {side : RingPort} {s : State} (hr : s.ring.running = false) (hf : s.ring.fallenDue = false) :
    endOpportunity side s = setPhase side .idle s := by
  rw [endOpportunity, if_neg (by rw [hr]; decide)]
  exact startIfDue_waits (.inl (by rw [setPhase, State.onRing_ring, modSeq_frame]; exact hf))

theorem endOpportunity_goesOn {side : RingPort} {s : State} (hr : s.ring.running = true) : endOpportunity side s = nextPoll side s := by
  rw [endOpportunity, if_pos hr]

theorem windowTimeout_due {p : RingPort} {d since : Nat} {up : FramePort} {s : State} (hs : s.phase = .running)
    (hw : (seqOf s.ring (sideOfPort s.ring p)).phase = .window d p up since) (hlate : since + 2000 ≤ s.now) (hq : (portOf s.ring p).rx.syncAt = none) :
    exec (.responseWindowTimeout p) s = .next (endOpportunity (sideOfPort s.ring p) s) := by
  have hran : ran since replyTime s.now = true := ran_of hlate
  have hover : windowOver s p = true := by simp [windowOver, windowOf_eq hw, hran, hq]
  exact (act_running _ hs).trans (congrArg _ (whenDue_true _ _ hover))

/-- The phase a sequence is put into, and the other sequence. -/
theorem seqOf_setPhase (side o : RingPort) (ph : SeqPhase) (s : State) :
    seqOf (setPhase side ph s).ring o = if o = side then { seqOf s.ring side with phase := ph } else seqOf s.ring o := by
  cases side <;> cases o <;> rfl

theorem liveOf_setPhase (side : RingPort) (ph : SeqPhase) (s : State) (a : Nat) : liveOf (setPhase side ph s) a = liveOf s a := by
  cases side <;> rfl

theorem noWait_setPhase {side : RingPort} {ph : SeqPhase} {s : State} (h : noWait s) (hp : ∀ a p second since, ph ≠ .waiting a p second since) :
    noWait (setPhase side ph s) := by
  have hnone (x : PollSeq) (hx : x.phase = ph) : (match x.phase with | .waiting a p second since => some (a, p, second, since) | _ => none) = none := by
    rw [hx]; split
    next a p second since => exact absurd rfl (hp a p second since)
    next => rfl
  obtain ⟨ha, hb⟩ := h
  cases side
  · exact ⟨hnone _ rfl, hb⟩
  · exact ⟨ha, hnone _ rfl⟩

end Sys2Proof.Machine
end

section
/-! The Bay Ring: the response window, the reply timeout, the transmission opportunity, and the requests that change a node. -/

namespace Sys2Proof.Machine

/-! ## The response window (R24) -/

/-- A captured response is handed up, and outside a round its side rests. -/
theorem rspTaken_closes {p side : RingPort} {t0 since : Nat} {up : FramePort} {f : Frame} {v : State} (hw : noWait v) (hside : sideOfPort v.ring p = side)
    (h : (seqOf v.ring side).phase = .window f.src.toNat p up since) (h0 : since ≤ t0) (h1 : t0 ≤ since + 2000)
    (hr : v.ring.running = false) (hf : v.ring.fallenDue = false) :
    waitLapse t0 (rspTaken p t0 f v) = setPhase side .idle (passUp up f v) := by
  subst hside
  have hrest : rspTaken p t0 f v = setPhase (sideOfPort v.ring p) .idle (passUp up f v) := by
    rw [rspTaken_captured h h0 h1]; exact endOpportunity_idle hr hf
  obtain ⟨hA, hB⟩ := noWait_setPhase (side := sideOfPort v.ring p) (ph := .idle) (s := passUp up f v) hw (by simp)
  rw [hrest, waitLapse_none t0 _ hA hB]

theorem captured_of {s : State} {p side : RingPort} {t0 since : Nat} {up : FramePort} {f : Frame} (hside : sideOfPort s.ring p = side)
    (h : (seqOf s.ring side).phase = .window f.src.toNat p up since) (h0 : since ≤ t0) (h1 : t0 ≤ since + 2000) : captured s.ring p t0 f = true := by
  simp [captured, hside, captures_of h h0 h1]

theorem searching_ring (p : RingPort) (s : State) : (searching p s).ring = { s.ring with portA := (searching p s).ring.portA, portB := (searching p s).ring.portB } := by
  cases p <;> rfl

theorem setLive_frame (a : Nat) (f : NodeLive → NodeLive) (r : Ring) : setLive a f r = { r with nodes := (setLive a f r).nodes } := by cases a <;> rfl

/-- A frame of an admitted node, once counted: nothing has changed of the ring but the receiver and the node's live fields. -/
theorem counted_ring (p : RingPort) (a : Nat) (g : NodeLive → NodeLive) (s : State) : ((searching p s).onRing (setLive a g)).ring = { s.ring with
    portA := (searching p s).ring.portA, portB := (searching p s).ring.portB, nodes := ((searching p s).onRing (setLive a g)).ring.nodes } := by
  rw [State.onRing_ring, setLive_frame, searching_ring]

theorem counted_live {p : RingPort} {f : Frame} {s : State} (h : admitted s f) (g : NodeLive → NodeLive) :
    liveOf ((searching p s).onRing (setLive f.src.toNat g)) f.src.toNat = g (liveOf s f.src.toNat) := by
  obtain ⟨h1, h2⟩ := admitted_entry h
  rw [liveOf, State.onRing_ring, liveIn_setLive _ _ _ h1 (by rw [searching_nodes]; exact h2)]
  exact congrArg g (liveOf_searching p s _)

/-- Settles O20. -/
theorem responseWindow : Obligations.ResponseWindow := by
  refine ⟨fun p up t0 since f s => ?_, fun p up d since s hs h0 hw hlate hq hr hf => ?_, fun p up d since a r s hs h0 hw hlate hq hr hrest => ?_⟩
  · intro a hin h0 hB hA ht0 ht1 had hk hlast hr hf
    set v := (searching p s).onRing (setLive a (counted true f.seq.toNat 0)) with hv
    have hring : v.ring = { s.ring with portA := (searching p s).ring.portA, portB := (searching p s).ring.portB, nodes := v.ring.nodes } := counted_ring _ _ _ _
    have hlive : liveOf v a = counted true f.seq.toNat 0 (liveOf s a) := counted_live had _
    have hsideS : sideOfPort s.ring p = .a := by rw [sideOfPort_eq, if_pos h0]
    have hside : sideOfPort v.ring p = .a := by rw [sideOfPort_eq, hring, if_pos h0]
    have hnw : noWait v := by
      refine ⟨?_, ?_⟩ <;> rw [hring] <;> simp [waitOf, seqOf, hA, hB]
    have hclose := rspTaken_closes hnw hside (by rw [hring]; exact hA) ht0 ht1 (by rw [hring]; exact hr) (by rw [hring]; exact hf)
    have hexec := nodeRsp_arrives hin had hk
    rw [captured_of hsideS hA ht0 ht1, checked_first (by rw [liveOf_searching]; exact hlast), hclose] at hexec
    refine ⟨_, hexec, ?_, ?_, rfl, ?_, ?_⟩
    · apply State.eq_of_fields <;> simp [setPhase, hv, searching]
    · simp [setPhase, passUp, hv, searching]
    · rw [liveOf_setPhase]; exact congrArg NodeLive.lastCount hlive
    · rw [liveOf_setPhase]; exact congrArg NodeLive.lost hlive
  · have hside : sideOfPort s.ring p = .a := by rw [sideOfPort_eq, if_pos h0]
    rw [windowTimeout_due hs (by rw [hside]; exact hw) hlate hq, hside, endOpportunity_idle hr hf]; rfl
  · have hside : sideOfPort s.ring p = .a := by rw [sideOfPort_eq, if_pos h0]
    rw [windowTimeout_due hs (by rw [hside]; exact hw) hlate hq, hside, endOpportunity_goesOn hr]
    have hpoll := (nextPoll_pollsNext .a s).1 a r hrest
    rw [if_neg (by simpa using h0)] at hpoll
    rw [hpoll]

/-! ## The reply timeout (R10, R11) -/

theorem waitOf_waiting {r : Ring} {side q : RingPort} {a since : Nat} {second : Bool} (h : (seqOf r side).phase = .waiting a q second since) :
    waitOf r side = some (a, q, second, since) := by simp [waitOf, h]

theorem replyTimeout_due {p side : RingPort} {a since : Nat} {second : Bool} {s : State} (hs : s.phase = .running) (hside : sideOfPort s.ring p = side)
    (hw : (seqOf s.ring side).phase = .waiting a p second since) (hlate : since + 2000 ≤ s.now) (hA : s.ring.portA.rx.syncAt = none)
    (hB : s.ring.portB.rx.syncAt = none) : exec (.replyTimeout p) s = .next (attemptFailed side a p second s) := by
  have hran : ran since replyTime s.now = true := ran_of hlate
  have hover : waitOver s since = true := by simp [waitOver, hran, frameHeld, hA, hB]
  simp only [exec, execReplyTimeout, act, hs, hside, waitOf_waiting hw, hover, whenDue, beq_self_eq_true, Bool.and_self, if_true]

/-- A node that has changed its state leaves the detection blind of the zones evaluated (R125). -/
theorem nodeTo_blinds (a : Nat) (st : NodeState) (f : NodeLive → NodeLive) (s : State) : blindsCurrent (nodeTo a st f s) := detBlindEval_current _

/-- An opportunity leaves what the detection blind is made of. -/
theorem opportunity_blinds (side : RingPort) {s : State} (h : blindsCurrent s) : blindsCurrent (opportunity side s) := by
  obtain ⟨hframe, hnodes, -⟩ := opportunity_frame side s
  refine blindsCurrent_congr hnodes ?_ ?_ ?_ ?_ h <;> rw [hframe]

/-- Settles O24. -/
theorem replyTimeoutFollowsUp : Obligations.ReplyTimeoutFollowsUp := by
  refine ⟨fun a since p s hs h0 hw hlate hA hB => ?_, fun a since p side second s hs hcase hw hlate hA hB ha => ?_⟩
  · have hexec := replyTimeout_due (side := .a) hs (by rw [sideOfPort_eq, if_pos h0]) hw hlate hA hB
    exact hexec.trans (congrArg Host.Outcome.next ((attemptFailed_ends .a a p false s).1 h0 rfl))
  · have hside : sideOfPort s.ring p = side := by
      rw [sideOfPort_eq]; by_cases h0 : s.ring.splitEff = 0
      · rw [if_pos h0] at hcase ⊢; exact hcase.1.symm
      · rw [if_neg h0] at hcase ⊢; exact hcase.symm
    refine ⟨_, replyTimeout_due hs hside hw hlate hA hB, attemptFailed_ends side a p second s, fun hst hm => ?_⟩
    have hlast : (joined s.ring && !second) = false := by
      by_cases h0 : s.ring.splitEff = 0
      · rw [if_pos h0] at hcase; simp [hcase.2]
      · simp [joined, h0]
    have hsilent : (liveOf s a).state = .inService ∧ min 3 ((liveOf s a).missed + 1) = 3 := ⟨hst, by omega⟩
    rw [attemptFailed, hlast, pollMissed, if_pos hsilent]
    exact opportunity_blinds side (nodeTo_blinds _ _ _ _)

/-! ## The transmission opportunity (R21, R23, R71) -/

theorem opportunityNow_of {p : RingPort} {s : State} (hp : atSide s p) (h : opportunityAt s p) :
    opportunityNow s.ring (sideOfPort s.ring p) = true ∧ sideOfPort s.ring p = p := by
  have hside : sideOfPort s.ring p = p := by
    rw [sideOfPort_eq]; by_cases h0 : s.ring.splitEff = 0
    · rw [if_pos h0, hp h0]
    · rw [if_neg h0]
  refine ⟨?_, hside⟩
  rw [hside]
  obtain h | ⟨hidle, hr, htx, htxB⟩ := h
  · simp [opportunityNow, h]
  · by_cases h0 : s.ring.splitEff = 0
    · obtain rfl := hp h0
      have hA : s.ring.portA.tx = [] := htx
      have hB : s.ring.portB.tx = [] := htxB h0
      simp [opportunityNow, hidle, hr, joined, h0, hA, hB]
    · simp [opportunityNow, hidle, hr, joined, h0, htx]

theorem transmissionOpportunity_due {p : RingPort} {s : State} (hs : s.phase = .running) (hp : atSide s p) (h : opportunityAt s p) :
    exec (.transmissionOpportunity p) s = .next (takeOpportunity p s) := by
  obtain ⟨hnow, hside⟩ := opportunityNow_of hp h
  refine (act_running _ hs).trans (congrArg _ ((whenDue_true _ _ hnow).trans ?_))
  rw [hside]

/-- With no frame for the side in the slot, the queue is looked at (R23). -/
theorem takeOpportunity_queue {p : RingPort} {s : State} (h : slotElsewhere s p) : takeOpportunity p s =
    match headReady (recheckHead s) p, (recheckHead s).ring.downQueue with
    | true, (f, q) :: _ => sendHead p f q (recheckHead s)
    | _, _ => endOpportunity p (recheckHead s) := by
  simp only [takeOpportunity, (slotReady_iff p s).mpr h] <;> rfl

/-- A head that is not refused leaves the queue as it is. -/
theorem recheckHead_same {s : State} (h : ∀ f, s.ring.downQueue.head? = some f →
    (liveOf s f.1.dst.toNat).state ≠ .unconfigured ∧ (liveOf s f.1.dst.toNat).state ≠ .excluded) : recheckHead s = s := by
  have hheads : refuseHeads s.ring.nodes s.ring.downQueue = (s.ring.downQueue, []) := by
    cases hq : s.ring.downQueue with
    | nil => rfl
    | cons x r =>
      obtain ⟨h1, h2⟩ := h x (by rw [hq]; rfl)
      have h1' : (liveIn s.ring.nodes x.1.dst.toNat).state ≠ .unconfigured := h1
      have h2' : (liveIn s.ring.nodes x.1.dst.toNat).state ≠ .excluded := h2
      simp [refuseHeads, h1', h2']
  simp only [recheckHead, hheads]; rfl

/-- A head that is refused leaves the queue with its notice (R23). -/
theorem recheckHead_refused {f : Frame} {up : FramePort} {r : List (Frame × FramePort)} {s : State} (hq : s.ring.downQueue = (f, up) :: r)
    (h : (liveOf s f.dst.toNat).state = .unconfigured ∨ (liveOf s f.dst.toNat).state = .excluded) : recheckHead s =
      recheckHead (raiseNotice (nInsertRefused f.dst.toNat (liveOf s f.dst.toNat).state.code) { s with ring := { s.ring with downQueue := r } }) := by
  have hheads : refuseHeads s.ring.nodes s.ring.downQueue = ((refuseHeads s.ring.nodes r).1,
      nInsertRefused f.dst.toNat (liveOf s f.dst.toNat).state.code :: (refuseHeads s.ring.nodes r).2) := by
    have h' : (liveIn s.ring.nodes f.dst.toNat).state = .unconfigured ∨ (liveIn s.ring.nodes f.dst.toNat).state = .excluded := h
    rw [hq]
    obtain h' | h' := h' <;> simp [refuseHeads, h', liveOf]
  simp only [recheckHead, hheads]; rfl

/-- The Sent Setpoint List drops its oldest entry beyond four, never the one just added. -/
theorem getLast?_sent {α : Type} (l : List α) (x : α) :
    (if (l ++ [x]).length = 5 then (l ++ [x]).drop 1 else l ++ [x]).getLast? = some x := by
  split
  next h => rw [List.getLast?_drop, if_neg (by omega)]; simp
  next => simp

/-- The gate once the slot's frame has been taken. -/
theorem slotTaken_gate (f : SlotFrame) (s : State) : let g := (slotTaken f s).gate
    g.inFlight = some (f.tag, s.now) ∧ (g.forwarded.map fun w => (w.p, w.q, w.tag, w.flags)) = some (f.p, f.q, f.tag, f.flags) ∧
      g.requested = s.gate.requested ∧ g.ackCount = s.gate.ackCount ∧ (g.sent.getLast?.map (·.1)) = some f.tag := by
  refine ⟨rfl, rfl, rfl, rfl, ?_⟩
  simp only [slotTaken, State.onGate_gate, getLast?_sent, Option.map_some]

/-- The slot's frame is sent to its destination's side, with the ring's own count where the S48 originated it (R9, R21). -/
theorem sendSlot_ring (p : RingPort) (f : SlotFrame) (s : State) :
    (f.src ≠ 0 → (sendSlot p f s).ring = modSeq p (fun q => { q with phase := .sending })
      (sendOn (liveOf s f.dst.toNat).side ⟨slotToFrame f, .slot⟩ s.now { s.ring with slot := none })) ∧
    (f.src = 0 → (sendSlot p f s).ring = modSeq p (fun q => { q with phase := .sending })
      (sendOn (liveOf s f.dst.toNat).side ⟨slotToFrame { f with seq := BitVec.ofNat 8 s.ring.count }, .slot⟩ s.now
        { s.ring with slot := none, count := if s.ring.count = 63 then 1 else s.ring.count + 1 })) := by
  refine ⟨fun h => ?_, fun h => ?_⟩
  · have hown : (f.src == 0) = false := by simpa using h
    simp only [sendSlot, hown]
    cases (liveOf s f.dst.toNat).side <;> cases p <;> rfl
  · have hown : (f.src == 0) = true := by simpa using h
    simp only [sendSlot, hown]
    cases (liveOf s f.dst.toNat).side <;> cases p <;> rfl

theorem sendSlot_gate (p : RingPort) (f : SlotFrame) (s : State) : let g := (sendSlot p f s).gate
    g.inFlight = some (f.tag, s.now) ∧ (g.forwarded.map fun w => (w.p, w.q, w.tag, w.flags)) = some (f.p, f.q, f.tag, f.flags) ∧
      g.requested = s.gate.requested ∧ g.ackCount = s.gate.ackCount ∧ (g.sent.getLast?.map (·.1)) = some f.tag := by
  simp only [sendSlot]
  split <;> exact slotTaken_gate _ _

/-- What a frame or command sent at an opportunity is taken as, where the slot's frame is for another side. -/
theorem headReady_of {p : RingPort} {f : Frame} {up : FramePort} {r : List (Frame × FramePort)} {s : State} (hq : s.ring.downQueue = (f, up) :: r)
    (hd : s.ring.splitEff ≠ 0 → (liveOf s f.dst.toNat).side = p) : headReady s p = true := by
  by_cases h0 : s.ring.splitEff = 0
  · simp [headReady, hq, joined, h0]
  · simp [headReady, hq, hd h0]

/-- With nothing for the side in the slot or the queue, the opportunity ends. -/
theorem takeOpportunity_ends {p : RingPort} {s : State} (hslot : slotElsewhere s p) (hq : queueElsewhere s p) :
    takeOpportunity p s = endOpportunity p s := by
  have hsame : recheckHead s = s := recheckHead_same fun f hf => (hq f hf).2.2
  rw [takeOpportunity_queue hslot, hsame, (headReady_iff p s).mpr hq]

/-- Settles O25. -/
theorem opportunitySendsOne : Obligations.OpportunitySendsOne := by
  refine ⟨fun p s f hs hp h hslot hd => ?_, fun p s f up r hs hp h hslot hq hd h1 h2 => ?_, fun p s f up r hs hp h hslot hq hst => ?_,
    fun p s hs hp h hslot hq hr => ?_, fun p s hs hp h hslot hq hr hf => ?_⟩
  · have hready : slotReady s p = true := by
      by_cases h0 : s.ring.splitEff = 0
      · simp [slotReady, hslot, joined, h0]
      · simp [slotReady, hslot, hd h0]
    have htake : takeOpportunity p s = sendSlot p f s := by simp only [takeOpportunity, hready, hslot]
    exact ⟨_, (transmissionOpportunity_due hs hp h).trans (congrArg _ htake), rfl, (sendSlot_ring p f s).1, (sendSlot_ring p f s).2,
      sendSlot_gate p f s⟩
  · have hsame : recheckHead s = s := recheckHead_same fun x hx => by
      rw [hq] at hx; obtain rfl := Option.some.inj hx; exact ⟨h1, h2⟩
    have hhead : takeOpportunity p s = sendHead p f up s := by
      rw [takeOpportunity_queue hslot, hsame]
      simp only [headReady_of hq hd, hq]
    rw [transmissionOpportunity_due hs hp h, hhead]
    simp only [sendHead, setPhase, State.onRing, hq, List.drop_succ_cons, List.drop_zero]
  · set u := raiseNotice (nInsertRefused f.dst.toNat (liveOf s f.dst.toNat).state.code) { s with ring := { s.ring with downQueue := r } } with hu
    rw [transmissionOpportunity_due hs hp h, transmissionOpportunity_due (s := u) hs hp h, takeOpportunity_queue hslot,
      takeOpportunity_queue (s := u) hslot, recheckHead_refused hq hst]
  · rw [transmissionOpportunity_due hs hp h, takeOpportunity_ends hslot hq, endOpportunity_goesOn hr]
    exact ⟨_, rfl, nextPoll_pollsNext p s⟩
  · rw [transmissionOpportunity_due hs hp h, takeOpportunity_ends hslot hq, endOpportunity_idle hr hf]; rfl

/-! ## Requests that change a node (R7, R14) -/

/-- A node leaves what is left of the running round. -/
def unpolled (a : Nat) (r : Ring) : Ring :=
  { r with seqA := { r.seqA with rest := r.seqA.rest.filter (· ≠ a) }, seqB := { r.seqB with rest := r.seqB.rest.filter (· ≠ a) } }

/-- The state once a node is excluded, before the opportunity that follows where it was awaited. -/
def excludedNode (a : Nat) (s : State) : State := (nodeTo a .excluded id s).onRing (unpolled a)

theorem excludeDo_eq (a : Nat) (s : State) : excludeDo a s = match awaitedSide s.ring a with
    | some d => opportunity d (excludedNode a s)
    | none => excludedNode a s := by
  have hne : (fun x : Nat => x != a) = fun x => decide (x ≠ a) := by funext x; rw [Bool.eq_iff_iff]; simp
  simp only [excludeDo, hne]; rfl

/-- A node with an entry, once it has changed its state. -/
theorem nodeTo_live {a : Nat} (st : NodeState) (f : NodeLive → NodeLive) {s : State} (ha : hasEntry s a) :
    liveOf (nodeTo a st f s) a = { f (liveOf s a) with state := st } := by
  rw [liveOf, nodeTo_nodes, liveIn_setLive _ _ _ ha.1 ha.2]; rfl

theorem excludedNode_node (a c : Nat) (s : State) : liveOf (excludedNode a s) c = liveOf (nodeTo a .excluded id s) c := by
  simp only [liveOf, excludedNode, State.onRing_ring, unpolled]

theorem excludedNode_live {a : Nat} {s : State} (ha : hasEntry s a) : liveOf (excludedNode a s) a = { liveOf s a with state := .excluded } := by
  rw [excludedNode_node, nodeTo_live .excluded id ha, id]

theorem excludedNode_others {a c : Nat} {s : State} (hc : c ≠ a) : liveOf (excludedNode a s) c = liveOf s c := by
  rw [excludedNode_node, (nodeTo_frame a .excluded id s).2.1 c hc]

/-- Excluding a node leaves these blocks. -/
theorem excludedNode_apart (a : Nat) (s : State) : (excludedNode a s).cell = s.cell ∧ (excludedNode a s).loop = s.loop ∧
    (excludedNode a s).store = s.store ∧ (excludedNode a s).now = s.now ∧ (excludedNode a s).pending = s.pending := by
  simp [excludedNode]

theorem excludedNode_ring (a : Nat) (s : State) : (excludedNode a s).ring = { s.ring with
    nodes := (excludedNode a s).ring.nodes, slot := (excludedNode a s).ring.slot, broken := (excludedNode a s).ring.broken,
    seqA := { s.ring.seqA with rest := s.ring.seqA.rest.filter (· ≠ a) }, seqB := { s.ring.seqB with rest := s.ring.seqB.rest.filter (· ≠ a) } } := by
  simp only [excludedNode, State.onRing_ring, unpolled]
  rw [(nodeTo_frame a .excluded id s).1]

theorem liveOf_received (r : Request) (s : State) (a : Nat) : liveOf (received r s) a = liveOf s a := by simp [liveOf]

section
variable {r : Request} {b : Byte} {s : State}

theorem excludeNode_held (h : held r s) (ha : r.args = [b]) : exec (.excludeNode r) s = .next (excludeBody r b.toNat (received r s)) :=
  argsRequest_held _ _ h (oneByte_of ha)

theorem excludeNode_excludes (h : held r s) (ha : r.args = [b]) (he : hasEntry s b.toNat) (h40 : b.toNat ≤ 40)
    (hu : (liveOf s b.toNat).state ≠ .unconfigured) (hx : (liveOf s b.toNat).state ≠ .excluded) :
    exec (.excludeNode r) s = .next (answer r 0x0B .done [] (excludeDo b.toNat (received r s))) := by
  have haddr : isRingAddr b.toNat = true := by simp [isRingAddr, he.1, h40]
  rw [excludeNode_held h ha]
  simp [excludeBody, haddr, liveOf_received, hu, hx, done]

theorem readmitNode_held (h : held r s) (ha : r.args = [b]) : exec (.readmitNode r) s = .next (readmitBody r b.toNat (received r s)) :=
  argsRequest_held _ _ h (oneByte_of ha)

theorem setSplit_held (h : held r s) (ha : r.args = [b]) : exec (.setSplit r) s = .next (splitBody r b.toNat (received r s)) :=
  argsRequest_held _ _ h (oneByte_of ha)

end

/-- Settles O27. -/
theorem nodeRequests : Obligations.NodeRequests := by
  refine ⟨fun r b s h ha he h40 hu hx hw => ?_, fun r b side s h ha he h40 hu hx hw => ?_, fun r b s h ha => ⟨fun hbad => ?_, fun h1 h40 hx => ?_,
    fun hbad => ?_, fun h1 h40 hx => ?_, fun hlen => ?_⟩, fun r b s h ha he h40 hx => ?_, fun r b s h ha hlen => ?_⟩
  · have heR : hasEntry (received r s) b.toNat := by simpa [hasEntry] using he
    have hdo : excludeDo b.toNat (received r s) = excludedNode b.toNat (received r s) := by rw [excludeDo_eq, received_ring, hw]
    have hring := excludedNode_ring b.toNat (received r s)
    rw [received_ring] at hring
    obtain ⟨h1, h2, h3, h4, h5⟩ := excludedNode_apart b.toNat (received r s)
    refine ⟨_, (excludeNode_excludes h ha he h40 hu hx).trans (by rw [hdo]), ?_, ?_, ?_, by rw [answer_cell, h1, received_cell],
      by rw [answer_loop, h2, received_loop], by rw [answer_store, h3, received_store], by rw [answer_now, h4, received_now],
      by rw [answer_pending, h5, received_pending]⟩
    · rw [liveOf, answer_ring, ← liveOf, excludedNode_live heR, liveOf_received]
    · rw [answer_ring, hring]
    · rw [answer_ring, hring]
  · have heR : hasEntry (received r s) b.toNat := by simpa [hasEntry] using he
    have hdo : excludeDo b.toNat (received r s) = opportunity side (excludedNode b.toNat (received r s)) := by rw [excludeDo_eq, received_ring, hw]
    have hring := excludedNode_ring b.toNat (received r s)
    rw [received_ring] at hring
    obtain ⟨h1, h2, h3, h4, h5⟩ := excludedNode_apart b.toNat (received r s)
    exact ⟨excludedNode b.toNat (received r s), _, (excludeNode_excludes h ha he h40 hu hx).trans (by rw [hdo]), opportunity_arises _ _,
      (excludedNode_live heR).trans (by rw [liveOf_received]), fun c hc => (excludedNode_others hc).trans (liveOf_received r s c), hring,
      by rw [h1, received_cell], by rw [h2, received_loop], by rw [h3, received_store], by rw [h4, received_now], by rw [h5, received_pending]⟩
  · rw [excludeNode_held h ha, excludeBody, if_pos]
    obtain h0 | h41 | hst := hbad
    · simp [isRingAddr, h0]
    · simp [isRingAddr, show ¬b.toNat ≤ 40 by omega]
    · simp [liveOf_received, hst]
  · rw [excludeNode_held h ha, excludeBody, if_neg (by simp [isRingAddr, h1, h40, liveOf_received, hx]), if_pos (by rw [liveOf_received]; exact hx)]; rfl
  · rw [readmitNode_held h ha, readmitBody, if_pos]
    obtain h0 | h41 := hbad
    · simp [isRingAddr, h0]
    · simp [isRingAddr, show ¬b.toNat ≤ 40 by omega]
  · rw [readmitNode_held h ha, readmitBody, if_neg (by simp [isRingAddr, h1, h40]), if_pos (by rw [liveOf_received]; exact hx)]
  · rw [setSplit_held h ha, splitBody, if_pos (by rw [received_mgmt]; exact hlen)]
  · have heR : hasEntry (received r s) b.toNat := by simpa [hasEntry] using he
    have hbody : readmitBody r b.toNat (received r s) = done r 0x0C [] (readmitDo b.toNat (received r s)) := by
      rw [readmitBody, if_neg (by simp [isRingAddr, he.1, h40]), if_neg (by rw [liveOf_received, hx]; simp)]
    have hlive := nodeTo_live .absent (fun l => { l with missed := 0, lastCount := none, malformed := false, side := sideNow (received r s) b.toNat }) heR
    have hl : liveOf (done r 0x0C [] (readmitDo b.toNat (received r s))) b.toNat = liveOf (readmitDo b.toNat (received r s)) b.toNat := by
      rw [liveOf, done, answer_ring, liveOf]
    rw [readmitDo, hlive, liveOf_received] at hl
    refine ⟨_, (readmitNode_held h ha).trans (congrArg _ hbody), by rw [readmitDo, hl], by rw [readmitDo, hl], by rw [readmitDo, hl], by rw [readmitDo, hl],
      by rw [readmitDo, hl], ?_, ?_, ?_, ?_, ?_⟩ <;> simp [done, readmitDo]
  · rw [setSplit_held h ha, splitBody, if_neg (by rw [received_mgmt]; omega)]
    simp [done, State.onRing]

end Sys2Proof.Machine
end

section
/-! The Bay Ring: frames received in error, the screening, the sequence check and the acknowledgement of a setpoint, with the wait such a frame may end. -/

namespace Sys2Proof.Machine

/-! ## A frame that is no reply (R1, R2, R10) -/

/-- A frame that ends nothing while every open wait has time left, and otherwise what the waits allow. -/
theorem waitLapse_ends {s u : State} (t0 : Nat) (hw : ∀ side, waitOf u.ring side = waitOf s.ring side) (hn : u.now = s.now) :
    (waitsOpen s → waitLapse t0 u = u) ∧ lapses t0 u (waitLapse t0 u) :=
  ⟨fun h => waitLapse_id t0 u fun side a p second since hs => by rw [hn]; exact h side a p second since (by rw [← hw]; exact hs), waitLapse_lapses t0 u⟩

/-- With no wait open it ends nothing. -/
theorem waitLapse_ends_noWait {s u : State} (t0 : Nat) (hw : ∀ side, waitOf u.ring side = waitOf s.ring side) :
    (noWait s → waitLapse t0 u = u) ∧ lapses t0 u (waitLapse t0 u) :=
  ⟨fun h => waitLapse_none t0 u (by rw [hw]; exact h.1) (by rw [hw]; exact h.2), waitLapse_lapses t0 u⟩

theorem modPort_modPort (p : RingPort) (f g : RingPortState → RingPortState) (r : Ring) : modPort p f (modPort p g r) = modPort p (fun x => f (g x)) r := by
  cases p <;> rfl

/-- A port that searches again from `at?`, with an error counted by `g`. -/
def portErred (p : RingPort) (at? : Option Nat) (g : PortCounters → PortCounters) (s : State) : State :=
  { s with ring := modPort p (fun x => { x with rx := { x.rx with syncAt := at?, counters := g x.rx.counters } }) s.ring }

theorem waitOf_portErred (p : RingPort) (at? : Option Nat) (g : PortCounters → PortCounters) (s : State) (side : RingPort) :
    waitOf (portErred p at? g s).ring side = waitOf s.ring side := waitOf_modPort _ _ _ _

theorem countPort_searching (p : RingPort) (g : PortCounters → PortCounters) (s : State) : countPort p g (searching p s) = portErred p none g s := by
  simp only [countPort, searching, State.onRing, modPort_modPort, portErred]

theorem ringLengthError_due {p : RingPort} {t0 : Nat} {h : List Byte} {s : State} (hin : arrives p t0 s) (h5 : h.length = 5) (h56 : 56 < (h.getD 4 0).toNat) :
    exec (.ringLengthError p t0 h) s = .next (waitLapse t0 (portErred p ((h.idxOf? 0xA5#8).map fun i => t0 + 10 * (i + 1)) addFragment s)) := by
  have herr : lengthError h = true := by simp only [lengthError, h5, h56, beq_self_eq_true, decide_true, Bool.and_self]
  have hdue : (ringInTime s p t0 && lengthError h) = true := by rw [hin.2, herr]; rfl
  refine (act_running _ hin.1).trans (congrArg _ ((whenDue_true _ _ hdue).trans ?_))
  simp only [resync_eq, countPort, State.onRing, modPort_modPort, portErred]

theorem ringFragmentTimeout_due {p : RingPort} {t0 : Nat} {s : State} (hs : s.phase = .running) (ho : (portOf s.ring p).rx.isOpen = true)
    (h0 : (portOf s.ring p).rx.openedAt ≤ t0) (hlate : t0 + 1000 ≤ s.now) :
    exec (.ringFragmentTimeout p t0) s = .next (waitLapse t0 (portErred p none addFragment s)) := by
  have hran : ran t0 Config.ms s.now = true := ran_of hlate
  have hdue : (hears (portOf s.ring p).rx t0 && ran t0 Config.ms s.now) = true := by simp [hears, ho, h0, hran]
  refine (act_running _ hs).trans (congrArg _ ((whenDue_true _ _ hdue).trans ?_))
  rw [countPort_searching]

/-- A frame with a bad check (R1). -/
theorem badCheck_due {p : RingPort} {t0 : Nat} {f : Frame} {k : Check} {s : State} (hin : arrives p t0 s) (hk : frameCheck f ≠ k) :
    exec (.ringFrameDiscarded p t0 f k) s = .next (waitLapse t0 (checkError p (searching p s))) := by
  refine (act_running _ hin.1).trans (congrArg _ ((whenDue_true _ _ hin.2).trans ?_))
  rw [ringDiscard, if_neg hk]

theorem chargedNode_searching (p : RingPort) (s : State) : chargedNode (searching p s).ring p = (waitOf s.ring (sideOfPort s.ring p)).map (·.1) := by
  have hside : sideOfPort (searching p s).ring p = sideOfPort s.ring p := by rw [sideOfPort_eq, searching_ring, sideOfPort_eq]
  rw [chargedNode, hside, waitOf_searching]

theorem ringInTime_unheard {p : RingPort} {t0 : Nat} {s : State} (h : t0 < (portOf s.ring p).rx.openedAt) :
    hears (portOf s.ring p).rx t0 = false ∧ ringInTime s p t0 = false := by
  have hh : hears (portOf s.ring p).rx t0 = false := by simp [hears, Nat.not_le.mpr h]
  exact ⟨hh, by simp [ringInTime, inTime, hh]⟩

/-- A check error is charged to the node awaited on the side, or else to the port (R1). -/
theorem checkError_node {p q : RingPort} {a since : Nat} {second : Bool} {s : State} (hw : waitOf s.ring (sideOfPort s.ring p) = some (a, q, second, since)) :
    checkError p (searching p s) = (searching p s).onRing (setLive a fun l => { l with checkErrors := satInc l.checkErrors }) := by
  rw [checkError, chargedNode_searching, hw]; rfl

theorem checkError_port {p : RingPort} {s : State} (hw : waitOf s.ring (sideOfPort s.ring p) = none) :
    checkError p (searching p s) = portErred p none addCheck s := by
  rw [checkError, chargedNode_searching, hw, ← countPort_searching]; rfl

/-- A frame counted for a node leaves the waits. -/
theorem waitOf_counted (p : RingPort) (a : Nat) (g : NodeLive → NodeLive) (s : State) (side : RingPort) :
    waitOf ((searching p s).onRing (setLive a g)).ring side = waitOf s.ring side := by
  rw [State.onRing_ring, waitOf_setLive, waitOf_searching]

/-- Settles O15. -/
theorem ringReceiveErrors : Obligations.RingReceiveErrors := by
  refine ⟨fun p t0 h s hin h5 h56 => ?_, fun p t0 s hs ho h0 hlate => ?_, fun p t0 f k s hin hk => ⟨fun a q second since hw => ?_, fun hw => ?_⟩,
    fun p t0 s h => ?_⟩
  · intro u
    have hu : u = portErred p ((h.idxOf? 0xA5#8).map fun i => t0 + 10 * (i + 1)) addFragment s := by simp only [u, portErred, addFragment, satInc]
    rw [hu]
    exact ⟨_, ringLengthError_due hin h5 h56, waitLapse_ends t0 (waitOf_portErred p _ _ s) rfl⟩
  · intro u
    have hu : u = portErred p none addFragment s := by simp only [u, portErred, addFragment, satInc]
    rw [hu]
    exact ⟨_, ringFragmentTimeout_due hs ho h0 hlate, waitLapse_ends t0 (waitOf_portErred p _ _ s) rfl⟩
  · intro u
    have hu : u = (searching p s).onRing (setLive a fun l => { l with checkErrors := satInc l.checkErrors }) := by
      simp only [u, satInc, searching, State.onRing, ringSearching]
    rw [hu]
    exact ⟨_, (badCheck_due hin hk).trans (by rw [checkError_node hw]), waitLapse_ends t0 (waitOf_counted p a _ s) rfl⟩
  · intro u
    have hu : u = portErred p none addCheck s := by simp only [u, portErred, addCheck, satInc]
    rw [hu]
    exact ⟨_, (badCheck_due hin hk).trans (by rw [checkError_port hw]), waitLapse_ends t0 (waitOf_portErred p _ _ s) rfl⟩
  · obtain ⟨hh, hno⟩ := ringInTime_unheard h
    refine ⟨fun h => ?_, ?_, fun f => ⟨fun k => ?_, ?_, ?_, ?_⟩⟩ <;>
      simp [exec, execRingLengthError, execRingFragmentTimeout, execRingFrameDiscarded, execSampleReceived, execNodeRspReceived, execSetpointAckReceived,
        act, whenDue, hh, hno]

/-! ## The screening (R2) -/

/-- What the screening leaves of a frame with a good check. -/
def screened (p : RingPort) (f : Frame) (s : State) : State :=
  match screen s f with
  | .silently => searching p s
  | .addressError => portErred p none addAddress s
  | .kindError => portErred p none addKind s
  | .passes => searching p s

theorem screen_searching (p : RingPort) (f : Frame) (s : State) : screen (searching p s) f = screen s f := by
  have hc : cfgOf (searching p s) f.src.toNat = cfgOf s f.src.toNat := rfl
  simp only [screen, liveOf_searching, hc]

theorem goodCheck_due {p : RingPort} {t0 : Nat} {f : Frame} {s : State} (hin : arrives p t0 s) :
    exec (.ringFrameDiscarded p t0 f (frameCheck f)) s = .next (waitLapse t0 (screened p f s)) := by
  refine (act_running _ hin.1).trans (congrArg _ ((whenDue_true _ _ hin.2).trans ?_))
  rw [ringDiscard, if_pos rfl]
  simp only [ringFrame, screen_searching, screened, ← countPort_searching]
  cases screen s f <;> simp

theorem waitOf_screened (p : RingPort) (f : Frame) (s : State) (side : RingPort) : waitOf (screened p f s).ring side = waitOf s.ring side := by
  unfold screened; split <;> simp only [waitOf_searching, waitOf_portErred]

theorem screened_now (p : RingPort) (f : Frame) (s : State) : (screened p f s).now = s.now := by unfold screened; split <;> rfl

/-- Settles O16. -/
theorem ringScreening : Obligations.RingScreening := by
  intro p t0 f s hin a st silent counted address kind u
  have haddress : address = portErred p none addAddress s := by simp only [address, counted, portErred, addAddress, satInc]
  have hkind : kind = portErred p none addKind s := by simp only [kind, counted, portErred, addKind, satInc]
  have hsilent : silent = searching p s := rfl
  have hu : u = screened p f s := by
    simp only [u, haddress, hkind, hsilent, screened, screen]
    split_ifs <;> rfl
  refine ⟨⟨_, goodCheck_due hin, ?_⟩, fun had hlast => ⟨fun hk => ⟨_, sample_arrives hin had hk, ?_⟩, fun hk => ⟨_, nodeRsp_arrives hin had hk, ?_⟩⟩⟩
  · rw [hu]; exact waitLapse_ends t0 (waitOf_screened p f s) (screened_now p f s)
  · rw [checked_duplicate (by rw [liveOf_searching]; exact hlast)]; exact waitLapse_lapses t0 _
  · rw [checked_duplicate (by rw [liveOf_searching]; exact hlast)]; exact waitLapse_lapses t0 _

/-! ## The sequence check (R16, R17, R24) -/

/-- A response that no window captures is discarded. -/
theorem rspTaken_uncaptured {p : RingPort} {t0 : Nat} {f : Frame} {s : State}
    (h : ∀ d q up since, windowOf s.ring (sideOfPort s.ring p) = some (d, q, up, since) →
      d ≠ f.src.toNat ∨ q ≠ p ∨ t0 < since ∨ since + 2000 < t0) :
    captured s.ring p t0 f = false ∧ rspTaken p t0 f s = s := by
  have hnone : captures s.ring (sideOfPort s.ring p) p f.src.toNat t0 = none := by
    unfold captures
    split
    next d q up since hw =>
      refine if_neg fun ⟨hd, hq, h0, h1⟩ => ?_
      have h1' : t0 ≤ since + 2000 := h1
      rcases h d q up since hw with h | h | h | h
      · exact h hd
      · exact h hq
      · omega
      · omega
    next => rfl
  exact ⟨by simp [captured, hnone], by simp only [rspTaken, hnone]⟩

/-- A restarted node: the notice, and for a MODULE its record (R17). -/
theorem nodeRestarted_frame (a : Nat) (s : State) : nodeRestarted a s = { s with cell := (nodeRestarted a s).cell, link := (nodeRestarted a s).link } := by
  simp only [nodeRestarted]
  split
  · rw [moduleRestart, changeRec_frame]; apply State.eq_of_fields <;> simp
  · apply State.eq_of_fields <;> simp

theorem nodeRestarted_other {a : Nat} {s : State} (h : (cfgOf s a).role ≠ .mod) : nodeRestarted a s = raiseNotice (nNodeRestart (cfgOf s a).role a) s := by
  simp only [nodeRestarted, h, if_false]

theorem nodeRestarted_ring (a : Nat) (s : State) : (nodeRestarted a s).ring = s.ring := by rw [nodeRestarted_frame]

/-- A frame counted for a node leaves which windows stand. -/
theorem windowOf_counted (p : RingPort) (a : Nat) (g : NodeLive → NodeLive) (s : State) :
    let v := (searching p s).onRing (setLive a g)
    windowOf v.ring (sideOfPort v.ring p) = windowOf s.ring (sideOfPort s.ring p) := by
  intro v
  have hside : sideOfPort v.ring p = sideOfPort s.ring p := by rw [sideOfPort_eq, counted_ring, sideOfPort_eq]
  have hseq (side : RingPort) : seqOf v.ring side = seqOf s.ring side := by
    simp only [v, State.onRing_ring, seqOf_setLive, searching, seqOf_modPort]
  rw [hside, windowOf, windowOf, hseq]

/-- `u` is `s` once a response that no window captures has been counted, or discarded as a duplicate (R16, R24). -/
theorem checked_uncaptured {p : RingPort} {t0 : Nat} {f : Frame} {s : State} (had : admitted s f)
    (h : ∀ d q up since, windowOf s.ring (sideOfPort s.ring p) = some (d, q, up, since) →
      d ≠ f.src.toNat ∨ q ≠ p ∨ t0 < since ∨ since + 2000 < t0) :
    let a := f.src.toNat
    let c := f.seq.toNat
    let l := liveOf s a
    let r := ringSearching p s.ring
    let u := checked false a c (rspTaken p t0 f) (searching p s)
    (∀ side, waitOf u.ring side = waitOf s.ring side) ∧
    (l.lastCount = some c → u = { s with ring := r }) ∧
    (l.lastCount ≠ some c → (l.lastCount = none ∨ c ≠ 0) → u = { s with ring := setLive a (fun x => { x with lastCount := some c }) r }) ∧
    (∀ n, l.lastCount = some n → c ≠ n → c = 0 → liveOf u a = { l with lastCount := some 0 } ∧
      u = { s with ring := setLive a (fun x => { x with lastCount := some 0 }) r, cell := u.cell, link := u.link }) := by
  intro a c l r u
  have hdiscard (g : NodeLive → NodeLive) : rspTaken p t0 f ((searching p s).onRing (setLive a g)) = (searching p s).onRing (setLive a g) :=
    (rspTaken_uncaptured (by rw [windowOf_counted]; exact h)).2
  have hcounted (k : Nat) : counted false c k = fun x => { x with lastCount := some c } := rfl
  have hlast : (liveOf (searching p s) a).lastCount = l.lastCount := by rw [liveOf_searching]
  cases hl : l.lastCount with
  | none =>
    have hu : u = (searching p s).onRing (setLive a fun x => { x with lastCount := some c }) :=
      (checked_first (hlast.trans hl)).trans (by rw [hcounted, hdiscard])
    exact ⟨fun side => by rw [hu, waitOf_counted], (by simp), fun _ _ => hu, (by simp)⟩
  | some n =>
    by_cases hn : c = n
    · have hu : u = searching p s := checked_duplicate (hlast.trans (by rw [hl, hn]))
      exact ⟨fun side => by rw [hu, waitOf_searching], fun _ => hu, fun h => absurd (by rw [hn]) h, fun m h h' => absurd (by rw [hn]; exact Option.some.inj h) h'⟩
    · by_cases h0 : c = 0
      · have hu : u = rspTaken p t0 f (nodeRestarted a ((searching p s).onRing (setLive a fun x => { x with lastCount := some 0 }))) := by
          exact (checked_restart (hlast.trans hl) hn h0).trans (by rw [hcounted, h0])
        have hkeep : u = nodeRestarted a ((searching p s).onRing (setLive a fun x => { x with lastCount := some 0 })) := by
          rw [hu, (rspTaken_uncaptured (by rw [nodeRestarted_ring, windowOf_counted]; exact h)).2]
        have hlive : liveOf u a = { l with lastCount := some 0 } := by
          rw [hkeep, liveOf, nodeRestarted_ring, ← liveOf, counted_live had]
        refine ⟨fun side => by rw [hkeep, nodeRestarted_ring, waitOf_counted], fun h => absurd (Option.some.inj h).symm hn,
          fun _ h => by simp [h0] at h, fun m _ _ _ => ⟨hlive, ?_⟩⟩
        rw [hkeep, nodeRestarted_frame]; rfl
      · have hu : u = (searching p s).onRing (setLive a fun x => { x with lastCount := some c }) :=
          (checked_next (hlast.trans hl) hn h0).trans (by rw [hcounted, hdiscard])
        exact ⟨fun side => by rw [hu, waitOf_counted], fun h => absurd (Option.some.inj h).symm hn, fun _ _ => hu, fun m _ _ h => absurd h h0⟩

/-- A node is awaited on a side only where that side's wait is for it. -/
theorem awaitedSide_waits {r : Ring} {a : Nat} {side : RingPort} (h : awaitedSide r a = some side) :
    ∃ q second since, waitOf r side = some (a, q, second, since) := by
  unfold awaitedSide at h
  split at h
  next a' xA b' xB hA hB =>
    split_ifs at h with h1 h2
    · cases h; exact ⟨_, _, _, by rw [hA, h1]⟩
    · cases h; exact ⟨_, _, _, by rw [hB, h2]⟩
  next a' xA hA hB =>
    split_ifs at h with h1
    cases h; exact ⟨_, _, _, by rw [hA, h1]⟩
  next b' xB hA hB =>
    split_ifs at h with h1
    cases h; exact ⟨_, _, _, by rw [hB, h1]⟩
  next => cases h

/-- A SAMPLE that no wait awaits, or that began after its wait, is late (R17). -/
theorem sampleTaken_late {t0 : Nat} {f : Frame} {s : State}
    (h : ∀ side q second since, waitOf s.ring side = some (f.src.toNat, q, second, since) → since + 2000 < t0) :
    sampleTaken t0 f s = lateSample f.src.toNat s := by
  simp only [sampleTaken]
  split
  next => rfl
  next side hside =>
    obtain ⟨q, second, since, hw⟩ := awaitedSide_waits hside
    have hlate : ¬t0 ≤ since + replyTime := Nat.not_le.mpr (h side q second since hw)
    simp only [hw, if_neg hlate]

/-- The live fields of a node whose late SAMPLE has been counted, with `k` samples lost before it (R16, R17). -/
def lateCounted (c k : Nat) (l : NodeLive) : NodeLive := { l with lastCount := some c, lost := min 65535 (min 65535 (l.lost + k) + 1) }

theorem lateSample_counted (p : RingPort) (a c k : Nat) (s : State) :
    lateSample a ((searching p s).onRing (setLive a (counted true c k))) = (searching p s).onRing (setLive a (lateCounted c k)) := by
  simp only [lateSample, State.onRing, setLive_setLive]; rfl

/-- `u` is `s` once a SAMPLE that nobody awaits has been counted as late, or discarded as a duplicate (R16, R17). -/
theorem checked_late {p : RingPort} {t0 : Nat} {f : Frame} {s : State}
    (h : ∀ side q second since, waitOf s.ring side = some (f.src.toNat, q, second, since) → since + 2000 < t0) :
    let a := f.src.toNat
    let c := f.seq.toNat
    let l := liveOf s a
    let r := ringSearching p s.ring
    let counted := fun (lost : Nat → Nat) => setLive a (fun x => { x with lastCount := some c, lost := min 65535 (min 65535 (lost x.lost) + 1) }) r
    let u := checked true a c (sampleTaken t0 f) (searching p s)
    (∀ side, waitOf u.ring side = waitOf s.ring side) ∧
    (l.lastCount = some c → u = { s with ring := r }) ∧ (l.lastCount = none → u = { s with ring := counted id }) ∧
    (∀ n, l.lastCount = some n → c ≠ n → c ≠ 0 → u = { s with ring := counted fun k => k + (if c = successor n then 0 else gap n c) }) ∧
    (∀ n, l.lastCount = some n → c ≠ n → c = 0 → u = { s with ring := counted id, cell := u.cell, link := u.link } ∧
      ((cfgOf s a).role ≠ .mod → u.cell = s.cell ∧ u.link = (raiseNotice (nNodeRestart (cfgOf s a).role a) s).link)) := by
  intro a c l r counted u
  have hlate (x : State) (hx : ∀ side, waitOf x.ring side = waitOf s.ring side) : sampleTaken t0 f x = lateSample a x :=
    sampleTaken_late fun side q second since hw => h side q second since (by rw [← hx]; exact hw)
  have hcount (k : Nat) : sampleTaken t0 f ((searching p s).onRing (setLive a (Machine.counted true c k))) = (searching p s).onRing (setLive a (lateCounted c k)) :=
    (hlate _ (waitOf_counted p a _ s)).trans (lateSample_counted p a c k s)
  have hlast : (liveOf (searching p s) a).lastCount = l.lastCount := by rw [liveOf_searching]
  cases hl : l.lastCount with
  | none =>
    have hu : u = (searching p s).onRing (setLive a (lateCounted c 0)) := (checked_first (hlast.trans hl)).trans (hcount 0)
    exact ⟨fun side => by rw [hu, waitOf_counted], (by simp), fun _ => hu, (by simp), (by simp)⟩
  | some n =>
    by_cases hn : c = n
    · have hu : u = searching p s := checked_duplicate (hlast.trans (by rw [hl, hn]))
      exact ⟨fun side => by rw [hu, waitOf_searching], fun _ => hu, (by simp), fun m hm h' => absurd (hn.trans (Option.some.inj hm)) h',
        fun m hm h' => absurd (hn.trans (Option.some.inj hm)) h'⟩
    · have hne : some n ≠ some c := fun e => hn (Option.some.inj e).symm
      by_cases h0 : c = 0
      · have hu : u = lateSample a (nodeRestarted a ((searching p s).onRing (setLive a (Machine.counted true c 0)))) := by
          exact (checked_restart (hlast.trans hl) hn h0).trans (hlate _ fun side => by rw [nodeRestarted_ring, waitOf_counted])
        have hring : u.ring = setLive a (lateCounted c 0) r := by
          rw [hu, lateSample, State.onRing_ring, nodeRestarted_ring, State.onRing_ring, setLive_setLive]; rfl
        refine ⟨fun side => by rw [hring, waitOf_setLive]; exact waitOf_searching p s side, fun e => absurd e hne, (by simp),
          fun m hm _ h => absurd h0 h, fun m hm _ _ => ⟨?_, fun hrole => ?_⟩⟩
        · have hframe : u = { s with ring := u.ring, cell := u.cell, link := u.link } := by rw [hu, lateSample, nodeRestarted_frame]; rfl
          exact hframe.trans (by rw [hring]; rfl)
        · have hrest := nodeRestarted_other (a := a) (s := (searching p s).onRing (setLive a (Machine.counted true c 0))) hrole
          rw [hu, lateSample, State.onRing_cell, State.onRing_link, hrest]
          refine ⟨by rw [raiseNotice_cell]; rfl, raiseNotice_link_congr _ rfl rfl ?_ rfl⟩
          rw [counted_ring]
      · have hu : u = (searching p s).onRing (setLive a (lateCounted c (if c = successor n then 0 else gap n c))) :=
          (checked_next (hlast.trans hl) hn h0).trans (hcount _)
        refine ⟨fun side => by rw [hu, waitOf_counted], fun e => absurd e hne, (by simp), fun m hm _ _ => ?_, fun m hm _ h => absurd h h0⟩
        obtain rfl := Option.some.inj hm
        exact hu

/-- A response that its window captures, of a ring at rest: it is counted, handed up, and its side is idle again (R16, R24). -/
theorem checked_captured {p : RingPort} {up : FramePort} {t0 since n : Nat} {f : Frame} {s : State}
    (hin : arrives p t0 s) (hnw : noWait s)
    (hwin : (seqOf s.ring (if s.ring.splitEff = 0 then RingPort.a else p)).phase = .window f.src.toNat p up since)
    (ht0 : since ≤ t0) (ht1 : t0 ≤ since + 2000) (had : admitted s f) (hk : f.kind = kNodeRsp) (hl : (liveOf s f.src.toNat).lastCount = some n)
    (hr : s.ring.running = false) (hf : s.ring.fallenDue = false) :
    let a := f.src.toNat
    let c := f.seq.toNat
    let succ := if n = 63 then 1 else n + 1
    let side := if s.ring.splitEff = 0 then RingPort.a else p
    (c = n → exec (.nodeRspReceived p t0 f) s = .next { s with ring := ringSearching p s.ring }) ∧
    (c ≠ n → c ≠ 0 → ∃ t : State, exec (.nodeRspReceived p t0 f) s = .next t ∧ t = { s with ring := t.ring, link := t.link } ∧
      t.link = sendUp s.now s.mgmt.ringTables.rate up ⟨.forwarded, false, false, f⟩ s.link ∧ (seqOf t.ring side).phase = .idle ∧
      liveOf t a = { liveOf s a with
        lastCount := some c, lost := min 65535 ((liveOf s a).lost + (if c = succ then 0 else (c + 63 - succ) % 63)) }) ∧
    (c ≠ n → c = 0 → ∃ t : State, exec (.nodeRspReceived p t0 f) s = .next t ∧ t = { s with ring := t.ring, cell := t.cell, link := t.link } ∧
      ((cfgOf s a).role ≠ .mod → t.cell = s.cell ∧ t.link = sendUp s.now s.mgmt.ringTables.rate up ⟨.forwarded, false, false, f⟩
        (raiseNotice (nNodeRestart (cfgOf s a).role a) s).link) ∧ (seqOf t.ring side).phase = .idle ∧
      liveOf t a = { liveOf s a with lastCount := some 0, lost := min 65535 (liveOf s a).lost }) := by
  intro a c succ side
  have hside : sideOfPort s.ring p = side := sideOfPort_eq _ _
  have hexec := nodeRsp_arrives hin had hk
  rw [captured_of hside hwin ht0 ht1] at hexec
  have hlast : (liveOf (searching p s) a).lastCount = some n := by rw [liveOf_searching]; exact hl
  have hclose (g : NodeLive → NodeLive) (v : State) (hv : v.ring = ((searching p s).onRing (setLive a g)).ring) :
      waitLapse t0 (rspTaken p t0 f v) = setPhase side .idle (passUp up f v) ∧
        (seqOf (setPhase side .idle (passUp up f v)).ring side).phase = .idle ∧ liveOf (setPhase side .idle (passUp up f v)) a = g (liveOf s a) := by
    have hw (o : RingPort) : waitOf v.ring o = waitOf s.ring o := by rw [hv, waitOf_counted]
    have hsq : seqOf v.ring side = seqOf s.ring side := by
      rw [hv, State.onRing_ring, seqOf_setLive]; exact seqOf_modPort _ _ _ _
    have hvr := hv.trans (counted_ring p a g s)
    refine ⟨rspTaken_closes ⟨by rw [hw]; exact hnw.1, by rw [hw]; exact hnw.2⟩ ?_ (by rw [hsq]; exact hwin) ht0 ht1 ?_ ?_, ?_, ?_⟩
    · rw [sideOfPort_eq, hvr]
    · rw [hvr]; exact hr
    · rw [hvr]; exact hf
    · rw [seqOf_setPhase, if_pos rfl]
    · rw [liveOf_setPhase]
      show liveIn v.ring.nodes a = _
      rw [hv]; exact counted_live had g
  refine ⟨fun hn => ?_, fun hn h0 => ?_, fun hn h0 => ?_⟩
  · rw [checked_duplicate (hlast.trans (congrArg some hn.symm)), waitLapse_none] at hexec
    · exact hexec
    · rw [waitOf_searching]; exact hnw.1
    · rw [waitOf_searching]; exact hnw.2
  · obtain ⟨hc, hidle, hlive⟩ := hclose (counted true c (if c = successor n then 0 else gap n c)) _ rfl
    rw [checked_next hlast hn h0, hc] at hexec
    exact ⟨_, hexec, by apply State.eq_of_fields <;> simp [setPhase, searching], by simp [setPhase, passUp, searching], hidle, hlive⟩
  · set v := nodeRestarted a ((searching p s).onRing (setLive a (counted true c 0))) with hv
    obtain ⟨hc, hidle, hlive⟩ := hclose (counted true c 0) v (nodeRestarted_ring _ _)
    rw [checked_restart hlast hn h0, hc] at hexec
    refine ⟨_, hexec, ?_, fun hrole => ?_, hidle, hlive.trans (by rw [h0]; rfl)⟩
    · apply State.eq_of_fields <;> simp only [setPhase, passUp, State.onRing, State.onLink] <;> rw [hv, nodeRestarted_frame] <;> rfl
    · have hrest := nodeRestarted_other (a := a) (s := (searching p s).onRing (setLive a (counted true c 0))) hrole
      have hlink : v.link = (raiseNotice (nNodeRestart (cfgOf s a).role a) s).link := by
        rw [hv, hrest]; exact raiseNotice_link_congr _ rfl rfl (by rw [counted_ring]) rfl
      refine ⟨?_, ?_⟩
      · simp only [setPhase, passUp, State.onRing, State.onLink]; rw [hv, hrest, raiseNotice_cell]; rfl
      · simp only [setPhase, passUp, State.onRing, State.onLink, hlink]; rw [hv, nodeRestarted_frame]; rfl

/-- Settles O17. -/
theorem sequenceChecks : Obligations.SequenceChecks := by
  refine ⟨fun p t0 f s hin had hk h => ?_, fun p up t0 since n f s => ?_, fun p t0 f s hin had hk h => ?_⟩
  · intro a c l r
    obtain ⟨hw, hcases⟩ := checked_uncaptured had h
    have hexec := nodeRsp_arrives hin had hk
    rw [(rspTaken_uncaptured h).1] at hexec
    obtain ⟨hnone, hlapse⟩ := waitLapse_ends_noWait t0 hw
    exact ⟨_, _, hexec, hnone, hlapse, hcases⟩
  · intro a c succ side hin hnw hwin ht0 ht1 had hk hl hr hf
    exact checked_captured hin hnw hwin ht0 ht1 had hk hl hr hf
  · intro a c l r counted
    obtain ⟨hw, hcases⟩ := checked_late (p := p) h
    obtain ⟨hnone, hlapse⟩ := waitLapse_ends_noWait t0 hw
    exact ⟨_, _, sample_arrives hin had hk, hnone, hlapse, hcases⟩

end Sys2Proof.Machine
end

section
/-! The acknowledgement of a setpoint. -/

namespace Sys2Proof.Machine

/-! ## The acknowledgement of a setpoint (R25, R72, R73) -/

theorem parseAck_none (b : List Byte) : parseAck b = none ↔ b.length ≠ 6 := by
  unfold parseAck; split
  · simp
  next h =>
    refine ⟨fun _ hlen => ?_, fun _ => rfl⟩
    match b, hlen with
    | [t, b1, b2, b3, b4, r], _ => exact h t b1 b2 b3 b4 r rfl

theorem ack_arrives {p : RingPort} {t0 : Nat} {f : Frame} {s : State} (h : arrives p t0 s) (ha : admitted s f) (hk : f.kind = kSetpointAck)
    (hrole : (cfgOf s f.src.toNat).role = .conv) :
    exec (.setpointAckReceived p t0 f) s = .next (waitLapse t0 (ackTaken f (searching p s))) := by
  refine (act_running _ h.1).trans (congrArg _ ((whenDue_true _ _ h.2).trans ?_))
  rw [← hk, ringFrame_passes p t0 _ ha (.inr (.inr ⟨hk, hrole⟩))]

/-- The port an acknowledgement goes up: that of the oldest list entry with its tag, else the Station Link (R72). -/
def ackUp (k : AckRec) (sent : List (Nat × Origin)) : FramePort :=
  if (sent.find? fun e => e.1 == k.tag).map (·.2) = some .service then .service else .station

/-- An acknowledgement that reads is passed up, and the oldest entry with its tag leaves the list (R72). -/
theorem ackPassUp_reads {f : Frame} {k : AckRec} (s : State) (h : parseAck f.payload = some k) : ackPassUp f s =
    { s with gate := { s.gate with sent := s.gate.sent.eraseP fun e => e.1 == k.tag },
             link := sendUp s.now s.mgmt.ringTables.rate (ackUp k s.gate.sent) ⟨.forwarded, false, false, f⟩ s.link } := by
  simp only [ackPassUp, h]
  cases hfind : s.gate.sent.find? fun e => e.1 == k.tag with
  | none =>
    have herase : s.gate.sent.eraseP (fun e => e.1 == k.tag) = s.gate.sent := List.eraseP_of_forall_not (List.find?_eq_none.mp hfind)
    simp only [ackUp, hfind, herase]; rfl
  | some e =>
    have hport : ackPort e.2 = ackUp k s.gate.sent := by simp only [ackUp, hfind, Option.map_some, Option.some.injEq]; cases e.2 <;> rfl
    simp only [hport]; rfl

/-- The state of a matching acknowledgement before the reissue check (R73). -/
def ackRecorded (k : AckRec) (s : State) : State :=
  let s := s.onGate fun g => { g with inFlight := none }
  let s := raiseIf (s.gate.ackCount == 3) (nUnresponsive false) s
  let s := s.onGate fun g => { g with ackCount := 0, lastAck := some k }
  raiseIf (k.result == 2) (nRejected k.tag ((s.gate.forwarded.map (·.p)).getD 0)) s

theorem ackMatch_matches {k : AckRec} {tag0 : Nat} {s : State} (h : s.gate.inFlight = some (k.tag, tag0)) :
    ackMatch k s = reissueCheck (ackRecorded k s) := by
  simp only [ackMatch, h, ackRecorded, ne_eq, not_true, if_false, raiseIf_gate, State.onGate_gate]
  cases s.gate.forwarded <;> rfl

theorem ackMatch_other {k : AckRec} {s : State} (h : ∀ tag0, s.gate.inFlight ≠ some (k.tag, tag0)) : ackMatch k s = s := by
  unfold ackMatch
  cases hf : s.gate.inFlight with
  | none => rfl
  | some x =>
    have hne : x.1 ≠ k.tag := fun e => h x.2 (by rw [hf, ← e])
    simp only [ne_eq, hne, not_false_eq_true, if_true]

theorem ackRecorded_frame (k : AckRec) (s : State) : ackRecorded k s = { s with
    gate := { s.gate with inFlight := none, ackCount := 0, lastAck := some k }, link := (ackRecorded k s).link } := by
  apply State.eq_of_fields <;> simp [ackRecorded]

/-- The notices of a matching acknowledgement (R73). -/
theorem ackRecorded_link (k : AckRec) (s : State) :
    let back : Link := if s.gate.ackCount = 3 then (raiseNotice (nUnresponsive false) s).link else s.link
    (ackRecorded k s).link = if k.result = 2 then (raiseNotice (nRejected k.tag ((s.gate.forwarded.map (·.p)).getD 0)) { s with link := back }).link else back := by
  intro back
  have hback : (raiseIf (s.gate.ackCount == 3) (nUnresponsive false) (s.onGate fun g => { g with inFlight := none })).link = back := by
    by_cases h : s.gate.ackCount = 3
    · simp only [raiseIf, h, beq_self_eq_true, if_true, back]; rfl
    · simp [raiseIf, h, back]
  simp only [ackRecorded, raiseIf_gate, State.onGate_gate]
  by_cases h : k.result = 2
  · simp only [h, beq_self_eq_true, raiseIf, if_true]
    refine raiseNotice_link_congr _ ?_ ?_ ?_ ?_
    · split <;> rfl
    · split <;> rfl
    · split <;> rfl
    · rw [State.onGate_link]; exact hback
  · have hne : (k.result == 2) = false := by simpa using h
    rw [hne, if_neg h]; exact hback

/-- One that does not read is passed up the Station Link alone. -/
theorem ackTaken_unread {f : Frame} (s : State) (h : parseAck f.payload = none) : ackTaken f s = passUp .station f s := by
  simp only [ackTaken, ackPassUp, h]

theorem ackTaken_reads {f : Frame} {k : AckRec} (s : State) (h : parseAck f.payload = some k) : ackTaken f s = ackMatch k (ackPassUp f s) := by
  simp only [ackTaken, h]

/-- An acknowledgement changes nothing of the ring but the slot. -/
theorem ackMatch_ring (k : AckRec) (s : State) : (ackMatch k s).ring = { s.ring with slot := (ackMatch k s).ring.slot } := by
  by_cases hf : ∃ tag0, s.gate.inFlight = some (k.tag, tag0)
  · obtain ⟨tag0, hf⟩ := hf
    rw [ackMatch_matches hf, reissueCheck_ring, ackRecorded_frame]
  · rw [ackMatch_other fun tag0 h => hf ⟨tag0, h⟩]

theorem ackTaken_ring (f : Frame) (s : State) : (ackTaken f s).ring = { s.ring with slot := (ackTaken f s).ring.slot } := by
  cases h : parseAck f.payload with
  | none => rw [ackTaken_unread s h]; rfl
  | some k => rw [ackTaken_reads s h, ackMatch_ring, ackPassUp_reads s h]

/-- Settles O21. -/
theorem ackEndsTheWait : Obligations.AckEndsTheWait := by
  intro p t0 f s hin had hk hrole hcount toPort
  have hw (side : RingPort) : waitOf (ackTaken f (searching p s)).ring side = waitOf s.ring side := by
    rw [ackTaken_ring]
    refine Eq.trans ?_ (waitOf_searching p s side)
    cases side <;> rfl
  obtain ⟨hnone, hlapse⟩ := waitLapse_ends_noWait t0 hw
  refine ⟨parseAck_none _, ackTaken f (searching p s), _, ack_arrives hin had hk hrole, hnone, hlapse, fun h => ?_, fun k h => ?_⟩
  · rw [ackTaken_unread _ h]; rfl
  · intro oldest sent up back
    have hpassed : ackPassUp f (searching p s) = { s with ring := ringSearching p s.ring, gate := { s.gate with sent := sent }, link := up } := by
      rw [ackPassUp_reads _ h]; rfl
    rw [ackTaken_reads _ h, hpassed]
    refine ⟨fun hf => ackMatch_other hf, fun tag0 hf => ?_⟩
    set v : State := { s with ring := ringSearching p s.ring, gate := { s.gate with sent := sent }, link := up } with hv
    rw [ackMatch_matches (s := v) hf]
    have hleaves := reissueCheck_leaves (s := s) (u := ackRecorded k v) (by rw [ackRecorded_frame]) (by rw [ackRecorded_frame]; rfl)
      (fun a => by rw [ackRecorded_frame]; exact liveOf_searching p s a)
    have hgate : (ackRecorded k v).gate = { s.gate with inFlight := none, ackCount := 0, lastAck := some k, sent := sent } := by rw [ackRecorded_frame]
    have hring : (ackRecorded k v).ring = ringSearching p s.ring := by rw [ackRecorded_frame]
    have hslot : (ringSearching p s.ring).slot = s.ring.slot := by cases p <;> rfl
    have hback : (if v.gate.ackCount = 3 then (raiseNotice (nUnresponsive false) v).link else v.link) = back := by
      have hround : (ringSearching p s.ring).round = s.ring.round := by cases p <;> rfl
      have hnotice : (raiseNotice (nUnresponsive false) v).link = (raiseNotice (nUnresponsive false) { s with link := up }).link :=
        raiseNotice_link_congr _ rfl rfl hround rfl
      rw [hnotice]
    have hlink := ackRecorded_link k v
    rw [hback] at hlink
    have hreject (x : Int) : (raiseNotice (nRejected k.tag x) { v with link := back }).link = (raiseNotice (nRejected k.tag x) { s with link := back }).link :=
      raiseNotice_link_congr _ rfl rfl (by cases p <;> rfl) rfl
    refine ⟨?_, by rw [reissueCheck_gate, hgate], by rw [reissueCheck_ring, hring], ?_, fun hr => ?_, fun w hfw hr => ?_, fun hfw hr => ?_⟩
    · rw [reissueCheck_frame, ackRecorded_frame]
    · rw [hring, hslot] at hleaves; simpa only [reissueCheck_gate] using hleaves
    · rw [reissueCheck_link, hlink, if_neg hr]
    · rw [reissueCheck_link, hlink, if_pos hr, ← hreject]; simp only [v, hfw, Option.map_some, Option.getD_some]
    · rw [reissueCheck_link, hlink, if_pos hr, ← hreject]; simp only [v, hfw, Option.map_none, Option.getD_none]

end Sys2Proof.Machine
end

section
/-! The awaited reply of a node: what it answers, and what its payload leaves of the ring. -/

namespace Sys2Proof.Machine

/-! ## A reply is counted, and its attempt is answered (R10, R11, R16) -/

/-- A frame that is no duplicate goes on from where the sequence check leaves it. -/
theorem checked_goesOn {gaps : Bool} {a c : Nat} {next : State → State} {s : State} (h : (liveOf s a).lastCount ≠ some c) :
    checked gaps a c next s = next (checked gaps a c id s) := by
  cases hl : (liveOf s a).lastCount with
  | none => rw [checked_first hl, checked_first hl]; rfl
  | some n =>
    have hn : c ≠ n := fun e => h (by rw [hl, e])
    by_cases h0 : c = 0
    · rw [checked_restart hl hn h0, checked_restart hl hn h0]; rfl
    · rw [checked_next hl hn h0, checked_next hl hn h0]; rfl

/-- The state of a SAMPLE that has been counted. -/
def sampleCounted (p : RingPort) (f : Frame) (s : State) : State := checked true f.src.toNat f.seq.toNat id (searching p s)

/-- The state of a reply whose attempt has been answered, before its payload is looked at. -/
def sampleAnswered (p q side : RingPort) (f : Frame) (s : State) : State :=
  attemptAnswered f.src.toNat q (setPhase side .done (sampleCounted p f s))

/-- Its count shows a restart: 0 after another (R17). -/
def restarts (f : Frame) (s : State) : Prop := ∃ n, (liveOf s f.src.toNat).lastCount = some n ∧ f.seq.toNat ≠ n ∧ f.seq.toNat = 0

/-- A counted SAMPLE: nothing but the node's live fields has changed, and at a restart the module's record and the link. -/
structure SampleCounted (p : RingPort) (f : Frame) (s v : State) : Prop where
  apart : v = { s with ring := v.ring, cell := v.cell, link := v.link }
  ring : ∃ k, (restarts f s → k = 0) ∧ v.ring = setLive f.src.toNat (counted true f.seq.toNat k) (ringSearching p s.ring)
  policy : v.link.policy = s.link.policy ∧ v.link.records = s.link.records
  restart : restarts f s → ∀ m, (cfgOf s f.src.toNat).role = .mod → recOf s f.src.toNat = some m →
    recOf v f.src.toNat = some { recRestart m with cond := moduleCond (recRestart m) }
  plain : newCount f s → v.cell = s.cell ∧ v.link = s.link
  cell : (cfgOf s f.src.toNat).role ≠ .mod → v.cell = s.cell

theorem sampleCounted_plain {p : RingPort} {f : Frame} {s v : State} {k : Nat} (hno : ¬restarts f s)
    (h : v = (searching p s).onRing (setLive f.src.toNat (counted true f.seq.toNat k))) : SampleCounted p f s v :=
  ⟨by rw [h]; rfl, ⟨k, fun hr => absurd hr hno, by rw [h]; rfl⟩, by rw [h]; exact ⟨rfl, rfl⟩, fun hr => absurd hr hno, fun _ => by rw [h]; exact ⟨rfl, rfl⟩, fun _ => by rw [h]; rfl⟩

/-- A restarted node keeps the policies and the records of what was forwarded. -/
theorem nodeRestarted_policy (a : Nat) (s : State) : (nodeRestarted a s).link.policy = s.link.policy ∧ (nodeRestarted a s).link.records = s.link.records := by
  simp only [nodeRestarted]
  split
  · simp only [moduleRestart, changeRec]
    split <;> simp
  · simp

/-- A restarted module's record is cleared of what led up to a condition (R36). -/
theorem nodeRestarted_rec {a : Nat} {s : State} {m : ModuleRec} (hrole : (cfgOf s a).role = .mod) (hm : recOf s a = some m) :
    recOf (nodeRestarted a s) a = some { recRestart m with cond := moduleCond (recRestart m) } := by
  have hrec : recOf (raiseNotice (nNodeRestart (cfgOf s a).role a) s) a = some m := by simp only [recOf, raiseNotice_cell] at hm ⊢; exact hm
  simp only [nodeRestarted, if_pos hrole]
  exact recOf_changeRec _ _ _ _ hrec

theorem sampleCounted_counts {p : RingPort} {f : Frame} {s : State} (hne : (liveOf s f.src.toNat).lastCount ≠ some f.seq.toNat) :
    SampleCounted p f s (sampleCounted p f s) := by
  have hlast : (liveOf (searching p s) f.src.toNat).lastCount = (liveOf s f.src.toNat).lastCount := by rw [liveOf_searching]
  cases hl : (liveOf s f.src.toNat).lastCount with
  | none => exact sampleCounted_plain (fun ⟨n, h, _⟩ => by rw [hl] at h; cases h) (checked_first (hlast.trans hl))
  | some n =>
    have hn : f.seq.toNat ≠ n := fun e => hne (by rw [hl, e])
    by_cases h0 : f.seq.toNat = 0
    · have hv : sampleCounted p f s = nodeRestarted f.src.toNat ((searching p s).onRing (setLive f.src.toNat (counted true f.seq.toNat 0))) :=
        checked_restart (hlast.trans hl) hn h0
      refine ⟨by rw [hv, nodeRestarted_frame]; rfl, ⟨0, fun _ => rfl, by rw [hv, nodeRestarted_ring]; rfl⟩, ?_, fun _ m hrole hm => ?_, fun hnew => ?_, fun hrole => ?_⟩
      · rw [hv]; exact nodeRestarted_policy _ _
      · rw [hv]; exact nodeRestarted_rec hrole hm
      · obtain hnone | ⟨-, hne0⟩ := hnew
        · rw [hl] at hnone; cases hnone
        · exact absurd h0 hne0
      · rw [hv, nodeRestarted_other (s := (searching p s).onRing _) hrole, raiseNotice_cell]; rfl
    · exact sampleCounted_plain (fun ⟨_, _, _, h⟩ => h0 h) (checked_next (hlast.trans hl) hn h0)

/-- The live fields of a node whose reply has answered an attempt on port `q`. -/
def answeredLive (joined? : Bool) (q : RingPort) (c k : Nat) (l : NodeLive) : NodeLive :=
  { counted true c k l with missed := 0, side := if joined? then q else l.side }

/-- What the answered attempt of an admitted node leaves. -/
structure SampleAnswered (p q side : RingPort) (f : Frame) (s w : State) : Prop where
  apart : w = { s with ring := w.ring, cell := w.cell, link := w.link }
  ring : w.ring = { modSeq side (fun x => { x with phase := .done }) (ringSearching p s.ring) with nodes := w.ring.nodes, broken := w.ring.broken }
  others : ∀ c, c ≠ f.src.toNat → liveOf w c = liveOf s c
  node : ∃ k, (restarts f s → k = 0) ∧ liveOf w f.src.toNat = answeredLive (joined s.ring) q f.seq.toNat k (liveOf s f.src.toNat)
  entries : w.ring.nodes.length = s.ring.nodes.length
  policy : w.link.policy = s.link.policy ∧ w.link.records = s.link.records
  restart : restarts f s → ∀ m, (cfgOf s f.src.toNat).role = .mod → recOf s f.src.toNat = some m →
    recOf w f.src.toNat = some { recRestart m with cond := moduleCond (recRestart m) }
  cell : newCount f s ∨ (cfgOf s f.src.toNat).role ≠ .mod → w.cell = s.cell
  quiet : newCount f s → (joined s.ring = true → (liveOf s f.src.toNat).side = q) → s.ring.broken = ringBrokenNow s → w.link = s.link

/-- The ring is broken as before where every node has its state and side as before (R13). -/
theorem ringBrokenNow_of_live {s t : State} (hl : ∀ a, (liveOf t a).state = (liveOf s a).state ∧ (liveOf t a).side = (liveOf s a).side)
    (hs : t.ring.splitEff = s.ring.splitEff) (hm : t.mgmt.ringTables = s.mgmt.ringTables) : ringBrokenNow t = ringBrokenNow s := by
  simp only [ringBrokenNow, joined, hl, cfgOf, hs, hm]

theorem ringBrokenEval_quiet {s : State} (h : s.ring.broken = ringBrokenNow s) : ringBrokenEval s = s := by
  simp only [ringBrokenEval, ← h, bne_self_eq_false, raiseIf]; rfl

theorem joined_eq (r : Ring) : joined r = decide (r.splitEff = 0) := by by_cases h : r.splitEff = 0 <;> simp [joined, h]

theorem ringSearching_frame (p : RingPort) (r : Ring) : ringSearching p r = { r with portA := (ringSearching p r).portA, portB := (ringSearching p r).portB } := by
  cases p <;> rfl

theorem sampleAnswered_answers {p q side : RingPort} {f : Frame} {s : State} (had : admitted s f)
    (hne : (liveOf s f.src.toNat).lastCount ≠ some f.seq.toNat) : SampleAnswered p q side f s (sampleAnswered p q side f s) := by
  obtain ⟨hapart, ⟨k, hk, hring⟩, hpolicy, hrestart, hplain, hcell⟩ := sampleCounted_counts (p := p) hne
  set a := f.src.toNat with ha
  set v := sampleCounted p f s with hv
  -- the ring before the ring-broken flag is evaluated
  set x := (setPhase side .done v).onRing (setLive a fun l => { l with missed := 0, side := if joined (setPhase side .done v).ring then q else l.side }) with hx
  have hw : sampleAnswered p q side f s = ringBrokenEval x := rfl
  have hjoined : joined (setPhase side .done v).ring = joined s.ring := by
    rw [joined_eq, joined_eq, setPhase, State.onRing_ring, modSeq_frame, hring, setLive_frame, ringSearching_frame]
  have hxring : x.ring = { modSeq side (fun y => { y with phase := .done }) (ringSearching p s.ring) with nodes := x.ring.nodes } := by
    have h1 : x.ring = { (setPhase side .done v).ring with nodes := x.ring.nodes } := by rw [hx, State.onRing_ring, setLive_frame]
    rw [h1, setPhase, State.onRing_ring, hring, setLive_frame]
    cases side <;> rfl
  have hentry := admitted_entry had
  have hsearch : (ringSearching p s.ring).nodes = s.ring.nodes := searching_nodes p s
  have hvnodes : (setPhase side .done v).ring.nodes = (setLive a (counted true f.seq.toNat k) (ringSearching p s.ring)).nodes := by
    rw [setPhase, State.onRing_ring, modSeq_frame, hring]
  have hnode : liveOf x a = answeredLive (joined s.ring) q f.seq.toNat k (liveOf s a) := by
    have hlen : a ≤ (setPhase side .done v).ring.nodes.length := by rw [hvnodes, setLive_len, hsearch]; exact hentry.2
    rw [liveOf, hx, State.onRing_ring, liveIn_setLive _ _ _ hentry.1 hlen, hvnodes,
      liveIn_setLive _ _ _ hentry.1 (by rw [hsearch]; exact hentry.2), hsearch, hjoined]
    rfl
  have hothers (c : Nat) (hc : c ≠ a) : liveOf x c = liveOf s c := by
    rw [liveOf, hx, State.onRing_ring, liveIn_setLive_ne _ _ _ _ hc, hvnodes, liveIn_setLive_ne _ _ _ _ hc, hsearch, liveOf]
  have hwnodes : (sampleAnswered p q side f s).ring.nodes = x.ring.nodes := by rw [hw, ringBrokenEval_nodes]
  have hlink : x.link = v.link := rfl
  have hxcell : (sampleAnswered p q side f s).cell = v.cell := by rw [hw, ringBrokenEval_frame]; rfl
  refine ⟨?_, ?_, fun c hc => ?_, ⟨k, hk, ?_⟩, ?_, ?_, fun h m hrole hm => ?_, fun h => ?_, fun hnew hside hbroken => ?_⟩
  · rw [hw, ringBrokenEval_frame]
    have hxapart : x = { s with ring := x.ring, cell := x.cell, link := x.link } := by
      rw [hx, setPhase, hapart]; rfl
    rw [hxapart]
  · rw [hw, ringBrokenEval_ring, hxring]
  · rw [liveOf, hwnodes]; exact hothers c hc
  · rw [liveOf, hwnodes]; exact hnode
  · rw [hwnodes, hx, State.onRing_ring, setLive_len, hvnodes, setLive_len, hsearch]
  · rw [hw, ringBrokenEval, raiseIf_link_policy, raiseIf_link_records]; exact hpolicy
  · simp only [recOf, hxcell]; exact hrestart h m hrole hm
  · rw [hxcell]
    exact h.elim (fun h => (hplain h).1) hcell
  · have hbrokenX : x.ring.broken = ringBrokenNow x := by
      have hnow : ringBrokenNow x = ringBrokenNow s := by
        refine ringBrokenNow_of_live (fun c => ?_) ?_ ?_
        · by_cases hc : c = a
          · rw [hc, hnode]
            refine ⟨rfl, ?_⟩
            by_cases hj : joined s.ring = true
            · simp only [answeredLive, hj, if_true]; exact (hside hj).symm
            · simp [answeredLive, hj, counted]
          · rw [hothers c hc]; exact ⟨rfl, rfl⟩
        · rw [hxring, modSeq_frame, ringSearching_frame]
        · rw [hx, setPhase, hapart]; rfl
      rw [hnow, ← hbroken, hxring, modSeq_frame, ringSearching_frame]
    rw [hw, ringBrokenEval_quiet hbrokenX, hlink]
    exact (hplain hnew).2

/-! ## The reply ends its wait (R10, R18, R21) -/

theorem awaitedSide_congr {r r' : Ring} (h : ∀ side, waitOf r' side = waitOf r side) (a : Nat) : awaitedSide r' a = awaitedSide r a := by
  simp only [awaitedSide, h]

theorem sampleCounted_waits {p : RingPort} {f : Frame} {s v : State} (h : SampleCounted p f s v) (side : RingPort) :
    waitOf v.ring side = waitOf s.ring side := by
  obtain ⟨k, -, hk⟩ := h.ring
  rw [hk, waitOf_setLive]; exact waitOf_searching p s side

/-- The state once the payload of an awaited reply has been handled. -/
def sampleReplied (p q side : RingPort) (f : Frame) (s : State) : State := replyPayload f.src.toNat f (sampleAnswered p q side f s)

/-- A SAMPLE that answers, in time, the wait of its node (R10). -/
theorem sample_answers {p q side : RingPort} {t0 since : Nat} {second : Bool} {f : Frame} {s : State} (hin : arrives p t0 s) (had : admitted s f)
    (hk : f.kind = kSample) (hside : awaitedSide s.ring f.src.toNat = some side) (hw : waitOf s.ring side = some (f.src.toNat, q, second, since))
    (ht : t0 ≤ since + 2000) (hne : (liveOf s f.src.toNat).lastCount ≠ some f.seq.toNat) :
    exec (.sampleReceived p t0 f) s = .next (waitLapse t0 (opportunity side (sampleReplied p q side f s))) := by
  have hwaits := sampleCounted_waits (sampleCounted_counts (p := p) hne)
  rw [sample_arrives hin had hk, checked_goesOn (by rw [liveOf_searching]; exact hne)]
  have htake : sampleTaken t0 f (sampleCounted p f s) = opportunity side (sampleReplied p q side f s) := by
    have ht' : t0 ≤ since + replyTime := ht
    simp only [sampleTaken, awaitedSide_congr hwaits, hside, hwaits, hw, if_pos ht']; rfl
  rw [← htake]; rfl

/-- The sequence of the side goes on (R21). -/
theorem sampleReplied_goesOn {p q side : RingPort} {f : Frame} {s : State} (h : SampleAnswered p q side f s (sampleAnswered p q side f s)) :
    goesOn side f.src.toNat (modSeq side (fun x => { x with phase := .done }) (ringSearching p s.ring)) s (opportunity side (sampleReplied p q side f s)) := by
  obtain ⟨hring, hothers, htables, hnow⟩ := ringKept_reply f.src.toNat f (sampleAnswered p q side f s)
  refine opportunity_goesOn _ _ _ _ _ (fun c hc => (hothers c hc).trans (h.others c hc)) ?_ ?_ ?_
  · rw [sampleReplied, hring, h.ring]
  · rw [sampleReplied, htables, h.apart]
  · rw [sampleReplied, hnow, h.apart]

/-- A reply leaves the sequences as the answered attempt left them. -/
theorem sampleReplied_seqOf {p q side : RingPort} {f : Frame} {s : State} (h : SampleAnswered p q side f s (sampleAnswered p q side f s)) (o : RingPort) :
    seqOf (sampleReplied p q side f s).ring o = if o = side then { seqOf s.ring side with phase := .done } else seqOf s.ring o := by
  obtain ⟨hring, -, -, -⟩ := ringKept_reply f.src.toNat f (sampleAnswered p q side f s)
  rw [sampleReplied, hring, h.ring]
  cases o <;> cases side <;> simp [seqOf, modSeq, ringSearching, modPort] <;> cases p <;> rfl

/-- In a joined ring the answered reply is the end of it: no wait is left. -/
theorem sample_replies {p q : RingPort} {t0 since : Nat} {second : Bool} {f : Frame} {s : State} (h : awaits p q t0 since second f s)
    (hne : (liveOf s f.src.toNat).lastCount ≠ some f.seq.toNat) :
    SampleAnswered p q .a f s (sampleAnswered p q .a f s) ∧ exec (.sampleReceived p t0 f) s = .next (opportunity .a (sampleReplied p q .a f s)) := by
  obtain ⟨hin, hjoin, hB, hA, ht, had, hk⟩ := h
  have hans := sampleAnswered_answers (p := p) (q := q) (side := .a) had hne
  have hwA : waitOf s.ring .a = some (f.src.toNat, q, second, since) := waitOf_waiting hA
  have hwB : waitOf s.ring .b = none := by simp [waitOf, seqOf, hB]
  have hside : awaitedSide s.ring f.src.toNat = some .a := by simp [awaitedSide, hwA, hwB]
  obtain ⟨-, -, hseqs⟩ := opportunity_frame .a (sampleReplied p q .a f s)
  have hBidle : (seqOf (opportunity .a (sampleReplied p q .a f s)).ring .b).phase = .idle := by
    rw [(hseqs .b).2 (by decide), sampleReplied_seqOf hans, if_neg (by decide)]; exact hB
  refine ⟨hans, ?_⟩
  rw [sample_answers hin had hk hside hwA ht hne, waitLapse_none _ _ ((hseqs .a).1 rfl) (by simp [waitOf, hBidle])]

/-! ## What the payload leaves (R18) -/

theorem converterState_slot (c : ConvState) (s : State) : (converterState c s).ring = { s.ring with slot := (converterState c s).ring.slot } := by
  simp only [converterState]
  split_ifs
  · rfl
  · rw [reissueCheck_ring]; simp
  · simp

theorem openingTest_slot (s : State) : (openingTest s).ring = { s.ring with slot := (openingTest s).ring.slot } := by
  simp only [openingTest]
  split_ifs
  · split <;> rw [lockOut_ring]
  · split
    · rw [lockOut_ring]
    · rw [seqTo_ring]
  · rfl

theorem seqEnterTested_slot (st : SeqState) (s : State) : (seqEnterTested st s).ring = { s.ring with slot := (seqEnterTested st s).ring.slot } := by
  simp only [seqEnterTested]
  split
  · rw [takeBay_ring, seqTo_ring]
  · rw [seqTo_ring]

theorem converterSample_slot (d : ConverterSample) (s : State) : (converterSample d s).ring = { s.ring with slot := (converterSample d s).ring.slot } := by
  simp only [converterSample]
  split_ifs
  · rw [seqEnterTested_slot]; rfl
  · rfl
  · rw [openingTest_slot]; rfl
  · rfl

theorem flowTest_cool (z flow : Nat) (s : State) : flowTest z flow s = { s with cool := (flowTest z flow s).cool } := by
  unfold flowTest; split <;> rfl

/-- A sample handed to its owner changes nothing of the ring but the slot. -/
theorem deliver_slot (a : Nat) (x : Payload) (s : State) : (deliver a x s).ring = { s.ring with slot := (deliver a x s).ring.slot } := by
  cases x with
  | mod d => simp only [deliver, moduleSample]; rw [changeRec_frame]
  | cool d =>
    simp only [deliver, coolantSample]
    split
    · rfl
    · rw [coolSettle_ring, flowTest_cool]; rfl
  | meter d => exact meterSample_ring d s
  | conv d => simp only [deliver]; rw [converterState_slot, converterSample_slot]

/-- The live fields of a node after a well-formed reply (R18). -/
theorem wellFormedReply_live {a : Nat} {x : Payload} {f : Frame} {s : State} (ha : hasEntry s a) :
    liveOf (wellFormedReply a x f s) a = { liveOf s a with
      malformed := false, state := if (liveOf s a).state = .absent ∨ (liveOf s a).state = .silent then .inService else (liveOf s a).state } := by
  have hlive (y : State) : liveOf (offer a x f (deliver a x y)) a = liveOf y a := by
    rw [liveOf, offer_frame, deliver_slot, liveOf]
  have hset : liveOf (s.onRing (setLive a fun l => { l with malformed := false })) a = { liveOf s a with malformed := false } :=
    liveIn_setLive _ _ _ ha.1 ha.2
  simp only [wellFormedReply, hlive]
  split_ifs
  · rw [nodeTo_live _ _ ⟨ha.1, by rw [State.onRing_ring, setLive_len]; exact ha.2⟩, hset]; rfl
  · rw [hset]

theorem malformedReply_live {a n : Nat} {s : State} (ha : hasEntry s a) : liveOf (malformedReply a n s) a =
    { liveOf s a with malformed := true, malformedCount := satInc (liveOf s a).malformedCount } := by
  rw [liveOf, malformedReply, raiseIf_ring, State.onRing_ring, liveIn_setLive _ _ _ ha.1 ha.2]; rfl

theorem replyPayload_wellFormed {a : Nat} {f : Frame} {x : Payload} {s : State} (h : payloadOf (cfgOf s a) f.payload = some x) :
    replyPayload a f s = wellFormedReply a x f s := by simp only [replyPayload, h]

theorem replyPayload_malformed {a : Nat} {f : Frame} {s : State} (h : payloadOf (cfgOf s a) f.payload = none) :
    replyPayload a f s = malformedReply a f.payload.length s := by simp only [replyPayload, h]

/-- The role whose sample a payload is. -/
def payloadRole : Payload → Role
  | .mod _ => .mod
  | .cool _ => .cool
  | .meter _ => .meter
  | .conv _ => .conv

theorem payloadOf_role {c : NodeCfg} {b : List Byte} {x : Payload} (h : payloadOf c b = some x) : c.role = payloadRole x := by
  unfold payloadOf at h
  cases hr : c.role <;> rw [hr] at h
  · cases h
  · simp only at h
    split at h
    · split_ifs at h; obtain rfl := Option.some.inj h; rfl
    · cases h
  · obtain ⟨d, -, rfl⟩ := Option.map_eq_some_iff.mp h; rfl
  · obtain ⟨d, -, rfl⟩ := Option.map_eq_some_iff.mp h; rfl
  · obtain ⟨d, -, rfl⟩ := Option.map_eq_some_iff.mp h; rfl

end Sys2Proof.Machine
end

section
/-! O18: the awaited reply of a MODULE. -/

namespace Sys2Proof.Machine

/-! ## What a reply leaves of its node's live fields (R11, R17, R18) -/

theorem liveOf_opportunity (side : RingPort) (s : State) (a : Nat) : liveOf (opportunity side s) a = liveOf s a := by
  simp only [liveOf, (opportunity_frame side s).2.1]

theorem cfgOf_answered {p q side : RingPort} {f : Frame} {s w : State} (h : SampleAnswered p q side f s w) (a : Nat) : cfgOf w a = cfgOf s a := by
  rw [h.apart]; rfl

theorem hasEntry_answered {p q side : RingPort} {f : Frame} {s w : State} {a : Nat} (h : SampleAnswered p q side f s w) (ha : hasEntry s a) : hasEntry w a :=
  ⟨ha.1, by rw [h.entries]; exact ha.2⟩

/-- The live fields of a node whose well-formed reply was awaited on side `side`, by an attempt on port `q`. -/
theorem sampleReplied_live {p q side : RingPort} {f : Frame} {x : Payload} {s : State} (h : SampleAnswered p q side f s (sampleAnswered p q side f s))
    (had : admitted s f) (hx : payloadOf (cfgOf s f.src.toNat) f.payload = some x) :
    ∃ k, (restarts f s → k = 0) ∧ liveOf (sampleReplied p q side f s) f.src.toNat =
      { answeredLive (joined s.ring) q f.seq.toNat k (liveOf s f.src.toNat) with
        malformed := false
        state := if (liveOf s f.src.toNat).state = .absent ∨ (liveOf s f.src.toNat).state = .silent then .inService else (liveOf s f.src.toNat).state } := by
  obtain ⟨k, hk, hlive⟩ := h.node
  refine ⟨k, hk, ?_⟩
  rw [sampleReplied, replyPayload_wellFormed (by rw [cfgOf_answered h]; exact hx), wellFormedReply_live (hasEntry_answered h (admitted_entry had)), hlive]
  rfl

theorem joined_true {r : Ring} (h : r.splitEff = 0) : joined r = true := by rw [joined_eq, decide_eq_true h]

/-! ## The evaluation of a module's record (R30, R35, R41) -/

/-- The record of a module after a sample, its condition formed again. -/
def sampledRec (s : State) (a : Nat) (d : ModuleSample) (m : ModuleRec) : ModuleRec :=
  let m' := recSample (cfgOf s a) (profileOf s a) d m
  { m' with cond := moduleCond m' }

theorem sampledRec_evaluated (s : State) (a : Nat) (d : ModuleSample) (m : ModuleRec) : evaluated s a d m (sampledRec s a d m) :=
  ⟨rfl, rfl, rfl, rfl, rfl, rfl, rfl, rfl, rfl⟩

theorem sampledRec_congr {s t : State} (a : Nat) (d : ModuleSample) (m : ModuleRec) (h : t.mgmt.ringTables = s.mgmt.ringTables) :
    sampledRec t a d m = sampledRec s a d m := by simp only [sampledRec, cfgOf, profileOf, h]

theorem recOf_moduleSample {a : Nat} {d : ModuleSample} {m : ModuleRec} {s : State} (h : recOf s a = some m) :
    recOf (moduleSample a d s) a = some (sampledRec s a d m) := recOf_changeRec _ _ _ _ h

theorem recOf_congr {s t : State} (h : t.cell = s.cell) (a : Nat) : recOf t a = recOf s a := by
  cases a with
  | zero => rfl
  | succ k => simp only [recOf, h]

/-- A record whose condition stays raises nothing. -/
theorem changeRec_link {a : Nat} {g : ModuleRec → ModuleRec} {m : ModuleRec} {s : State} (h : recOf s a = some m) (hc : moduleCond (g m) = m.cond) :
    (changeRec a g s).link = s.link := by
  simp only [changeRec, h, hc, bne_self_eq_false, Bool.false_and, raiseIf]; rfl

theorem changeRec_policy (a : Nat) (g : ModuleRec → ModuleRec) (s : State) :
    (changeRec a g s).link.policy = s.link.policy ∧ (changeRec a g s).link.records = s.link.records := by
  simp only [changeRec]
  split <;> simp

/-! ## Forwarding (R176) -/

/-- Whether the policy of the MODULE role forwards a sample of node `a` whose module stands in condition `c`. -/
def modForwards (l : Link) (a : Nat) (c : ModCond) : Prop :=
  let pol := l.policy.getD 0 ⟨.onChange, 50⟩
  let old := l.records.getD (a - 1) ⟨none, 0⟩
  pol.policy = .all ∨ (pol.policy = .onChange ∧ (old.mark ≠ some c.code ∨ pol.every ≤ old.rounds))

theorem forwards_iff (p : Forward) (r : ForwardRec) (mark : Nat) :
    forwards p r mark = true ↔ p.policy = .all ∨ (p.policy = .onChange ∧ (r.mark ≠ some mark ∨ p.every ≤ r.rounds)) := by
  simp only [forwards]
  cases p.policy <;> simp

theorem modForwards_congr {l l' : Link} (h : l'.policy = l.policy ∧ l'.records = l.records) (a : Nat) (c : ModCond) :
    modForwards l' a c ↔ modForwards l a c := by simp only [modForwards, h.1, h.2]

/-- The link once a MODULE's sample has been offered to it. -/
theorem offer_mod {a : Nat} {d : ModuleSample} {f : Frame} {m : ModuleRec} {s : State} (hrole : (cfgOf s a).role = .mod) (hrec : recOf s a = some m) :
    (modForwards s.link a m.cond → (offer a (.mod d) f s).link =
      sendUp s.now s.mgmt.ringTables.rate .station ⟨.forwarded, false, false, f⟩ { s.link with records := s.link.records.set (a - 1) ⟨some m.cond.code, 0⟩ }) ∧
    (¬modForwards s.link a m.cond → offer a (.mod d) f s = s) := by
  have hmark : markOf s a (.mod d) = m.cond.code := by simp only [markOf, hrec]
  refine ⟨fun h => ?_, fun h => ?_⟩
  · rw [modForwards, ← forwards_iff] at h
    simp only [offer, hrole, roleIdx, hmark, h, if_true]; rfl
  · rw [modForwards, ← forwards_iff, Bool.not_eq_true] at h
    simp only [offer, hrole, roleIdx, hmark, h]; rfl

/-! ## The reply of an IN_SERVICE module (R18) -/

/-- The well-formed reply of a module in service. -/
theorem wellFormedReply_serving {a : Nat} {x : Payload} {f : Frame} {s : State} (h : (liveOf s a).state = .inService) :
    wellFormedReply a x f s = offer a x f (deliver a x (s.onRing (setLive a fun l => { l with malformed := false }))) := by
  simp only [wellFormedReply, h]; rfl

/-- What the evaluated reply of a module in service leaves, over the state `w` of the answered attempt; `m'` is the record it leaves. -/
structure ModuleEvaluated (a : Nat) (f : Frame) (m m' : ModuleRec) (w x : State) : Prop where
  apart : x = { w with ring := x.ring, cell := x.cell, link := x.link }
  record : recOf x a = some m'
  forwarded : modForwards w.link a m'.cond → x.link.records = w.link.records.set (a - 1) ⟨some m'.cond.code, 0⟩ ∧
    (m'.cond = m.cond → x.link = sendUp w.now w.mgmt.ringTables.rate .station ⟨.forwarded, false, false, f⟩
      { w.link with records := w.link.records.set (a - 1) ⟨some m'.cond.code, 0⟩ })
  kept : ¬modForwards w.link a m'.cond → x.link.records = w.link.records ∧ (m'.cond = m.cond → x.link = w.link)

theorem replyPayload_serving {a : Nat} {d : ModuleSample} {f : Frame} {m : ModuleRec} {w : State} (hst : (liveOf w a).state = .inService)
    (hx : payloadOf (cfgOf w a) f.payload = some (.mod d)) (hm : recOf w a = some m) : ModuleEvaluated a f m (sampledRec w a d m) w (replyPayload a f w) := by
  set u := w.onRing (setLive a fun l => { l with malformed := false }) with hu
  set y := moduleSample a d u with hy
  have he : replyPayload a f w = offer a (.mod d) f y := by rw [replyPayload_wellFormed hx, wellFormedReply_serving hst]; rfl
  have hyframe : y = { u with cell := y.cell, link := y.link } := changeRec_frame _ _ _
  have hrec : recOf y a = some (sampledRec w a d m) := recOf_moduleSample (s := u) hm
  have hrole : (cfgOf y a).role = .mod := by
    have : (cfgOf y a).role = (cfgOf w a).role := by rw [hyframe]; rfl
    rw [this]; exact payloadOf_role hx
  have hpolicy : y.link.policy = w.link.policy ∧ y.link.records = w.link.records := changeRec_policy _ _ _
  have hnow : y.now = w.now ∧ y.mgmt = w.mgmt := by rw [hyframe]; exact ⟨rfl, rfl⟩
  have hlink : (sampledRec w a d m).cond = m.cond → y.link = w.link := fun hc => changeRec_link (s := u) (m := m) hm hc
  obtain ⟨hforwarded, hkept⟩ := offer_mod (d := d) (f := f) hrole hrec
  rw [modForwards_congr hpolicy] at hforwarded hkept
  rw [he]
  refine ⟨?_, ?_, fun hf => ⟨?_, fun hc => ?_⟩, fun hf => ?_⟩
  · rw [offer_frame, hyframe]; rfl
  · rw [offer_frame]; exact hrec
  · rw [hforwarded hf, sendUp_records, hpolicy.2]
  · rw [hforwarded hf, hnow.1, hnow.2, hlink hc]
  · rw [hkept hf]; exact ⟨hpolicy.2, hlink⟩

/-! ## O18 -/

theorem newCount_counts {f : Frame} {s : State} (h : newCount f s) : (liveOf s f.src.toNat).lastCount ≠ some f.seq.toNat := by
  obtain hnone | ⟨hne, -⟩ := h
  · rw [hnone]; simp
  · exact hne

/-- The frame that reaches the node's record through the opportunity that follows its reply. -/
theorem opportunity_apart {side : RingPort} {s x : State} (h : x = { s with ring := x.ring, cell := x.cell, link := x.link }) :
    opportunity side x = { s with ring := (opportunity side x).ring, cell := (opportunity side x).cell, link := (opportunity side x).link } := by
  rw [(opportunity_frame side x).1, h]

theorem recOf_opportunity (side : RingPort) (s : State) (a : Nat) : recOf (opportunity side s) a = recOf s a :=
  recOf_congr (by rw [(opportunity_frame side s).1]) a

theorem link_opportunity (side : RingPort) (s : State) : (opportunity side s).link = s.link := by rw [(opportunity_frame side s).1]

/-- The reply of a module in service over the state of its answered attempt. -/
theorem sampleReplied_serving {p q side : RingPort} {f : Frame} {d : ModuleSample} {m : ModuleRec} {s : State}
    (h : SampleAnswered p q side f s (sampleAnswered p q side f s)) (hst : (liveOf s f.src.toNat).state = .inService)
    (hx : payloadOf (cfgOf s f.src.toNat) f.payload = some (.mod d)) (hm : recOf (sampleAnswered p q side f s) f.src.toNat = some m) :
    ModuleEvaluated f.src.toNat f m (sampledRec s f.src.toNat d m) (sampleAnswered p q side f s) (sampleReplied p q side f s) := by
  have hrec := sampledRec_congr (s := s) (t := sampleAnswered p q side f s) f.src.toNat d m (by rw [h.apart])
  obtain ⟨k, -, hlive⟩ := h.node
  rw [← hrec]
  exact replyPayload_serving (by rw [hlive]; exact hst) (by rw [cfgOf_answered h]; exact hx) hm

/-- After a well-formed reply in service nothing but the ring, the records and the link has changed. -/
theorem opportunity_serving {p q side : RingPort} {f : Frame} {m m' : ModuleRec} {s : State}
    (h : SampleAnswered p q side f s (sampleAnswered p q side f s))
    (he : ModuleEvaluated f.src.toNat f m m' (sampleAnswered p q side f s) (sampleReplied p q side f s)) :
    opportunity side (sampleReplied p q side f s) = { s with
      ring := (opportunity side (sampleReplied p q side f s)).ring
      cell := (opportunity side (sampleReplied p q side f s)).cell
      link := (opportunity side (sampleReplied p q side f s)).link } ∧
    recOf (opportunity side (sampleReplied p q side f s)) f.src.toNat = some m' := by
  refine ⟨opportunity_apart ?_, (recOf_opportunity _ _ _).trans he.record⟩
  rw [he.apart, h.apart]

/-- The live fields of a node in service after its well-formed reply. -/
theorem opportunity_live {p q side : RingPort} {f : Frame} {x : Payload} {s : State} (h : SampleAnswered p q side f s (sampleAnswered p q side f s))
    (had : admitted s f) (hx : payloadOf (cfgOf s f.src.toNat) f.payload = some x)
    (hst : (liveOf s f.src.toNat).state = .absent ∨ (liveOf s f.src.toNat).state = .silent ∨ (liveOf s f.src.toNat).state = .inService) :
    ∃ k, (restarts f s → k = 0) ∧ liveOf (opportunity side (sampleReplied p q side f s)) f.src.toNat =
      { answeredLive (joined s.ring) q f.seq.toNat k (liveOf s f.src.toNat) with malformed := false, state := .inService } := by
  obtain ⟨k, hk, hlive⟩ := sampleReplied_live h had hx
  refine ⟨k, hk, ?_⟩
  rw [liveOf_opportunity, hlive]
  obtain hst | hst | hst := hst <;> simp [hst]

/-- A first reply re-evaluates the detection blind of the zones and leaves what is no node's. -/
structure FirstReply (a : Nat) (d : ModuleSample) (m : ModuleRec) (s x : State) : Prop where
  record : recOf x a = some (sampledRec s a d m)
  blinds : blindsCurrent x
  fire : x.fire.state = s.fire.state
  apart : x.loop = s.loop ∧ x.store = s.store ∧ x.now = s.now ∧ x.pending = s.pending

/-- An evaluated sample, offered to the link, leaves all but the records and the link. -/
theorem offered_apart (a : Nat) (d : ModuleSample) (f : Frame) (s : State) : offer a (.mod d) f (moduleSample a d s) =
    { s with cell := (moduleSample a d s).cell, link := (offer a (.mod d) f (moduleSample a d s)).link } := by
  have h : moduleSample a d s = { s with cell := (moduleSample a d s).cell, link := (moduleSample a d s).link } := changeRec_frame _ _ _
  rw [offer_frame, h]

theorem replyPayload_first {a : Nat} {d : ModuleSample} {f : Frame} {m : ModuleRec} {w : State}
    (hst : (liveOf w a).state = .absent ∨ (liveOf w a).state = .silent)
    (hx : payloadOf (cfgOf w a) f.payload = some (.mod d)) (hm : recOf w a = some m) : FirstReply a d m w (replyPayload a f w) := by
  set u := w.onRing (setLive a fun l => { l with malformed := false })
  obtain ⟨v, hv⟩ : ∃ v, v = nodeTo a .inService id u := ⟨_, rfl⟩
  have he : replyPayload a f w = offer a (.mod d) f (moduleSample a d v) := by
    rw [replyPayload_wellFormed hx, wellFormedReply, if_pos hst, hv]; rfl
  have hrec : recOf v a = some m := by rw [hv]; exact (recOf_congr (nodeTo_cell _ _ _ _) a).trans hm
  have htables : v.mgmt.ringTables = w.mgmt.ringTables := by rw [hv]; exact (nodeTo_frame a .inService id u).2.2
  have hblinds : blindsCurrent v := by rw [hv]; exact nodeTo_blinds a .inService id u
  have hfire : v.fire.state = w.fire.state := by rw [hv, nodeTo_fire_state]; rfl
  have happart : v.loop = w.loop ∧ v.store = w.store ∧ v.now = w.now ∧ v.pending = w.pending := by
    rw [hv, nodeTo_loop, nodeTo_store, nodeTo_now, nodeTo_pending]; exact ⟨rfl, rfl, rfl, rfl⟩
  have hreply : recOf (offer a (.mod d) f (moduleSample a d v)) a = some (sampledRec w a d m) := by
    rw [offer_frame, ← sampledRec_congr a d m htables]; exact recOf_moduleSample hrec
  rw [he]
  refine ⟨hreply, ?_, ?_, ?_⟩
  · refine blindsCurrent_congr ?_ ?_ ?_ ?_ ?_ hblinds <;> rw [offered_apart]
  · rw [offered_apart]; exact hfire
  · rw [offered_apart]; exact happart

theorem malformedReply_apart (a n : Nat) (s : State) :
    malformedReply a n s = { s with ring := (malformedReply a n s).ring, link := (malformedReply a n s).link } := by
  simp only [malformedReply]
  apply State.eq_of_fields <;> simp

/-- The link after a malformed reply (R18). -/
theorem malformedReply_link (a n : Nat) (s : State) :
    (malformedReply a n s).link = if (liveOf s a).malformed then s.link else (raiseNotice (nMalformed (cfgOf s a).role a n) s).link := by
  simp only [malformedReply]
  cases hb : (liveOf s a).malformed
  · exact raiseNotice_link_congr _ rfl rfl (by rw [State.onRing_ring, setLive_frame]) rfl
  · rfl

/-- A restarted node's count is 0 after another, and no duplicate. -/
theorem restarts_of {f : Frame} {s : State} {n : Nat} (hn : (liveOf s f.src.toNat).lastCount = some n) (hn0 : n ≠ 0) (h0 : f.seq.toNat = 0) :
    restarts f s ∧ (liveOf s f.src.toNat).lastCount ≠ some f.seq.toNat :=
  ⟨⟨n, hn, by omega, h0⟩, by rw [hn, h0]; simp [hn0]⟩

/-- In split mode the wait of a node stands on the side that polled it. -/
theorem awaitedSide_split {r : Ring} {a : Nat} {q : RingPort} {second : Bool} {since : Nat} (hw : waitOf r q = some (a, q, second, since))
    {o : RingPort} (hoq : o ≠ q) (ho : ∀ q' second' since', waitOf r o ≠ some (a, q', second', since')) : awaitedSide r a = some q := by
  cases q
  · simp only [awaitedSide, hw]
    cases waitOf r .b <;> simp
  · have hne : ∀ x, waitOf r .a = some x → x.1 ≠ a := by
      rintro ⟨a', q', second', since'⟩ hx rfl
      have hoa : o = .a := by cases o <;> simp at hoq ⊢
      exact ho q' second' since' (by rw [hoa]; exact hx)
    simp only [awaitedSide, hw]
    cases hA : waitOf r .a with
    | none => simp
    | some x => simp [hne x hA]

/-- In split mode the reply of a node ends the wait of its own side, and leaves the other side `o` to itself. -/
theorem sample_replies_split {p q o : RingPort} {t0 since : Nat} {second : Bool} {f : Frame} {s : State} (hin : arrives p t0 s) (had : admitted s f)
    (hk : f.kind = kSample) (hw : (seqOf s.ring q).phase = .waiting f.src.toNat q second since) (hoq : o ≠ q)
    (ho : ∀ q' second' since', waitOf s.ring o ≠ some (f.src.toNat, q', second', since')) (ht : t0 ≤ since + 2000)
    (hne : (liveOf s f.src.toNat).lastCount ≠ some f.seq.toNat) :
    SampleAnswered p q q f s (sampleAnswered p q q f s) ∧
    exec (.sampleReceived p t0 f) s = .next (waitLapse t0 (opportunity q (sampleReplied p q q f s))) ∧
    seqOf (opportunity q (sampleReplied p q q f s)).ring o = seqOf s.ring o ∧
    (waitOf s.ring o = none → waitLapse t0 (opportunity q (sampleReplied p q q f s)) = opportunity q (sampleReplied p q q f s)) := by
  have hans := sampleAnswered_answers (p := p) (q := q) (side := q) had hne
  have hwait : waitOf s.ring q = some (f.src.toNat, q, second, since) := waitOf_waiting hw
  obtain ⟨-, -, hseqs⟩ := opportunity_frame q (sampleReplied p q q f s)
  have hseqo : seqOf (opportunity q (sampleReplied p q q f s)).ring o = seqOf s.ring o := by
    rw [(hseqs o).2 hoq, sampleReplied_seqOf hans, if_neg hoq]
  refine ⟨hans, sample_answers hin had hk (awaitedSide_split hwait hoq ho) hwait ht hne, hseqo, fun hnone => ?_⟩
  have hboth (side : RingPort) : waitOf (opportunity q (sampleReplied p q q f s)).ring side = none := by
    by_cases hside : side = q
    · exact (hseqs side).1 hside
    · have hso : side = o := by revert hside hoq; cases side <;> cases q <;> cases o <;> decide
      rw [hso]; simp only [waitOf, hseqo] at hnone ⊢; exact hnone
  exact waitLapse_none _ _ (hboth .a) (hboth .b)

/-- Settles O18: the counted reply ends its wait, its payload is evaluated into the module's record and offered to the link, and the side goes on. -/
theorem moduleReply : Obligations.ModuleReply := by
  refine ⟨fun p q t0 since second f d m s h hst hnew hx hm => ?_, fun p q t0 since second f d m s h hst hnew hx hm => ?_,
    fun p q t0 since n second f d m s h hst hn hn0 h0 hx hm => ?_, fun p q t0 since second f s h hnew hx => ?_,
    fun p q t0 since second f d m s hin hsplit hw ho ht had hk hst hnew hx hm => ?_⟩
  · obtain ⟨hans, hexec⟩ := sample_replies h (newCount_counts hnew)
    have hj : joined s.ring = true := joined_true h.2.1
    have he := sampleReplied_serving hans hst hx ((recOf_congr (hans.cell (.inl hnew)) _).trans hm)
    obtain ⟨hapart, hrec⟩ := opportunity_serving hans he
    obtain ⟨k, -, hlive⟩ := opportunity_live hans h.2.2.2.2.2.1 hx (.inr (.inr hst))
    have hforward := modForwards_congr hans.policy f.src.toNat (sampledRec s f.src.toNat d m).cond
    refine ⟨_, hexec, hapart, by rw [hlive]; rfl, by rw [hlive, hj]; rfl, by rw [hlive], by rw [hlive], sampleReplied_goesOn hans, by rw [hlive]; rfl,
      ((opportunity_frame .a _).2.2 .a).1 rfl, _, hrec, sampledRec_evaluated s _ d m, fun hf => ?_, fun hf => ?_,
      fun hside hbroken hc => ⟨fun hf => ?_, fun hf => ?_⟩⟩
    · rw [link_opportunity, (he.forwarded (hforward.mpr hf)).1, hans.policy.2]
    · rw [link_opportunity, (he.kept (mt hforward.mp hf)).1, hans.policy.2]
    · have hlink := hans.quiet hnew (fun _ => hside) hbroken
      rw [link_opportunity, (he.forwarded (hforward.mpr hf)).2 hc, hlink, hans.apart]
    · rw [link_opportunity, (he.kept (mt hforward.mp hf)).2 hc]
      exact hans.quiet hnew (fun _ => hside) hbroken
  · obtain ⟨hans, hexec⟩ := sample_replies h (newCount_counts hnew)
    have hj : joined s.ring = true := joined_true h.2.1
    obtain ⟨k, -, hlive⟩ := opportunity_live hans h.2.2.2.2.2.1 hx (hst.imp_right .inl)
    obtain ⟨k', -, hnode⟩ := hans.node
    have hfirst := replyPayload_first (w := sampleAnswered p q .a f s) (by rw [hnode]; exact hst) (by rw [cfgOf_answered hans]; exact hx)
      ((recOf_congr (hans.cell (.inl hnew)) _).trans hm)
    obtain ⟨hframe, -, -⟩ := opportunity_frame .a (sampleReplied p q .a f s)
    obtain ⟨hloop, hstore, hnow, hpending⟩ := hfirst.apart
    refine ⟨_, hexec, by rw [hlive], by rw [hlive]; rfl, by rw [hlive, hj]; rfl, by rw [hlive], by rw [hlive]; rfl, sampleReplied_goesOn hans,
      ⟨_, (recOf_opportunity _ _ _).trans hfirst.record, ?_⟩, opportunity_blinds _ hfirst.blinds, ?_, ?_, ?_, ?_, ?_⟩
    · rw [sampledRec_congr (s := s) _ _ _ (by rw [hans.apart])]; exact sampledRec_evaluated s _ d m
    · rw [hframe]; exact hfirst.fire.trans (by rw [hans.apart])
    · rw [hframe]; exact hloop.trans (by rw [hans.apart])
    · rw [hframe]; exact hstore.trans (by rw [hans.apart])
    · rw [hframe]; exact hnow.trans (by rw [hans.apart])
    · rw [hframe]; exact hpending.trans (by rw [hans.apart])
  · obtain ⟨hrestart, hne⟩ := restarts_of hn hn0 h0
    obtain ⟨hans, hexec⟩ := sample_replies h hne
    have he := sampleReplied_serving hans hst hx (hans.restart hrestart m (payloadOf_role hx) hm)
    obtain ⟨hapart, hrec⟩ := opportunity_serving hans he
    obtain ⟨k, hk, hlive⟩ := opportunity_live hans h.2.2.2.2.2.1 hx (.inr (.inr hst))
    refine ⟨_, hexec, hapart, sampleReplied_goesOn hans, by rw [hlive]; exact congrArg some h0, by rw [hlive, hk hrestart]; rfl, by rw [hlive]; rfl,
      _, hrec, ?_⟩
    exact sampledRec_evaluated s _ d { recRestart m with cond := moduleCond (recRestart m) }
  · obtain ⟨hans, hexec⟩ := sample_replies h (newCount_counts hnew)
    have hj : joined s.ring = true := joined_true h.2.1
    obtain ⟨k, -, hnode⟩ := hans.node
    have hpay : sampleReplied p q .a f s = malformedReply f.src.toNat f.payload.length (sampleAnswered p q .a f s) :=
      replyPayload_malformed (by rw [cfgOf_answered hans]; exact hx)
    have hlive := malformedReply_live (n := f.payload.length) (hasEntry_answered hans (admitted_entry h.2.2.2.2.2.1))
    rw [hnode, ← hpay, ← liveOf_opportunity .a] at hlive
    refine ⟨_, hexec, ?_, by rw [hlive]; rfl, by rw [hlive]; rfl, by rw [hlive, hj]; rfl, by rw [hlive], by rw [hlive]; rfl, by rw [hlive]; rfl,
      ((opportunity_frame .a _).2.2 .a).1 rfl, sampleReplied_goesOn hans, fun hside hbroken => ?_⟩
    · rw [(opportunity_frame .a _).1, hpay, malformedReply_apart, hans.apart, hans.cell (.inl hnew)]
    · have hlink := hans.quiet hnew (fun _ => hside) hbroken
      have hraise : (raiseNotice (nMalformed (cfgOf s f.src.toNat).role f.src.toNat f.payload.length) (sampleAnswered p q .a f s)).link =
          (raiseNotice (nMalformed (cfgOf s f.src.toNat).role f.src.toNat f.payload.length) s).link :=
        raiseNotice_link_congr _ (by rw [hans.apart]) (by rw [hans.apart]) (by rw [hans.ring, modSeq_frame, ringSearching_frame]) hlink
      rw [link_opportunity, hpay, malformedReply_link, hnode, hlink, cfgOf_answered hans, hraise]
      rfl
  · obtain ⟨hans, hexec, hseqo, hnone⟩ := sample_replies_split hin had hk hw (by cases q <;> simp) ho ht (newCount_counts hnew)
    have he := sampleReplied_serving hans hst hx ((recOf_congr (hans.cell (.inl hnew)) _).trans hm)
    obtain ⟨hapart, hrec⟩ := opportunity_serving hans he
    obtain ⟨k, -, hlive⟩ := opportunity_live hans had hx (.inr (.inr hst))
    have hj : joined s.ring = false := by rw [joined_eq, decide_eq_false hsplit]
    exact ⟨_, _, hexec, hnone, waitLapse_lapses t0 _, hapart, sampleReplied_goesOn hans, by rw [hlive]; rfl, by rw [hlive, hj]; rfl, by rw [hlive],
      by rw [hlive], by rw [hlive]; rfl, ((opportunity_frame q _).2.2 q).1 rfl, hseqo, _, hrec, sampledRec_evaluated s _ d m⟩

end Sys2Proof.Machine
end

section
/-! The state changes of the Connection Sequencer: what they leave unchanged, and the entries that are tested for a BAY cause. -/

namespace Sys2Proof.Machine

/-! ## What a state change of the sequencer leaves (R143) -/

/-- `t` is `s` but for the sequencer, the lines and the link. -/
def SeqrMoves (s t : State) : Prop := t = { s with seqr := t.seqr, lines := t.lines, link := t.link }

/-- The same where the limits may fall, and the slot with them. -/
def SeqrDrops (s t : State) : Prop :=
  t = { s with env := t.env, ring := { s.ring with slot := t.ring.slot }, seqr := t.seqr, lines := t.lines, link := t.link }

theorem SeqrMoves.refl (s : State) : SeqrMoves s s := rfl

theorem SeqrMoves.trans {s t u : State} (h1 : SeqrMoves s t) (h2 : SeqrMoves t u) : SeqrMoves s u := by
  unfold SeqrMoves at *
  rw [h2, h1]

theorem SeqrMoves.drops {s t : State} (h : SeqrMoves s t) : SeqrDrops s t := by
  unfold SeqrMoves SeqrDrops at *
  rw [h]

theorem SeqrDrops.trans {s t u : State} (h1 : SeqrDrops s t) (h2 : SeqrDrops t u) : SeqrDrops s u := by
  unfold SeqrDrops at *
  rw [h2, h1]

theorem raiseNotice_moves (n : Notice) (s : State) : SeqrMoves s (raiseNotice n s) := rfl
theorem onSeqr_moves (f : Sequencer → Sequencer) (s : State) : SeqrMoves s (s.onSeqr f) := rfl

theorem seqTo_moves {st : SeqState} {s : State} (h1 : s.seqr.state ≠ .connected) (h2 : st ≠ .connected) : SeqrMoves s (seqTo st s) := seqTo_frame h1 h2

theorem seqTo_drops (st : SeqState) (s : State) : SeqrDrops s (seqTo st s) := by
  have h := seqTo_ring st s
  refine State.eq_of_fields _ _ ?_ ?_ ?_ h ?_ ?_ ?_ ?_ ?_ ?_ ?_ ?_ ?_ ?_ ?_ ?_ <;> simp

/-- The state in which a trip with its record turns to TRIPPING. -/
def tripping (c : Cause) (cl : CauseClass) (k : Continuation) (s : State) : State :=
  (raiseNotice (nSeqTrip (cl == .grid) c s.seqr.reclose) s).onSeqr fun q => { q with trip := some ⟨c, cl, k⟩ }

theorem tripTo_eq (c : Cause) (cl : CauseClass) (k : Continuation) (s : State) : tripTo c cl k s = seqTo .tripping (tripping c cl k s) := rfl

theorem tripTo_moves {c : Cause} {cl : CauseClass} {k : Continuation} {s : State} (h : s.seqr.state ≠ .connected) : SeqrMoves s (tripTo c cl k s) := by
  have hu : SeqrMoves s (tripping c cl k s) := (raiseNotice_moves (nSeqTrip (cl == .grid) c s.seqr.reclose) s).trans (onSeqr_moves _ _)
  rw [tripTo_eq]
  exact hu.trans (seqTo_moves h (by decide))

theorem tripTo_drops (c : Cause) (cl : CauseClass) (k : Continuation) (s : State) : SeqrDrops s (tripTo c cl k s) := by
  have hu : SeqrMoves s (tripping c cl k s) := (raiseNotice_moves (nSeqTrip (cl == .grid) c s.seqr.reclose) s).trans (onSeqr_moves _ _)
  rw [tripTo_eq]
  exact hu.drops.trans (seqTo_drops _ _)

/-- A lockout moves the sequencer and hands the latch record for writing (R152). -/
theorem lockOut_frame {r : Lockout} {s : State} (h : s.seqr.state ≠ .connected) : lockOut r s =
    { s with seqr := (lockOut r s).seqr, lines := (lockOut r s).lines, link := (lockOut r s).link, mgmt := handLatch true r s.mgmt } := by
  have hseq : SeqrMoves s (seqTo .lockedOut (s.onSeqr fun q => { q with reason := r })) := (onSeqr_moves _ s).trans (seqTo_moves (by exact h) (by decide))
  simp only [lockOut]
  rw [hseq]
  rfl

/-! ## The entries that are tested for a BAY cause (R148) -/

theorem bayCondition_none {s : State} {st : SeqState} : bayCondition s st = none ↔
    s.fire.state = .quiet ∧ inputReads s .estop ≠ some true ∧ roleInService s .conv = true ∧ readbackFault s = false ∧ s.cool.bay ≠ .failed ∧
      ((st = .precharge ∨ st = .dcReady ∨ st = .recloseWait) → inputReads s .breakerAux ≠ some true) := by
  simp only [bayCondition]
  split_ifs <;> simp_all

theorem roleInService_congr {s t : State} (r : Role) (hm : t.mgmt.ringTables = s.mgmt.ringTables)
    (hl : ∀ a, (liveOf t a).state = (liveOf s a).state) : roleInService t r = roleInService s r := by
  simp only [roleInService, roleAddr, hm, hl]

/-- Composing the lines sets no readback fault (R163). -/
theorem refreshLines_readbackFault {s : State} (h : readbackFault s = false) : readbackFault (refreshLines s) = false := by
  by_cases hc : s.lines.control = true
  · have hstay (c : Contactor) : (readbackOf (refreshLines s).lines c).fault = false := by
      have hold : (readbackOf s.lines c).fault = false := by
        cases hb : (readbackOf s.lines c).fault
        · rfl
        · rw [readbackFault_of c hb] at h; exact h
      rw [refreshLines_readback c hc]
      simp only [readbackNext]
      split
      · exact hold
      · split
        · rfl
        · exact hold
    simp only [readbackFault, Bool.or_eq_false_iff]
    exact ⟨hstay .pos, hstay .neg⟩
  · have : refreshLines s = s := by simp [refreshLines, hc]
    rw [this]; exact h

theorem readbackFault_congr {s t : State} (hp : t.lines.pos = s.lines.pos) (hn : t.lines.neg = s.lines.neg) : readbackFault t = readbackFault s := by
  simp only [readbackFault, hp, hn]

theorem endForce_readback (o : Nat) (s : State) : (endForce o s).lines.pos = s.lines.pos ∧ (endForce o s).lines.neg = s.lines.neg := by
  unfold endForce
  split <;> simp

theorem endContactorForces_readbackFault (s : State) : readbackFault (endContactorForces s) = readbackFault s :=
  readbackFault_congr (by simp [endContactorForces, endForce_readback]) (by simp [endContactorForces, endForce_readback])

theorem strayStart_readbackFault {c : Cause} {s : State} (h : readbackFault s = false) : readbackFault (strayStart c s) = false :=
  refreshLines_readbackFault (s := raiseNotice (nSeqTrip false c s.seqr.reclose) (s.onSeqr fun q => { q with stray := some ⟨c, s.now⟩ })) h

theorem seqShift_lines (st : SeqState) (s : State) : (seqShift st s).lines = s.lines := by
  simp only [seqShift]
  split_ifs <;> simp

theorem seqTo_readbackFault {st : SeqState} {s : State} (h : readbackFault s = false) : readbackFault (seqTo st s) = false := by
  have hblind : readbackFault (blindEval (seqShift st s)) = false := by
    rw [← h]; exact readbackFault_congr (by rw [blindEval_lines, seqShift_lines]) (by rw [blindEval_lines, seqShift_lines])
  rw [seqTo_eq_shift]
  generalize blindEval (seqShift st s) = u at hblind ⊢
  have hcomposed : readbackFault (refreshLines (if s.seqr.state = .open_ ∧ st ≠ .open_ then endContactorForces u else u)) = false := by
    apply refreshLines_readbackFault
    split_ifs
    · rw [endContactorForces_readbackFault]; exact hblind
    · exact hblind
  dsimp only
  generalize refreshLines (if s.seqr.state = .open_ ∧ st ≠ .open_ then endContactorForces u else u) = v at hcomposed ⊢
  split_ifs
  · exact strayStart_readbackFault hcomposed
  · exact hcomposed

/-- Where no BAY cause holds, none holds after the entry either. -/
theorem bayCondition_seqTo {st st' : SeqState} {s : State} (h : bayCondition s st' = none) : bayCondition (seqTo st s) st' = none := by
  rw [bayCondition_none] at h ⊢
  have hreads (i : Input) : inputReads (seqTo st s) i = inputReads s i := by
    simp only [inputReads, seqTo_inputs]; rw [seqTo_drops st s]
  have hrole : roleInService (seqTo st s) .conv = roleInService s .conv := by
    apply roleInService_congr
    · rw [seqTo_drops st s]
    · intro a; rw [seqTo_drops st s]; rfl
  obtain ⟨hfire, hestop, hconv, hreadback, hbay, hbreaker⟩ := h
  refine ⟨by rw [seqTo_drops st s]; exact hfire, by rw [hreads]; exact hestop, hrole.trans hconv, seqTo_readbackFault hreadback,
    by rw [seqTo_drops st s]; exact hbay, fun h => by rw [hreads]; exact hbreaker h⟩

/-- An entry that finds no BAY cause is the state change alone. -/
theorem seqEnterTested_passes {st : SeqState} {s : State} (h : bayCondition s st = none) : seqEnterTested st s = seqTo st s := by
  simp only [seqEnterTested, bayCondition_seqTo h]

end Sys2Proof.Machine
end

section
/-! O19: the awaited reply of a METER, a COOLANT and a CONVERTER node. -/

namespace Sys2Proof.Machine

/-! ## The state in which a sample is handed to its owner (R11, R18) -/

/-- The node of a well-formed reply, its malformed mark cleared, and IN_SERVICE from its first reply on. -/
def replying (a : Nat) (s : State) : State :=
  let u := s.onRing (setLive a fun l => { l with malformed := false })
  if (liveOf s a).state = .absent ∨ (liveOf s a).state = .silent then nodeTo a .inService id u else u

theorem wellFormedReply_eq (a : Nat) (x : Payload) (f : Frame) (s : State) : wellFormedReply a x f s = offer a x f (deliver a x (replying a s)) := rfl

theorem sampleReplied_eq {p q side : RingPort} {f : Frame} {x : Payload} {s : State} (h : SampleAnswered p q side f s (sampleAnswered p q side f s))
    (hx : payloadOf (cfgOf s f.src.toNat) f.payload = some x) :
    sampleReplied p q side f s = offer f.src.toNat x f (deliver f.src.toNat x (replying f.src.toNat (sampleAnswered p q side f s))) := by
  rw [sampleReplied, replyPayload_wellFormed (by rw [cfgOf_answered h]; exact hx), wellFormedReply_eq]

/-- What every first or later reply keeps, before its sample is handed over. -/
theorem replying_kept (a : Nat) (s : State) : (replying a s).mgmt.ringTables = s.mgmt.ringTables ∧ (replying a s).now = s.now ∧
    (replying a s).fire.state = s.fire.state ∧ (replying a s).loop = s.loop ∧ (replying a s).store = s.store ∧ (replying a s).pending = s.pending := by
  simp only [replying]
  split_ifs
  · exact ⟨(nodeTo_frame _ _ _ _).2.2, nodeTo_now _ _ _ _, nodeTo_fire_state _ _ _ _, nodeTo_loop _ _ _ _, nodeTo_store _ _ _ _, nodeTo_pending _ _ _ _⟩
  · exact ⟨rfl, rfl, rfl, rfl, rfl, rfl⟩

/-- `y` is `s` but for the ring and the link, and no node's state or entry has changed. -/
structure Serving (s y : State) : Prop where
  apart : y = { s with ring := y.ring, link := y.link }
  states : ∀ c, (liveOf y c).state = (liveOf s c).state

theorem replying_serves {p q side : RingPort} {f : Frame} {s : State} (h : SampleAnswered p q side f s (sampleAnswered p q side f s))
    (hst : (liveOf s f.src.toNat).state = .inService) (hrole : (cfgOf s f.src.toNat).role ≠ .mod) (had : admitted s f) :
    Serving s (replying f.src.toNat (sampleAnswered p q side f s)) := by
  obtain ⟨k, -, hnode⟩ := h.node
  have hserving : (liveOf (sampleAnswered p q side f s) f.src.toNat).state = .inService := by rw [hnode]; exact hst
  have he : replying f.src.toNat (sampleAnswered p q side f s) =
      (sampleAnswered p q side f s).onRing (setLive f.src.toNat fun l => { l with malformed := false }) := by simp only [replying, hserving]; rfl
  refine ⟨?_, fun c => ?_⟩
  · have hcell : (sampleAnswered p q side f s).cell = s.cell := h.cell (.inr hrole)
    rw [he, h.apart, hcell]; rfl
  · have hentry := hasEntry_answered h (admitted_entry had)
    rw [he, liveOf, State.onRing_ring]
    by_cases hc : c = f.src.toNat
    · rw [hc, liveIn_setLive _ _ _ hentry.1 hentry.2, hst]; exact hserving
    · rw [liveIn_setLive_ne _ _ _ _ hc]; exact congrArg NodeLive.state (h.others c hc)

theorem Serving.role {s y : State} (h : Serving s y) (r : Role) : roleInService y r = roleInService s r :=
  roleInService_congr r (by rw [h.apart]) h.states

/-! ## The METER's sample (R137, R139 to R141) -/

theorem stageViolated_iff (g : GridCfg) (m : MeterRec) (i : Nat) : stageViolated g m i = true ↔ violates g m i := by
  rcases i with _ | _ | _ | _ | _ | _ | i <;> simp [stageViolated, violates]

/-- The stage timers after a sample. -/
def stageTimers (s : State) (m : MeterRec) : List (Option Nat) :=
  (List.range 6).map fun i => stageNext (stageViolated s.mgmt.ringTables.grid m i) (s.seqr.stages.getD i none) s.now

theorem stageTimers_at {s : State} {m : MeterRec} {i : Nat} (hi : i < 6) :
    (violates s.mgmt.ringTables.grid m i → (stageTimers s m).getD i none = some ((s.seqr.stages.getD i none).getD s.now)) ∧
    (¬violates s.mgmt.ringTables.grid m i → (stageTimers s m).getD i none = none) := by
  have hget : (stageTimers s m).getD i none = stageNext (stageViolated s.mgmt.ringTables.grid m i) (s.seqr.stages.getD i none) s.now := by
    simp [stageTimers, hi]
  rw [hget]
  refine ⟨fun hv => ?_, fun hv => ?_⟩
  · rw [(stageViolated_iff _ _ _).mpr hv]
    cases s.seqr.stages.getD i none <;> rfl
  · have hno : stageViolated s.mgmt.ringTables.grid m i = false := Bool.eq_false_iff.mpr (mt (stageViolated_iff _ _ _).mp hv)
    rw [hno]; rfl

theorem stageTrips_iff {s : State} {m : MeterRec} {i : Nat} (hi : i < 6) :
    stageTrips ((stageTimers s m).getD i none) (stageTime s.mgmt.ringTables.grid i) s.now = true ↔ stageTripped s m i := by
  obtain ⟨hruns, hidle⟩ := stageTimers_at (s := s) (m := m) hi
  rw [stageTripped]
  by_cases hv : violates s.mgmt.ringTables.grid m i
  · simp only [hruns hv, stageTrips, ranOpt, ran, Config.ms, hv, true_and, decide_eq_true_eq, Nat.mul_comm]
  · simp only [hidle hv, stageTrips, ranOpt, hv, false_and, Bool.false_eq_true]

/-- The first stage to trip, in the order in which one of several is recorded. -/
def firstTrip (s : State) (m : MeterRec) : Option Nat :=
  stageOrder.find? fun i => stageTrips ((stageTimers s m).getD i none) (stageTime s.mgmt.ringTables.grid i) s.now

theorem stageOrder_eq : stageOrder = tripOrder.map (·.1) := rfl

theorem stageOrder_lt {i : Nat} (h : i ∈ stageOrder) : i < 6 := by
  simp only [stageOrder, List.mem_cons, List.not_mem_nil, or_false] at h
  omega

theorem firstTrip_none {s : State} {m : MeterRec} (h : ∀ i, ¬stageTripped s m i) : firstTrip s m = none := by
  rw [firstTrip, List.find?_eq_none]
  intro i hi
  rw [stageTrips_iff (stageOrder_lt hi)]
  exact h i

theorem firstTrip_some {s : State} {m : MeterRec} {k : Nat} {c : Nat × Cause} (hk : tripOrder[k]? = some c) (ht : stageTripped s m c.1)
    (hbefore : ∀ (j : Nat) (b : Nat × Cause), j < k → tripOrder[j]? = some b → ¬stageTripped s m b.1) :
    firstTrip s m = some c.1 ∧ stageCause c.1 = c.2 := by
  obtain ⟨hlen, hget⟩ := List.getElem?_eq_some_iff.mp hk
  have hmem : c ∈ tripOrder := List.mem_of_getElem? hk
  refine ⟨?_, ?_⟩
  · rw [firstTrip, stageOrder_eq, List.find?_map, Option.map_eq_some_iff]
    refine ⟨c, List.find?_eq_some_iff_getElem.mpr ⟨?_, k, hlen, hget, fun j hj => ?_⟩, rfl⟩
    · exact (stageTrips_iff (stageOrder_lt (List.mem_map_of_mem hmem))).mpr ht
    · have hj' : tripOrder[j]? = some tripOrder[j] := List.getElem?_eq_getElem (by omega)
      have := hbefore j _ hj hj'
      have hjm : tripOrder[j] ∈ tripOrder := List.getElem_mem _
      rw [← stageTrips_iff (stageOrder_lt (List.mem_map_of_mem hjm))] at this
      simpa using this
  · simp only [tripOrder, List.mem_cons, List.not_mem_nil, or_false] at hmem
    obtain rfl | rfl | rfl | rfl | rfl | rfl := hmem <;> rfl

theorem healthy_iff (g : GridCfg) (m : MeterRec) : healthy g m = true ↔ healthyRecord g m := by
  simp only [healthy, healthyRecord, decide_eq_true_eq]
  constructor
  · rintro ⟨h1, h2, h3, h4, h5, h6, h7, h8⟩
    exact ⟨fun r hr => by obtain rfl | rfl | rfl := hr <;> exact ⟨by assumption, by assumption⟩, h7, h8⟩
  · rintro ⟨h, h7, h8⟩
    obtain ⟨⟨h1, h2⟩, ⟨h3, h4⟩, h5, h6⟩ := And.intro (h _ (.inl rfl)) (And.intro (h _ (.inr (.inl rfl))) (h _ (.inr (.inr rfl))))
    exact ⟨h1, h2, h3, h4, h5, h6, h7, h8⟩

/-- The meter record replaced. -/
def metered (d : MeterSample) (s : State) : State := s.onSeqr fun q => { q with meter := some (meterOf s d) }

/-- A sample whose source stays the one in use. -/
theorem meterSample_sameSource {d : MeterSample} {s : State} (h : s.seqr.auxBackup = d.backup) : meterSample d s =
    healthySample (meterOf s d) (stagesSample (meterOf s d) (metered d s)) := by
  have hkept : (healthySample (meterOf s d) (stagesSample (meterOf s d) (metered d s))).seqr.auxBackup =
      d.backup := by
    have hstages := (stagesSample_meter (meterOf s d) (metered d s)).2
    rw [← h]
    unfold healthySample
    split
    · exact hstages
    · exact hstages
  exact (if_pos hkept : auxTo d.backup _ = _)

/-- The record that a sample of the meter takes up (R137), with what it leaves of the rest. -/
theorem meterSample_frame {d : MeterSample} {s : State} (h : s.seqr.auxBackup = d.backup) :
    (meterSample d s).cool = s.cool ∧ (meterSample d s).mgmt = s.mgmt := by
  rw [meterSample_sameSource h]
  simp [metered]

/-- The stage timers and the ROCOF run as a sample leaves them, before a trip is taken. -/
def stagesWatched (m : MeterRec) (s : State) : State := s.onSeqr fun q => { q with stages := stageTimers s m, rocofRun := rocofAfter s m }

/-- In CONNECTED, not blind, the first stage that trips is taken, else ROCOF, else nothing. -/
theorem stagesSample_watching {m : MeterRec} {s : State} (hst : s.seqr.state = .connected) (hb : s.seqr.blind = false) (hat : m.at_ = s.now) :
    (∀ i, firstTrip s m = some i → stagesSample m s = takeGrid (stageCause i) (stagesWatched m s)) ∧
    (firstTrip s m = none → rocofTripped s m → stagesSample m s = takeGrid .rocof (stagesWatched m s)) ∧
    (firstTrip s m = none → ¬rocofTripped s m → stagesSample m s = stagesWatched m s) := by
  have he : stagesSample m s = match firstTrip s m with
      | some i => takeGrid (stageCause i) (stagesWatched m s)
      | none => if 0 < rocofAfter s m ∧ s.mgmt.ringTables.grid.rocofCount ≤ rocofAfter s m then takeGrid .rocof (stagesWatched m s)
        else stagesWatched m s := by
    simp only [stagesSample, hst, hb, and_self, if_true, hat]; rfl
  refine ⟨fun i hi => ?_, fun hn hr => ?_, fun hn hr => ?_⟩
  · rw [he, hi]
  · rw [he, hn]; exact if_pos hr
  · rw [he, hn]; exact if_neg hr

theorem stagesSample_resting {m : MeterRec} {s : State} (h : s.seqr.state ≠ .connected) : stagesSample m s = s := by
  simp only [stagesSample, h, false_and, if_false]

/-- A grid trip from CONNECTED closes the limits (R147). -/
theorem takeGrid_connected {c : Cause} {s : State} (h : s.seqr.state = .connected) : (takeGrid c s).seqr.state = .tripping ∧
    (takeGrid c s).seqr.trip = some ⟨c, .grid, .recloseWait⟩ ∧ (takeGrid c s).env.chg = 0 ∧ (takeGrid c s).env.dis = 0 := by
  have he : takeGrid c s = seqTo .tripping (tripping c .grid .recloseWait s) := if_pos (.inl h)
  rw [he]
  obtain ⟨hchg, hdis⟩ := seqTo_closes .tripping (tripping c .grid .recloseWait s) h (by decide)
  exact ⟨seqTo_state _ _, seqTo_trip _ _, hchg, hdis⟩

theorem healthySample_resting {m : MeterRec} {s : State} (h : s.seqr.state ≠ .dcReady) (h' : s.seqr.state ≠ .recloseWait) : healthySample m s = s := by
  have hno : healthyKept s.seqr.state = false := by
    simp only [healthyKept, Bool.or_eq_false_iff, beq_eq_false_iff_ne]; exact ⟨h, h'⟩
  simp only [healthySample, hno]; rfl

/-- In DC_READY and RECLOSE_WAIT a sample starts, keeps or stops the healthy clock (R141). -/
theorem healthySample_waiting {m : MeterRec} {s : State} (h : s.seqr.state = .dcReady ∨ s.seqr.state = .recloseWait) (hat : m.at_ = s.now) :
    (healthySample m s).seqr = { s.seqr with healthySince := (healthySample m s).seqr.healthySince } ∧
    (healthyRecord s.mgmt.ringTables.grid m → (healthySample m s).seqr.healthySince = some (s.seqr.healthySince.getD s.now)) ∧
    (¬healthyRecord s.mgmt.ringTables.grid m → (healthySample m s).seqr.healthySince = none) := by
  have hyes : healthyKept s.seqr.state = true := by obtain h | h := h <;> rw [h] <;> rfl
  have he : healthySample m s = s.onSeqr fun q => { q with healthySince := healthyNext s.mgmt.ringTables.grid m q.healthySince } := by
    simp only [healthySample, hyes, if_true]
  rw [he]
  refine ⟨rfl, fun hh => ?_, fun hh => ?_⟩
  · simp only [State.onSeqr_seqr, healthyNext, (healthy_iff _ _).mpr hh, if_true, hat]
    cases s.seqr.healthySince <;> rfl
  · have hno : healthy s.mgmt.ringTables.grid m = false := Bool.eq_false_iff.mpr (mt (healthy_iff _ _).mp hh)
    simp only [State.onSeqr_seqr, healthyNext, hno]; rfl

/-- A METER sample in CONNECTED while metering is not blind (R140). -/
theorem meterSample_connected {d : MeterSample} {s : State} (hsrc : s.seqr.auxBackup = d.backup) (hst : s.seqr.state = .connected)
    (hb : s.seqr.blind = false) :
    let m := meterOf s d
    let trips := fun (c : Cause) => (meterSample d s).seqr.state = .tripping ∧ (meterSample d s).seqr.trip = some ⟨c, .grid, .recloseWait⟩ ∧
      (meterSample d s).env.chg = 0 ∧ (meterSample d s).env.dis = 0
    (firstTrip s m = none → ¬rocofTripped s m →
      (meterSample d s).seqr = { s.seqr with meter := some m, stages := stageTimers s m, rocofRun := rocofAfter s m }) ∧
    (∀ i, firstTrip s m = some i → trips (stageCause i)) ∧ (firstTrip s m = none → rocofTripped s m → trips .rocof) := by
  intro m trips
  set u := metered d s
  obtain ⟨hfirst, hrocof, hruns⟩ := stagesSample_watching (m := m) (s := u) hst hb rfl
  have htrips (c : Cause) (he : stagesSample m u = takeGrid c (stagesWatched m u)) : trips c := by
    have htaken := takeGrid_connected (c := c) (s := stagesWatched m u) hst
    have hmeter : meterSample d s = takeGrid c (stagesWatched m u) := by
      rw [meterSample_sameSource hsrc, he, healthySample_resting] <;> (rw [htaken.1]; decide)
    simp only [trips, hmeter]
    exact htaken
  refine ⟨fun hn hr => ?_, fun i hi => htrips _ (hfirst i hi), fun hn hr => htrips _ (hrocof hn hr)⟩
  rw [meterSample_sameSource hsrc, hruns hn hr, healthySample_resting]
  · rfl
  · exact hst ▸ (by decide)
  · exact hst ▸ (by decide)

/-- The same in any other state: only the healthy clock of DC_READY and RECLOSE_WAIT looks at it (R141). -/
theorem meterSample_unconnected {d : MeterSample} {s : State} (hsrc : s.seqr.auxBackup = d.backup) (hst : s.seqr.state ≠ .connected) :
    meterSample d s = healthySample (meterOf s d) (metered d s) := by
  rw [meterSample_sameSource hsrc, stagesSample_resting (s := metered d s) hst]

/-! ## The COOLANT's sample (R84, R96) -/

theorem zoneLive_modZone (s : State) (z k : Nat) (f : ZoneLive → ZoneLive) (hk : k < s.cool.zones.length) :
    zoneLive (s.onCool (modZone z f)) k = if k = z then f (zoneLive s k) else zoneLive s k := by
  by_cases h : k = z
  · subst h; simp [zoneLive, modZone, hk]
  · simp [zoneLive, modZone, h, show ¬z = k from fun e => h e.symm]

theorem zoneLive_default {s : State} {k : Nat} (h : s.cool.zones.length ≤ k) : zoneLive s k = freshZone (defaultZone k) := by
  simp [zoneLive, List.getElem?_eq_none h]

/-- An evaluation of a zone changes the state of its record alone. -/
theorem zoneLive_evaluated (z : Nat) (s : State) (k : Nat) :
    zoneLive (zoneEval z s) k = { zoneLive s k with state := (zoneLive (zoneEval z s) k).state } := by
  have he : zoneLive (zoneEval z s) k = zoneLive (s.onCool (modZone z fun x => { x with state := zoneStateOf s z })) k := by
    simp [zoneLive, zoneEval]
  rw [he]
  by_cases hk : k < s.cool.zones.length
  · rw [zoneLive_modZone _ _ _ _ hk]
    split <;> rfl
  · rw [zoneLive_default (by simpa [modZone] using hk), zoneLive_default (by simpa using hk)]

/-- What follows a sample leaves each zone's record but for its state. -/
theorem zoneLive_settled (old : State) (also : Nat → Bool) (s : State) (k : Nat) :
    zoneLive (coolSettle old also s) k = { zoneLive s k with state := (zoneLive (coolSettle old also s) k).state } := by
  have hfold (l : List Nat) (g : Nat → Bool) (u : State) : zoneLive (l.foldl (fun x z => if g z then zoneEval z x else x) u) k =
      { zoneLive u k with state := (zoneLive (l.foldl (fun x z => if g z then zoneEval z x else x) u) k).state } := by
    induction l generalizing u with
    | nil => rfl
    | cons z l ih =>
      rw [List.foldl_cons, ih]
      by_cases hg : g z = true
      · rw [if_pos hg, zoneLive_evaluated z u k]
      · rw [if_neg hg]
  have hbay (u : State) : zoneLive (refreshLines (bayEval u)) k = zoneLive u k := by simp only [zoneLive, refreshLines_cool, bayEval_cool]
  have hpumps : zoneLive (followPumps s) k = zoneLive s k := rfl
  have hzones := hfold (List.range 4) (fun z => also z || zoneTouched old (followPumps s) z) (followPumps s)
  rw [hpumps] at hzones
  simp only [coolSettle, hbay]
  exact hzones

/-- The readings of a zone replaced. -/
def coolRead (z : Nat) (d : CoolantSample) (s : State) : State :=
  s.onCool (modZone z fun x => { x with
    inlet := coolantTemp d.inlet, outlet := coolantTemp d.outlet, flow := some d.flow, pressure := some d.pressure, status := some d.status })

/-- A sample of a zone's coolant node in effect. -/
theorem coolantSample_zone {a z : Nat} {d : CoolantSample} {s : State} (hz : z < 4) (hn : (zoneCfg s.mgmt.ringTables.cooling z).node = some a)
    (hrole : (cfgOf s a).role = .cool) (hzone : (cfgOf s a).zone = z) :
    coolantSample a d s = coolSettle s (fun k => k == z) (flowTest z d.flow (coolRead z d s)) := by
  have honly (k : Nat) (h : effNode s k = some a) : k = z := by
    simp only [effNode] at h
    split at h
    · cases h
    · split_ifs at h with hc
      obtain rfl := Option.some.inj h
      rw [← hzone, hc.2]
  have hfind : ((List.range 4).find? fun k => effNode s k == some a) = some z := by
    rw [List.find?_range_eq_some]
    refine ⟨?_, List.mem_range.mpr hz, fun k hk => ?_⟩
    · simp [effNode, hn, hrole, hzone]
    · have hne : effNode s k ≠ some a := fun e => absurd (honly k e) (by omega)
      simpa using hne
  simp only [coolantSample, hfind]; rfl

theorem flowTest_zones (z flow : Nat) (s : State) : (flowTest z flow s).cool.zones = s.cool.zones := by
  unfold flowTest
  split <;> rfl

/-- The readings after a COOLANT sample. -/
theorem coolantSample_readings {a z : Nat} {d : CoolantSample} {s : State} (hz : z < 4) (hl : z < s.cool.zones.length)
    (hn : (zoneCfg s.mgmt.ringTables.cooling z).node = some a) (hrole : (cfgOf s a).role = .cool) (hzone : (cfgOf s a).zone = z) (k : Nat) :
    zoneLive (coolantSample a d s) k = if k = z then
      { zoneLive s k with
        inlet := coolantTemp d.inlet, outlet := coolantTemp d.outlet, flow := some d.flow, pressure := some d.pressure, status := some d.status,
        state := (zoneLive (coolantSample a d s) k).state }
      else { zoneLive s k with state := (zoneLive (coolantSample a d s) k).state } := by
  have he := coolantSample_zone (d := d) hz hn hrole hzone
  have hread : zoneLive (flowTest z d.flow (coolRead z d s)) k = zoneLive (coolRead z d s) k := by simp only [zoneLive, flowTest_zones]
  rw [he, zoneLive_settled, hread]
  by_cases hk : k < s.cool.zones.length
  · rw [coolRead, zoneLive_modZone _ _ _ _ hk]
    split <;> rfl
  · have hkz : k ≠ z := by omega
    have hkeep : zoneLive (coolRead z d s) k = zoneLive s k := by
      rw [coolRead, zoneLive_default (by simpa [modZone] using hk), zoneLive_default (by simpa using hk)]
    rw [if_neg hkz, hkeep]

theorem pumpZone_pump {c : CoolingCfg} {k z : Nat} (h : pumpZone c k = some z) : (zoneCfg c z).pump = some k := by
  simpa using List.find?_some h

/-- The flow test of a supervised pump that runs at 300 or more (R96). -/
theorem flowTest_pump {z k flow : Nat} {s : State} (hpump : (zoneCfg s.mgmt.ringTables.cooling z).pump = some k) (hsup : supervised s k = true)
    (hrun : (pumpLive s k).state = .running) (hduty : 300 ≤ (outLive s k).applied) (hkl : k < s.cool.pumps.length) :
    (pumpLive (flowTest z flow s) k).state = .running ∧ (pumpLive (flowTest z flow s) k).flowLoss =
      if flow < minFlow s.mgmt.ringTables.cooling k then some ((pumpLive s k).flowLoss.getD s.now) else none := by
  simp only [flowTest, hpump, hsup, hrun, hduty, decide_true, beq_self_eq_true, Bool.and_self, Bool.true_and, decide_eq_true_eq]
  rw [pumpLive_modPump _ _ _ _ hkl, if_pos rfl]
  refine ⟨hrun, ?_⟩
  cases (pumpLive s k).flowLoss <;> rfl

theorem flowTest_pumps (z flow : Nat) (s : State) : (flowTest z flow s).cool.pumps.length = s.cool.pumps.length := by
  unfold flowTest
  split
  · rfl
  · simp [modPump]

/-- A pump that runs under supervision keeps its flow-loss timer (R96). -/
theorem pumpFollow_flowLoss {applied now : Nat} {x : PumpLive} (hrun : x.state = .running) (hduty : 300 ≤ applied) :
    (pumpFollow true applied now x).flowLoss = x.flowLoss := by
  have hpos : 0 < applied := by omega
  simp only [pumpFollow, hrun, hpos, hduty]
  rfl

/-- The flow-loss timer of a running pump after a COOLANT sample of its zone (R96). -/
theorem coolantSample_flowLoss {a z k : Nat} {d : CoolantSample} {s : State} (hz : z < 4)
    (hn : (zoneCfg s.mgmt.ringTables.cooling z).node = some a) (hrole : (cfgOf s a).role = .cool) (hzone : (cfgOf s a).zone = z)
    (hst : (liveOf s a).state = .inService) (hk : pumpZone s.mgmt.ringTables.cooling k = some z) (hk4 : k < 4) (hkl : k < s.cool.pumps.length)
    (hrun : (pumpLive s k).state = .running) (hduty : 300 ≤ (outLive s k).applied) :
    (pumpLive (coolantSample a d s) k).flowLoss =
      if d.flow < minFlow s.mgmt.ringTables.cooling k then some ((pumpLive s k).flowLoss.getD s.now) else none := by
  have hsup : supervised s k = true := by
    have heff : effNode s z = some a := by simp only [effNode, hn, hrole, hzone, and_self, if_true]
    simp only [supervised, hk, effInService, heff, hst]; rfl
  have hframe := flowTest_cool z d.flow (coolRead z d s)
  obtain ⟨hrun', hloss⟩ := flowTest_pump (flow := d.flow) (s := coolRead z d s) (pumpZone_pump hk) hsup hrun hduty hkl
  have hsup' : supervised (flowTest z d.flow (coolRead z d s)) k = true := by
    rw [supervised_congr (s := s) (by rw [hframe]; rfl) (by rw [hframe]; rfl)]; exact hsup
  have hout : outLive (flowTest z d.flow (coolRead z d s)) k = outLive s k := by
    have hfollow : (flowTest z d.flow (coolRead z d s)).cool.outs = (coolRead z d s).cool.outs := by unfold flowTest; split <;> rfl
    simp only [outLive, hfollow]; rfl
  rw [coolantSample_zone hz hn hrole hzone, pumpLive_coolSettle _ _ _ hk4 (by rw [flowTest_pumps]; exact hkl), hsup', hout,
    pumpFollow_flowLoss hrun' hduty, hloss]
  rfl

/-- A COOLANT sample leaves what belongs to none of its readers. -/
theorem coolantSample_apart (a : Nat) (d : CoolantSample) (s : State) : (coolantSample a d s).fire = s.fire ∧ (coolantSample a d s).cell = s.cell ∧
    (coolantSample a d s).loop = s.loop ∧ (coolantSample a d s).store = s.store ∧ (coolantSample a d s).now = s.now ∧
    (coolantSample a d s).pending = s.pending := by
  simp only [coolantSample]
  split
  · exact ⟨rfl, rfl, rfl, rfl, rfl, rfl⟩
  · rw [flowTest_cool]; simp

/-! ## The CONVERTER's sample (R138, R145, R151) -/

theorem seqTo_conv (st : SeqState) (s : State) : (seqTo st s).seqr.conv = s.seqr.conv := by rw [seqTo_seqr]; rfl
theorem tripTo_conv (c : Cause) (cl : CauseClass) (k : Continuation) (s : State) : (tripTo c cl k s).seqr.conv = s.seqr.conv := seqTo_conv _ _
theorem lockOut_conv (r : Lockout) (s : State) : (lockOut r s).seqr.conv = s.seqr.conv := seqTo_conv .lockedOut (s.onSeqr fun q => { q with reason := r })

theorem takeBay_conv (c : Cause) (s : State) : (takeBay c s).seqr.conv = s.seqr.conv := by
  unfold takeBay
  split
  · exact seqTo_conv _ _
  · exact seqTo_conv _ _
  · exact seqTo_conv _ _
  · exact tripTo_conv _ _ _ _
  · exact tripTo_conv _ _ _ _
  · split <;> rfl
  · split
    · exact lockOut_conv _ _
    · rfl
  · rfl
  · rfl

theorem seqEnterTested_conv (st : SeqState) (s : State) : (seqEnterTested st s).seqr.conv = s.seqr.conv := by
  simp only [seqEnterTested]
  split
  · rw [takeBay_conv, seqTo_conv]
  · exact seqTo_conv _ _

theorem openingTest_conv (s : State) : (openingTest s).seqr.conv = s.seqr.conv := by
  unfold openingTest
  split
  · split
    · exact lockOut_conv _ _
    · split
      · exact lockOut_conv _ _
      · exact seqTo_conv _ _
  · rfl

/-- The converter record of a sample (R138). -/
def convRecord (d : ConverterSample) (s : State) : State := s.onSeqr fun q => { q with conv := some ⟨d.bus, d.string, d.p, d.q, d.state, d.flags, s.now⟩ }

/-- The discharge part of the weld check as a sample leaves it (R151). -/
def dischargedBy (d : ConverterSample) (s : State) : State :=
  (convRecord d s).onSeqr fun q => { q with discharged := q.discharged || decide (1000 * d.bus < 100 * d.string) }

theorem converterSample_cases (d : ConverterSample) (s : State) :
    (s.seqr.state = .precharge → 0 < d.string ∧ 950 * d.string ≤ 1000 * d.bus → converterSample d s = seqEnterTested .dcReady (convRecord d s)) ∧
    (s.seqr.state = .precharge → ¬(0 < d.string ∧ 950 * d.string ≤ 1000 * d.bus) → converterSample d s = convRecord d s) ∧
    (s.seqr.state = .opening → converterSample d s = openingTest (dischargedBy d s)) ∧
    (s.seqr.state ≠ .precharge → s.seqr.state ≠ .opening → converterSample d s = convRecord d s) := by
  have he : converterSample d s = if s.seqr.state = .precharge then
      if 0 < d.string ∧ 950 * d.string ≤ 1000 * d.bus then seqEnterTested .dcReady (convRecord d s) else convRecord d s
    else if s.seqr.state = .opening then openingTest (dischargedBy d s) else convRecord d s := rfl
  refine ⟨fun h1 h2 => ?_, fun h1 h2 => ?_, fun h1 => ?_, fun h1 h2 => ?_⟩
  · rw [he, if_pos h1, if_pos h2]
  · rw [he, if_pos h1, if_neg h2]
  · rw [he, if_neg (by rw [h1]; decide), if_pos h1]
  · rw [he, if_neg h1, if_neg h2]

theorem converterSample_conv (d : ConverterSample) (s : State) :
    (converterSample d s).seqr.conv = some ⟨d.bus, d.string, d.p, d.q, d.state, d.flags, s.now⟩ := by
  simp only [converterSample]
  split_ifs
  · rw [seqEnterTested_conv]; rfl
  · rfl
  · rw [openingTest_conv]; rfl
  · rfl

/-- What a CONVERTER sample leaves of what belongs to none of its readers. -/
theorem converterSample_apart (d : ConverterSample) (s : State) : (converterSample d s).fire = s.fire ∧ (converterSample d s).cell = s.cell ∧
    (converterSample d s).loop = s.loop ∧ (converterSample d s).store = s.store ∧ (converterSample d s).now = s.now ∧
    (converterSample d s).pending = s.pending := by
  simp only [converterSample]
  split_ifs <;> simp

/-- The gate takes the converter's state, and looks again at the setpoint where the converter is ready anew (R76). -/
theorem converterState_frame (c : ConvState) (s : State) : converterState c s =
    { s with ring := { s.ring with slot := (converterState c s).ring.slot }, gate := (converterState c s).gate, link := (converterState c s).link } := by
  simp only [converterState]
  split_ifs
  · rfl
  · rw [reissueCheck_frame]; rfl
  · rfl

theorem converterState_conv (c : ConvState) (s : State) : (converterState c s).gate.conv = some c := by
  simp only [converterState]
  split_ifs with h
  · exact h
  · rw [reissueCheck_frame]; rfl
  · rfl

theorem openingEnds_congr {s s' t t' : State} (hs : s'.seqr.pendingLockout = s.seqr.pendingLockout) (hf : s'.fire = s.fire) (hm : s'.mgmt = s.mgmt)
    (hq : t'.seqr = t.seqr) (hm' : t'.mgmt = t.mgmt) (h : openingEnds s t) : openingEnds s' t' := by
  simpa only [openingEnds, hs, hf, hm, hq, hm'] using h

theorem dischargedBy_discharged (d : ConverterSample) (s : State) :
    (dischargedBy d s).seqr.discharged = true ↔ s.seqr.discharged = true ∨ 1000 * d.bus < 100 * d.string := by
  simp [dischargedBy, convRecord]

theorem bayCondition_serving {s y : State} (h : Serving s y) {st : SeqState} (hs : bayCondition s st = none) (d : ConverterSample) :
    bayCondition (convRecord d y) st = none := by
  obtain ⟨hfire, hestop, hconv, hreadback, hbay, hbreaker⟩ := bayCondition_none.mp hs
  have hrole : roleInService (convRecord d y) .conv = true := (h.role .conv).trans hconv
  refine bayCondition_none.mpr ⟨?_, ?_, hrole, ?_, ?_, ?_⟩ <;> (rw [h.apart]; assumption)

/-! ## O19 -/

/-- What is offered to the link, and the opportunity after it, leave all but the ring and the link. -/
theorem opportunity_offer (side : RingPort) (a : Nat) (x : Payload) (f : Frame) (s : State) : opportunity side (offer a x f s) =
    { s with ring := (opportunity side (offer a x f s)).ring, link := (opportunity side (offer a x f s)).link } := by
  rw [(opportunity_frame side _).1, offer_frame]

/-- A well-formed reply in a joined ring: the node, the sequence and the state `y` in which the sample `x` is handed to its owner. -/
theorem sample_delivers {p q : RingPort} {t0 since : Nat} {second : Bool} {f : Frame} {x : Payload} {s : State} (h : awaits p q t0 since second f s)
    (hst : (liveOf s f.src.toNat).state = .absent ∨ (liveOf s f.src.toNat).state = .silent ∨ (liveOf s f.src.toNat).state = .inService)
    (hne : (liveOf s f.src.toNat).lastCount ≠ some f.seq.toNat) (hx : payloadOf (cfgOf s f.src.toNat) f.payload = some x)
    (hrole : (cfgOf s f.src.toNat).role ≠ .mod) :
    ∃ t y : State, exec (.sampleReceived p t0 f) s = .next t ∧
      t = { deliver f.src.toNat x y with ring := t.ring, link := t.link } ∧ t.ring.nodes = (deliver f.src.toNat x y).ring.nodes ∧
      (liveOf t f.src.toNat).state = .inService ∧ (liveOf t f.src.toNat).missed = 0 ∧ (liveOf t f.src.toNat).lastCount = some f.seq.toNat ∧
      goesOn .a f.src.toNat (modSeq .a (fun x => { x with phase := .done }) (ringSearching p s.ring)) s t ∧
      y = replying f.src.toNat (sampleAnswered p q .a f s) ∧
      (y.mgmt.ringTables = s.mgmt.ringTables ∧ y.now = s.now ∧ y.fire.state = s.fire.state ∧ y.loop = s.loop ∧ y.store = s.store ∧
        y.pending = s.pending) ∧
      ((liveOf s f.src.toNat).state = .inService → Serving s y) := by
  obtain ⟨hans, hexec⟩ := sample_replies h hne
  obtain ⟨k, -, hlive⟩ := opportunity_live hans h.2.2.2.2.2.1 hx hst
  have he := sampleReplied_eq hans hx
  obtain ⟨hm, hn, hf, hl, hs, hp⟩ := replying_kept f.src.toNat (sampleAnswered p q .a f s)
  refine ⟨_, _, hexec, ?_, ?_, by rw [hlive], by rw [hlive]; rfl, by rw [hlive]; rfl, sampleReplied_goesOn hans, rfl,
    ⟨by rw [hm, hans.apart], by rw [hn, hans.apart], by rw [hf, hans.apart], by rw [hl, hans.apart], by rw [hs, hans.apart], by rw [hp, hans.apart]⟩,
    fun hin => replying_serves hans hin hrole h.2.2.2.2.2.1⟩
  · rw [he]; exact opportunity_offer .a _ _ _ _
  · rw [he, (opportunity_frame .a _).2.1, offer_frame]

/-- Settles O19: the counted reply hands its sample to the owner, and each owner's own lemma says what it makes of it. -/
theorem meterReply : Obligations.MeterReply := by
  refine ⟨fun p q t0 since second f d s h hst hne hx => ?_, fun p q t0 since second f d s h hst hne hx hsrc => ?_,
    fun p q t0 since z second f d s h hst hne hx hz hl hn hzone => ?_, fun p q t0 since second f d s h hst hne hx => ?_⟩
  · obtain ⟨t, y, hexec, ht, -, hstate, hmissed, hcount, hgoes, -, ⟨htables, hnow, hfire, hloop, hstore, hpending⟩, -⟩ :=
      sample_delivers h hst hne hx (by rw [payloadOf_role hx]; simp [payloadRole])
    obtain ⟨haux, hmeter⟩ := meterSample_seqr d y
    refine ⟨t, hexec, hstate, hmissed, hgoes, hcount, ?_, ?_, ?_, ?_, ?_, ?_, ?_⟩ <;> rw [ht]
    · exact hmeter.trans (by rw [htables, hnow]; rfl)
    · exact haux
    · exact (congrArg Fire.state (meterSample_fire d y)).trans hfire
    · exact (meterSample_loop d y).trans hloop
    · exact (meterSample_store d y).trans hstore
    · exact (meterSample_now d y).trans hnow
    · exact (meterSample_pending d y).trans hpending
  · obtain ⟨t, y, hexec, ht, -, hstate, hmissed, hcount, hgoes, -, -, hserving⟩ :=
      sample_delivers h (.inr (.inr hst)) hne hx (by rw [payloadOf_role hx]; simp [payloadRole])
    obtain ⟨hy, -⟩ := hserving hst
    obtain ⟨r, l, rfl⟩ : ∃ r l, y = { s with ring := r, link := l } := ⟨_, _, hy⟩
    set y : State := { s with ring := r, link := l }
    obtain ⟨hcool, hmgmt⟩ := meterSample_frame (s := y) hsrc
    refine ⟨t, hexec, ?_, ?_, ?_, ?_, hgoes, ?_, ?_, ?_, ?_, fun hc hb => ⟨fun hno hrocof => ?_, fun k c hk htrip hbefore => ?_, fun hno hrocof => ?_⟩,
      fun hc => ?_, fun h1 h2 h3 => ?_⟩ <;> rw [ht]
    · exact meterSample_fire d y
    · exact meterSample_cell d y
    · exact meterSample_loop d y
    · exact hcool
    · exact hmgmt
    · exact meterSample_store d y
    · exact meterSample_now d y
    · exact meterSample_pending d y
    · obtain ⟨hruns, -, -⟩ := meterSample_connected (s := y) hsrc hc hb
      have hseqr := hruns (firstTrip_none (s := y) hno) hrocof
      refine ⟨?_, fun i hi => ?_⟩
      · exact hseqr.trans (by rw [show (deliver f.src.toNat (.meter d) y).seqr = _ from hseqr]; rfl)
      · rw [show (deliver f.src.toNat (.meter d) y).seqr = _ from hseqr]; exact stageTimers_at (s := y) (m := meterOf y d) hi
    · obtain ⟨hfirst, hcause⟩ := firstTrip_some (s := y) hk htrip hbefore
      rw [← hcause]
      exact (meterSample_connected (s := y) hsrc hc hb).2.1 _ hfirst
    · exact (meterSample_connected (s := y) hsrc hc hb).2.2 (firstTrip_none (s := y) hno) hrocof
    · have hne : y.seqr.state ≠ .connected := by obtain hc | hc := hc <;> (intro e; rw [show y.seqr.state = _ from hc] at e; cases e)
      have hwait := healthySample_waiting (m := meterOf y d) (s := metered d y) hc rfl
      rw [← meterSample_unconnected (s := y) hsrc hne] at hwait
      exact hwait
    · have hsame : meterSample d y = metered d y := by
        rw [meterSample_unconnected (s := y) hsrc h1, healthySample_resting (s := metered d y) h2 h3]
      exact congrArg State.seqr hsame
  · have hrole := payloadOf_role hx
    obtain ⟨t, y, hexec, ht, -, hstate, hmissed, hcount, hgoes, -, -, hserving⟩ :=
      sample_delivers h (.inr (.inr hst)) hne hx (by rw [hrole]; simp [payloadRole])
    obtain ⟨hy, hstates⟩ := hserving hst
    have hst' : (liveOf y f.src.toNat).state = .inService := (hstates _).trans hst
    clear hserving hstates
    obtain ⟨r, l, rfl⟩ : ∃ r l, y = { s with ring := r, link := l } := ⟨_, _, hy⟩
    set y : State := { s with ring := r, link := l }
    have hreadings := coolantSample_readings (s := y) (d := d) hz hl hn hrole hzone
    obtain ⟨hfire, hcell, hloop, hstore, hnow, hpending⟩ := coolantSample_apart f.src.toNat d y
    have hzoneT (k : Nat) : zoneLive t k = zoneLive (coolantSample f.src.toNat d y) k := by rw [ht]; rfl
    have hpumpT (k : Nat) : pumpLive t k = pumpLive (coolantSample f.src.toNat d y) k := by rw [ht]; rfl
    refine ⟨t, hexec, ?_, fun k hk => ?_, fun k hk hk4 hkl hrun hduty => ?_, hmissed, hstate, hcount, hgoes, ?_, ?_, ?_, ?_, ?_, ?_⟩
    · rw [hzoneT, hreadings z, if_pos rfl]; rfl
    · rw [hzoneT, hreadings k, if_neg hk]; rfl
    · rw [hpumpT]; exact coolantSample_flowLoss (s := y) hz hn hrole hzone hst' hk hk4 hkl hrun hduty
    · rw [ht]; exact hfire
    · rw [ht]; exact hcell
    · rw [ht]; exact hloop
    · rw [ht]; exact hstore
    · rw [ht]; exact hnow
    · rw [ht]; exact hpending
  · obtain ⟨t, y, hexec, ht, -, hstate, hmissed, hcount, hgoes, -, -, hserving⟩ :=
      sample_delivers h (.inr (.inr hst)) hne hx (by rw [payloadOf_role hx]; simp [payloadRole])
    have hserve := hserving hst
    have hdeliver : deliver f.src.toNat (.conv d) y = converterState d.state (converterSample d y) := rfl
    rw [hdeliver] at ht
    have htaken : t = { converterSample d y with ring := t.ring, gate := t.gate, link := t.link } := by
      rw [ht]
      rw [converterState_frame]
    have hgate : t.gate.conv = some d.state := by rw [ht]; exact converterState_conv _ _
    have hseqrT : t.seqr = (converterSample d y).seqr := by rw [htaken]
    have hmgmtT : t.mgmt = (converterSample d y).mgmt := by rw [htaken]
    have hseqr : y.seqr = s.seqr := by rw [hserve.apart]
    have hnow : y.now = s.now := by rw [hserve.apart]
    obtain ⟨hready, hlow, hopening, hother⟩ := converterSample_cases d y
    rw [hseqr] at hready hlow hopening hother
    obtain ⟨hfire, hcell, hloop, hstore, hnowT, hpending⟩ := converterSample_apart d y
    have hrecord : (convRecord d y).seqr = { s.seqr with conv := (convRecord d y).seqr.conv } := by rw [← hseqr]; rfl
    have hdischarged : (dischargedBy d y).seqr = { s.seqr with conv := (dischargedBy d y).seqr.conv, discharged := (dischargedBy d y).seqr.discharged } := by
      rw [← hseqr]; rfl
    have hreads (i : Input) : inputReads (dischargedBy d y) i = inputReads s i := by rw [hserve.apart]; rfl
    have hmet := dischargedBy_discharged d y
    rw [hseqr] at hmet
    refine ⟨t, hexec, ?_, hgate, fun hp h1 h2 hbay => ?_, fun hp hno => ?_, fun ho => ⟨fun ⟨hm, hpos, hneg⟩ => ?_, fun hnot => ?_⟩, fun h1 h2 => ?_,
      hmissed, hstate, hcount, hgoes, ?_, ?_, ?_, ?_, ?_, ?_⟩
    · rw [hseqrT, converterSample_conv, hnow]
    · rw [hseqrT, hready hp ⟨h1, h2⟩, seqEnterTested_passes (bayCondition_serving hserve hbay d)]
      exact ⟨seqTo_state _ _, seqTo_stepSince _ _⟩
    · rw [hseqrT, hlow hp hno]; exact hrecord
    · have hends := openingTest_ends (dischargedBy d y) (by rw [hdischarged]; exact ho) (hmet.mpr hm) ((hreads _).trans hpos) ((hreads _).trans hneg)
      rw [← hopening ho] at hends
      exact openingEnds_congr (by rw [hdischarged]) (by rw [hserve.apart]; rfl) (by rw [hserve.apart]; rfl) hseqrT hmgmtT hends
    · have hstays : openingTest (dischargedBy d y) = dischargedBy d y := openingTest_stays _ fun ⟨_, hd, hpos, hneg⟩ =>
        hnot ⟨hmet.mp hd, (hreads _).symm.trans hpos, (hreads _).symm.trans hneg⟩
      rw [hseqrT, hopening ho, hstays]
      exact ⟨hmet, hdischarged⟩
    · rw [hseqrT, hother h1 h2]; exact hrecord
    · rw [htaken]; exact hfire.trans (by rw [hserve.apart])
    · rw [htaken]; exact hcell.trans (by rw [hserve.apart])
    · rw [htaken]; exact hloop.trans (by rw [hserve.apart])
    · rw [htaken]; exact hstore.trans (by rw [hserve.apart])
    · rw [htaken]; exact hnowT.trans hnow
    · rw [htaken]; exact hpending.trans (by rw [hserve.apart])

end Sys2Proof.Machine
end

section
/-! O41: the supervision of the pumps, and the cooling states of the zones and the bay. -/

namespace Sys2Proof.Machine

/-- The cooling as seen at a state is seen at every state of the same cooling, sequencer and envelope. -/
theorem coolingSeen_congr_right {s t t' : State} (hc : t'.cool = t.cool) (hq : t'.seqr = t.seqr) (he : t'.env = t.env) (h : coolingSeen s t) :
    coolingSeen s t' := by
  simpa only [coolingSeen, bayStands, bayTaken, hc, hq, he] using h

/-- A zone stands in its state whatever becomes of the rest. -/
theorem zoneStands_congr {s t : State} {z : Nat} (hc : t.cool = s.cool) (hn : t.ring.nodes = s.ring.nodes) (hm : t.mgmt = s.mgmt)
    (h : zoneStands s z) : zoneStands t z := by
  have hzone : zoneLive t z = zoneLive s z := by simp only [zoneLive, hc]
  exact (zoneAlike_stands ⟨hn, by rw [hm], by rw [hc], by rw [hc], by rw [hzone]⟩ (by rw [hzone])).mpr h

/-- After a COOLANT sample its zone stands in its state, and the cooling is seen. -/
theorem coolantSample_stands {a z : Nat} {d : CoolantSample} {s : State} (hz : z < 4) (hl : z < s.cool.zones.length)
    (hn : (zoneCfg s.mgmt.ringTables.cooling z).node = some a) (hrole : (cfgOf s a).role = .cool) (hzone : (cfgOf s a).zone = z) :
    zoneStands (coolantSample a d s) z ∧ coolingSeen s (coolantSample a d s) := by
  have hframe := flowTest_cool z d.flow (coolRead z d s)
  have hzones : (flowTest z d.flow (coolRead z d s)).cool.zones = (coolRead z d s).cool.zones := flowTest_zones _ _ _
  have hbay : (flowTest z d.flow (coolRead z d s)).cool.bay = s.cool.bay := by unfold flowTest; split <;> rfl
  rw [coolantSample_zone hz hn hrole hzone]
  refine ⟨coolSettle_stands _ _ _ z hz ?_ (.inl (by simp)), coolingSeen_congr hbay (by rw [hframe]; rfl) (by rw [hframe]; rfl) (coolSettle_seen _ _ _)⟩
  rw [hzones]; simpa [coolRead, modZone] using hl

/-- Settles O41: each pump event settles the cooling, and the settling is seen by the zones, the bay and the sequencer. -/
theorem pumpSupervision : Obligations.PumpSupervision := by
  refine ⟨fun s p t0 hs hp hl ho h0 hlate => ?_, fun s p t0 hs hp hl ho hst h0 hlate => ?_, fun s p t0 hs h0 hlate => ?_,
    fun r b s h ha hb hl ho hst => ?_, fun r s h ha hl ho => ?_, fun b s => ⟨fun z hz hl => coolingPass_zones b s z hz hl, coolingPass_seen b s⟩,
    fun a z s => ?_, fun p q t0 since z second f d s h hst hne hx hz hl hn hzone => ?_⟩
  · obtain ⟨happlied, hpump⟩ := flowLoss_pump hp hl ho
    obtain ⟨hfire, hloop, hcell, hnow, hstore, hpending⟩ := flowLoss_apart p s
    exact ⟨_, flowLoss_due hs h0 hlate, happlied, flowLoss_zones hp hl ho, flowLoss_seen p s, hpump, hfire, hloop, hcell, hnow, hstore, hpending⟩
  · obtain ⟨happlied, hstate, hrestart, hfaults⟩ := restartExpire_pump hp hl ho
    obtain ⟨hfire, hloop, hcell, hnow, hstore, hpending⟩ := restartExpire_apart p s
    exact ⟨_, restartExpire_due hs hst h0 hlate, happlied, hstate, hrestart, hfaults, restartExpire_zones hp hl ho hst, restartExpire_seen p s,
      hfire, hloop, hcell, hnow, hstore, hpending⟩
  · rw [faultFreeExpiry_due hs h0 hlate, ← modPump_set s p fun x => { x with faults := 0, clock := 0, clockSince := some s.now }]; rfl
  · have hnamed : namedPumps b.toNat = some [b.toNat] := if_pos hb
    obtain ⟨hfaults, hrestart, hstate⟩ := clearPumpBody_unlocks r hb hl (List.mem_singleton_self b.toNat) hst
    obtain ⟨hfire, hloop, hcell, hnow, hstore, hpending⟩ := clearPumpBody_apart r [b.toNat] s
    exact ⟨_, clearPumpLock_held h ha hnamed, hfaults, hrestart, hstate, fun p hp hne hl => clearPumpBody_keeps r hp (by simpa using hne) hl,
      clearPumpBody_zones r (List.mem_singleton_self _), clearPumpBody_seen r _ s, hfire, hloop, hcell, hnow, hstore, hpending⟩
  · have hnamed : namedPumps (0xFF : Byte).toNat = some (List.range 4) := rfl
    obtain ⟨hfire, hloop, hcell, hnow, hstore, hpending⟩ := clearPumpBody_apart r (List.range 4) s
    have hin (p : Nat) (hp : p < 4) : p ∈ List.range 4 := List.mem_range.mpr hp
    exact ⟨_, clearPumpLock_held h ha hnamed,
      fun p hp => ⟨clearPumpBody_unlocked r hp (by omega) (hin p hp), fun hst => clearPumpBody_unlocks r hp (by omega) (hin p hp) hst⟩,
      fun p hp => clearPumpBody_zones r (hin p hp), clearPumpBody_seen r _ s, hfire, hloop, hcell, hnow, hstore, hpending⟩
  · intro t hz hl hn hrole hzone
    exact ⟨coolNode_zone hz hl hn hrole hzone, coolSettle_seen _ _ _⟩
  · have hrole := payloadOf_role hx
    obtain ⟨t, y, hexec, ht, hnodes, -, -, -, -, -, -, hserving⟩ :=
      sample_delivers h (.inr (.inr hst)) hne hx (by rw [hrole]; simp [payloadRole])
    have hserve := hserving hst
    have hdeliver : deliver f.src.toNat (.cool d) y = coolantSample f.src.toNat d y := rfl
    rw [hdeliver] at ht hnodes
    obtain ⟨hstands, hseen⟩ := coolantSample_stands (s := y) (d := d) hz (by rw [hserve.apart]; exact hl) (by rw [hserve.apart]; exact hn)
      (by rw [hserve.apart]; exact hrole) (by rw [hserve.apart]; exact hzone)
    refine ⟨t, hexec, zoneStands_congr (by rw [ht]) hnodes (by rw [ht]) hstands, ?_⟩
    exact coolingSeen_congr_right (by rw [ht]) (by rw [ht]) (by rw [ht])
      (coolingSeen_congr (u := y) (by rw [hserve.apart]) (by rw [hserve.apart]) (by rw [hserve.apart]) hseen)

end Sys2Proof.Machine
end

section
/-! What the reactions to applied tables and to a Bay Summary leave unchanged: the clock, the store, the tables, the ring but for the slot and the ring-broken flag,
the Cell Supervisor, and the outlet thresholds in use. -/

namespace Sys2Proof.Machine

/-- What no reaction of a block changes. -/
structure Fixed where
  now : Nat
  phase : Phase
  store : Store
  pending : List Instr
  ring : Ring
  tables : RingTables
  staged : List RingPart
  gen : Nat
  cell : Cell
  lastRound : Nat
  rateAt : Option Nat
  thresholds : List (Int × Int)

def fixed (s : State) : Fixed where
  now := s.now
  phase := s.phase
  store := s.store
  pending := s.pending
  ring := { s.ring with slot := none, broken := false }
  tables := s.mgmt.ringTables
  staged := s.mgmt.ringStaged
  gen := s.mgmt.ringGen
  cell := s.cell
  lastRound := s.env.lastRound
  rateAt := s.link.rateAt
  thresholds := s.cool.zones.map fun z => (z.warn, z.trip)

/-! ## The blocks' own records -/

@[simp] theorem fixed_onSeqr (f : Sequencer → Sequencer) (s : State) : fixed (s.onSeqr f) = fixed s := rfl
@[simp] theorem fixed_onLines (f : Lines → Lines) (s : State) : fixed (s.onLines f) = fixed s := rfl
@[simp] theorem fixed_onGate (f : Gate → Gate) (s : State) : fixed (s.onGate f) = fixed s := rfl
@[simp] theorem fixed_onFire (f : Fire → Fire) (s : State) : fixed (s.onFire f) = fixed s := rfl
@[simp] theorem fixed_onLoop (f : Loop → Loop) (s : State) : fixed (s.onLoop f) = fixed s := rfl

theorem fixed_onLink {f : Link → Link} {s : State} (h : (f s.link).rateAt = s.link.rateAt) : fixed (s.onLink f) = fixed s := by
  simp only [fixed, State.onLink, h]

theorem fixed_onEnv {f : Envelope → Envelope} {s : State} (h : (f s.env).lastRound = s.env.lastRound) : fixed (s.onEnv f) = fixed s := by
  simp only [fixed, State.onEnv, h]

theorem fixed_onCool {f : Cooling → Cooling} {s : State}
    (h : ((f s.cool).zones.map fun z => (z.warn, z.trip)) = s.cool.zones.map fun z => (z.warn, z.trip)) : fixed (s.onCool f) = fixed s := by
  simp only [fixed, State.onCool, h]

theorem fixed_onMgmt {f : Mgmt → Mgmt} {s : State} (h1 : (f s.mgmt).ringTables = s.mgmt.ringTables) (h2 : (f s.mgmt).ringStaged = s.mgmt.ringStaged)
    (h3 : (f s.mgmt).ringGen = s.mgmt.ringGen) : fixed (s.onMgmt f) = fixed s := by
  simp only [fixed, State.onMgmt, h1, h2, h3]

theorem fixed_setSlot (x : Option SlotFrame) (s : State) : fixed (s.onRing fun r => { r with slot := x }) = fixed s := rfl

/-- A ring that differs in its slot alone. -/
theorem fixed_onRing {f : Ring → Ring} {s : State} (h : f s.ring = { s.ring with slot := (f s.ring).slot, broken := (f s.ring).broken }) :
    fixed (s.onRing f) = fixed s := by
  simp only [fixed, State.onRing]
  rw [h]

/-! ## Notices and frames for the station -/

theorem sendUp_rateAt (now rate : Nat) (p : FramePort) (f : UpFrame) (l : Link) : (sendUp now rate p f l).rateAt = l.rateAt := by
  have hstation (x : Link) : (stationTake now rate x).rateAt = x.rateAt := by
    unfold stationTake
    split
    · rfl
    · split <;> rfl
  have hservice (x : Link) : (serviceTake now x).rateAt = x.rateAt := by
    unfold serviceTake
    split
    · rfl
    · split <;> rfl
  have hqueue : (queueJoin f l).rateAt = l.rateAt := by
    unfold queueJoin
    split
    · rfl
    · split <;> rfl
  have hfifo : (fifoJoin f l).rateAt = l.rateAt := by
    unfold fifoJoin
    split <;> rfl
  cases p
  · exact (hstation _).trans hqueue
  · exact (hservice _).trans hfifo

theorem linkNotice_rateAt (now rate round : Nat) (n : Notice) (l : Link) : (linkNotice now rate round n l).rateAt = l.rateAt := by
  simp only [linkNotice]
  split_ifs <;> simp only [sendUp_rateAt]

@[simp] theorem fixed_raiseNotice (n : Notice) (s : State) : fixed (raiseNotice n s) = fixed s := fixed_onLink (linkNotice_rateAt _ _ _ _ _)

@[simp] theorem fixed_raiseIf (b : Bool) (n : Notice) (s : State) : fixed (raiseIf b n s) = fixed s := by
  unfold raiseIf; split <;> simp

@[simp] theorem fixed_raiseAll (ns : List Notice) (s : State) : fixed (raiseAll ns s) = fixed s :=
  foldl_keeps fixed _ (fun _ _ => fixed_raiseNotice _ _) ns s

@[simp] theorem fixed_answerAs (b : Bool) (p : FramePort) (src id : Byte) (code : Nat) (st : Status) (rs : List Byte) (s : State) :
    fixed (answerAs b p src id code st rs s) = fixed s := fixed_onLink (sendUp_rateAt _ _ _ _ _)

/-! ## The envelope and the slot -/

@[simp] theorem fixed_reissueCheck (s : State) : fixed (reissueCheck s) = fixed s := by
  rw [reissueCheck_frame]; rfl

@[simp] theorem fixed_slotRewrite (s : State) : fixed (slotRewrite s) = fixed s := by
  unfold slotRewrite; split <;> rfl

@[simp] theorem fixed_setLimits (c d : Nat) (s : State) : fixed (setLimits c d s) = fixed s := by
  have hlimits : fixed (s.onEnv fun e => { e with chg := c, dis := d }) = fixed s := fixed_onEnv rfl
  simp only [setLimits]
  split <;> simp [limitsHanded, hlimits]

@[simp] theorem fixed_gateOnset (g : Nat) (s : State) : fixed (gateOnset g s) = fixed s := by
  simp only [gateOnset, fixed_setLimits, fixed_raiseIf]
  exact fixed_onEnv rfl

@[simp] theorem fixed_gateEnd (g : Nat) (s : State) : fixed (gateEnd g s) = fixed s := by
  simp only [gateEnd, fixed_raiseIf]
  exact fixed_onEnv rfl

@[simp] theorem fixed_silenceExpire (s : State) : fixed (silenceExpire s) = fixed s := by
  simp only [silenceExpire, fallbackInstall, fixed_reissueCheck, fixed_setSlot, fixed_onGate, fixed_raiseNotice]

/-! ## The lines -/

@[simp] theorem fixed_refreshLines (s : State) : fixed (refreshLines s) = fixed s := by
  unfold refreshLines
  split
  · simp [composeAll, faultEval, readbackEval]
  · rfl

@[simp] theorem fixed_endForce (o : Nat) (s : State) : fixed (endForce o s) = fixed s := by
  unfold endForce; split <;> simp

@[simp] theorem fixed_endContactorForces (s : State) : fixed (endContactorForces s) = fixed s := by simp [endContactorForces]

/-! ## The sequencer -/

@[simp] theorem fixed_blindEval (s : State) : fixed (blindEval s) = fixed s := by
  simp only [blindEval]
  split_ifs <;> simp [blindOnset, blindEnd]

@[simp] theorem fixed_strayStart (c : Cause) (s : State) : fixed (strayStart c s) = fixed s := by simp [strayStart]

@[simp] theorem fixed_seqTo (st : SeqState) (s : State) : fixed (seqTo st s) = fixed s := by
  simp only [seqTo]
  split_ifs <;> simp

theorem handLatch_ring (b : Bool) (r : Lockout) (m : Mgmt) : (handLatch b r m).ringStaged = m.ringStaged ∧ (handLatch b r m).ringGen = m.ringGen := by
  rw [handLatch_latch]; exact ⟨rfl, rfl⟩

@[simp] theorem fixed_handLatch (b : Bool) (r : Lockout) (s : State) : fixed (s.onMgmt (handLatch b r)) = fixed s :=
  fixed_onMgmt (handLatch_tables _ _ _) (handLatch_ring _ _ _).1 (handLatch_ring _ _ _).2

@[simp] theorem fixed_lockOut (r : Lockout) (s : State) : fixed (lockOut r s) = fixed s := by simp [lockOut]
@[simp] theorem fixed_tripTo (c : Cause) (cl : CauseClass) (k : Continuation) (s : State) : fixed (tripTo c cl k s) = fixed s := by simp [tripTo]

@[simp] theorem fixed_takeBay (c : Cause) (s : State) : fixed (takeBay c s) = fixed s := by
  unfold takeBay
  split <;> (try split) <;> simp

@[simp] theorem fixed_takeGrid (c : Cause) (s : State) : fixed (takeGrid c s) = fixed s := by
  unfold takeGrid; split <;> simp

@[simp] theorem fixed_seqEnterTested (st : SeqState) (s : State) : fixed (seqEnterTested st s) = fixed s := by
  simp only [seqEnterTested]; split <;> simp

@[simp] theorem fixed_tripTest (s : State) : fixed (tripTest s) = fixed s := by
  simp only [tripTest, tripComplete]
  split
  · split
    · split <;> simp
    · simp
  · rfl

@[simp] theorem fixed_openingTest (s : State) : fixed (openingTest s) = fixed s := by
  unfold openingTest
  split
  · split
    · simp
    · split <;> simp
  · rfl

@[simp] theorem fixed_strayTest (s : State) : fixed (strayTest s) = fixed s := by
  unfold strayTest; split <;> simp [strayStop]

@[simp] theorem fixed_seqNodes (b : Bool) (s : State) : fixed (seqNodes b s) = fixed s := by
  simp only [seqNodes]
  split_ifs <;> simp

/-! ## The cooling -/

theorem thresholds_modZone (z : Nat) (f : ZoneLive → ZoneLive) (c : Cooling) (h : ∀ x, (f x).warn = x.warn ∧ (f x).trip = x.trip) :
    ((modZone z f c).zones.map fun z => (z.warn, z.trip)) = c.zones.map fun z => (z.warn, z.trip) := by
  refine List.ext_getElem (by simp [modZone]) fun i hi hi' => ?_
  simp only [modZone, List.getElem_map, List.getElem_modify]
  split
  · rw [(h _).1, (h _).2]
  · rfl

@[simp] theorem fixed_modOut (o : Nat) (f : OutLive → OutLive) (s : State) : fixed (s.onCool (modOut o f)) = fixed s := rfl
@[simp] theorem fixed_modPump (p : Nat) (f : PumpLive → PumpLive) (s : State) : fixed (s.onCool (modPump p f)) = fixed s := rfl

@[simp] theorem fixed_zoneEval (z : Nat) (s : State) : fixed (zoneEval z s) = fixed s := by
  simp only [zoneEval, fixed_raiseIf]
  exact fixed_onCool (thresholds_modZone _ _ _ fun _ => ⟨rfl, rfl⟩)

@[simp] theorem fixed_bayEval (s : State) : fixed (bayEval s) = fixed s := by
  have hbay (x : CoolState) : fixed (s.onCool fun c => { c with bay := x }) = fixed s := fixed_onCool rfl
  simp only [bayEval]
  split_ifs <;> simp [hbay]

@[simp] theorem fixed_coolSettle (old : State) (also : Nat → Bool) (s : State) : fixed (coolSettle old also s) = fixed s := by
  simp only [coolSettle, fixed_refreshLines, fixed_bayEval]
  rw [foldl_keeps fixed _ (fun b a => by split <;> simp)]
  rfl

@[simp] theorem fixed_reformOne (o : Nat) (s : State) : fixed (reformOne o s) = fixed s := by simp [reformOne]

@[simp] theorem fixed_reformAll (s : State) : fixed (reformAll s) = fixed s := by
  simp only [reformAll, reformOuts, fixed_coolSettle]
  exact foldl_keeps fixed _ (fun _ _ => fixed_modOut _ _ _) _ s

/-! ## The fire state -/

@[simp] theorem fixed_dropForce (s : State) (o : Nat) : fixed (dropForce s o) = fixed s := by
  unfold dropForce
  split
  · rfl
  · split <;> simp

@[simp] theorem fixed_dropAllForces (s : State) : fixed (dropAllForces s) = fixed s := by
  simp only [dropAllForces, fixed_refreshLines]
  exact foldl_keeps fixed _ fixed_dropForce _ s

@[simp] theorem fixed_loopAct (a : LoopAct) (s : State) : fixed (loopAct a s) = fixed s := by simp [loopAct]

@[simp] theorem fixed_loopClear (s : State) : fixed (loopClear s).1 = fixed s := by
  have habort (x : State) : fixed (abortBus x) = fixed x := by
    unfold abortBus
    split <;> simp [recoverBus]
  unfold loopClear
  split
  · dsimp only
    split <;> simp [habort, answerManual]
  · split <;> simp

@[simp] theorem fixed_abandonRestart (s : State) : fixed (abandonRestart s) = fixed s := by
  unfold abandonRestart
  split
  · rw [fixed_raiseNotice, fixed_onLink (by rfl), fixed_onMgmt rfl rfl rfl]
  · rfl

@[simp] theorem fixed_fireTo (new : FireState) (s : State) : fixed (fireTo new s) = fixed s := by
  simp only [fireTo, leaveQuiet]
  split_ifs <;> simp

@[simp] theorem fixed_expireCountdown (s : State) : fixed (expireCountdown s) = fixed s := by
  unfold expireCountdown; split <;> simp

@[simp] theorem fixed_releaseTest (b : Bool) (s : State) : fixed (releaseTest b s) = fixed s := by
  simp only [releaseTest]
  split_ifs <;> simp

@[simp] theorem fixed_holdFollow (s : State) : fixed (holdFollow s) = fixed s := by
  unfold holdFollow
  split
  · rfl
  · dsimp only
    split_ifs <;> simp

@[simp] theorem fixed_fireEval (b : Bool) (s : State) : fixed (fireEval b s) = fixed s := by
  unfold fireEval
  split
  · split_ifs <;> simp
  · split_ifs <;> simp
  · simp
  · simp only [pendingEval]
    split_ifs <;> simp
  · rfl

@[simp] theorem fixed_detBlindEval (s : State) : fixed (detBlindEval s) = fixed s := by
  simp only [detBlindEval, fixed_refreshLines]
  exact foldl_keeps fixed _ (fun b a => by simp [detBlindZone]) _ s

/-! ## The inputs -/

@[simp] theorem fixed_inputReport (i : Input) (first : Bool) (s : State) : fixed (inputReport i first s) = fixed s := by
  have hbreaker (closed : Bool) (x : State) : fixed (breakerReport first closed x) = fixed x := by
    unfold breakerReport
    split
    · split <;> (try split) <;> simp
    · simp
  simp only [inputReport, inputReaders, fixed_refreshLines]
  cases i <;> dsimp only
  case breakerAux => simp [hbreaker]
  case estop => split <;> simp
  all_goals simp

end Sys2Proof.Machine
end

section
/-! What the application of the ring group changes of the fixed part (R186): the tables, the live fields of the nodes, the Module Records, and the moment at
which a bit rate was applied. -/

namespace Sys2Proof.Machine

/-! ## The take-up of new tables -/

@[simp] theorem fixed_slotTakeUp (s : State) : fixed (slotTakeUp s) = fixed s := by
  unfold slotTakeUp
  split
  · split
    · rfl
    · exact fixed_setSlot _ _
  · rfl

@[simp] theorem fixed_forwardTakeUp (old : List NodeCfg) (s : State) : fixed (forwardTakeUp old s) = fixed s := fixed_onLink rfl
@[simp] theorem fixed_forwardTick (s : State) : fixed (forwardTick s) = fixed s := fixed_onLink rfl

@[simp] theorem fixed_ringBrokenEval (s : State) : fixed (ringBrokenEval s) = fixed s := by
  rw [ringBrokenEval, fixed_raiseIf]
  exact fixed_onRing rfl

@[simp] theorem fixed_ratingCut (s : State) : fixed (ratingCut s) = fixed s := fixed_setLimits _ _ _

@[simp] theorem fixed_silenceTakeUp (s : State) : fixed (silenceTakeUp s) = fixed s := by
  unfold silenceTakeUp; split <;> simp

theorem renameZone_thresholds (old new : CoolingCfg) (z : Nat) (x : ZoneLive) :
    (renameZone old new z x).warn = x.warn ∧ (renameZone old new z x).trip = x.trip := by
  unfold renameZone; split <;> exact ⟨rfl, rfl⟩

@[simp] theorem fixed_reformOuts (s : State) : fixed (reformOuts s) = fixed s := foldl_keeps fixed _ (fun _ _ => fixed_modOut _ _ _) _ s

@[simp] theorem fixed_coolingTakeUp (old : CoolingCfg) (s : State) : fixed (coolingTakeUp old s) = fixed s := by
  simp only [coolingTakeUp, fixed_coolSettle, fixed_reformOuts]
  refine fixed_onCool (List.ext_getElem (by simp) fun i hi hi' => ?_)
  simp only [List.getElem_map, List.getElem_mapIdx, (renameZone_thresholds _ _ _ _).1, (renameZone_thresholds _ _ _ _).2]

@[simp] theorem fixed_coolNodesTakeUp (live : List NodeLive) (s : State) : fixed (coolNodesTakeUp live s) = fixed s := fixed_coolSettle _ _ _

@[simp] theorem fixed_gridTakeUp (s : State) : fixed (gridTakeUp s) = fixed s := by
  simp only [gridTakeUp]
  split_ifs <;> simp

@[simp] theorem fixed_lineTakeUp (old : LineCfg) (s : State) : fixed (lineTakeUp old s) = fixed s :=
  foldl_keeps fixed _ (fun b i => by split <;> simp) _ s

/-! ## The nodes and the Module Records -/

/-- What an application leaves, apart from the nodes and their records. -/
def Fixed.coarse (x : Fixed) : Fixed := { x with ring := { x.ring with nodes := [] }, cell := { x.cell with recs := [] } }

theorem coarse_setLive (a : Nat) (f : NodeLive → NodeLive) (s : State) : (fixed (s.onRing (setLive a f))).coarse = (fixed s).coarse := by
  cases a <;> rfl

theorem coarse_nodesTakeUp (old : RingTables) (s : State) : (fixed (nodesTakeUp old s)).coarse = (fixed s).coarse :=
  foldl_keeps (fun x => (fixed x).coarse) _ (fun b a => by simp only [fixed_raiseIf]; exact coarse_setLive _ _ _) _ s

theorem coarse_changeRec (a : Nat) (f : ModuleRec → ModuleRec) (s : State) : (fixed (changeRec a f s)).coarse = (fixed s).coarse := by
  unfold changeRec
  split
  · rfl
  · simp only [fixed_raiseIf]; rfl

theorem coarse_modulesTakeUp (old : List NodeCfg) (written : List Nat) (s : State) :
    (fixed (modulesTakeUp old written s)).coarse = (fixed s).coarse := by
  refine foldl_keeps (fun x => (fixed x).coarse) _ (fun b a => ?_) _ s
  simp only [moduleTakeUp]
  split_ifs
  · rfl
  · rfl
  · exact coarse_changeRec _ _ _
  · rfl

theorem coarse_ringBeforeLines (old : RingTables) (staged : List RingPart) (b : Bool) (s : State) :
    (fixed (ringBeforeLines old staged b s)).coarse = (fixed s).coarse := by
  simp only [ringBeforeLines, fixed_gridTakeUp, fixed_detBlindEval, fixed_seqNodes, fixed_coolNodesTakeUp, ringCooled, fixed_coolingTakeUp,
    fixed_silenceTakeUp, ringRated, fixed_ratingCut]
  rw [coarse_modulesTakeUp, fixed_ringBrokenEval, fixed_slotTakeUp, fixed_forwardTakeUp, coarse_nodesTakeUp]

/-- A bit rate is among the parts. -/
theorem writtenRate_iff (l : List RingPart) : writtenRate l = true ↔ ∃ r, RingPart.rate r ∈ l := by
  rw [writtenRate, List.any_eq_true]
  constructor
  · rintro ⟨p, hp, h⟩
    cases p <;> simp only [Bool.false_eq_true] at h
    exact ⟨_, hp⟩
  · rintro ⟨r, hr⟩
    exact ⟨_, hr, rfl⟩

theorem coarse_ringTakeUp (old : RingTables) (staged : List RingPart) (b : Bool) (s : State) :
    (fixed (ringTakeUp old staged b s)).coarse =
      { (fixed s).coarse with rateAt := if writtenRate staged then some s.now else s.link.rateAt } := by
  have hbefore : (fixed (lineTakeUp old.line (ringBeforeLines old staged b s))).coarse = (fixed s).coarse := by
    rw [fixed_lineTakeUp, coarse_ringBeforeLines]
  rw [ringTakeUp_eq]
  generalize lineTakeUp old.line (ringBeforeLines old staged b s) = v at *
  have hnow : v.now = s.now := congrArg Fixed.now hbefore
  have hrate : v.link.rateAt = s.link.rateAt := congrArg Fixed.rateAt hbefore
  unfold rateTakeUp
  split
  · rw [← hbefore, ← hnow]; rfl
  · rw [← hrate, ← hbefore]; rfl

/-- What the application of the ring group leaves (R186). -/
structure RingApplied (s t : State) : Prop where
  coarse : (fixed t).coarse = { (fixed s).coarse with
    tables := t.mgmt.ringTables, staged := t.mgmt.ringStaged, gen := t.mgmt.ringGen, rateAt := t.link.rateAt }
  same : s.mgmt.ringStaged = [] → t = s
  tables : s.mgmt.ringStaged ≠ [] → t.mgmt.ringTables = s.mgmt.ringStaged.foldl applyRing s.mgmt.ringTables ∧ t.mgmt.ringStaged = [] ∧
    t.mgmt.ringGen = nextGen s.mgmt.ringGen
  rate : t.link.rateAt = if writtenRate s.mgmt.ringStaged then some s.now else s.link.rateAt

theorem applyRingGroup_applied (s : State) : RingApplied s (applyRingGroup s) := by
  by_cases hstaged : s.mgmt.ringStaged = []
  · have he : applyRingGroup s = s := by simp only [applyRingGroup, hstaged, if_true]
    rw [he]
    exact ⟨rfl, fun _ => rfl, fun h => absurd hstaged h, by rw [hstaged]; rfl⟩
  have hcoarse : (fixed (applyRingGroup s)).coarse = { (fixed s).coarse with
      tables := pendingRing s.mgmt, staged := [], gen := nextGen s.mgmt.ringGen,
      rateAt := if writtenRate s.mgmt.ringStaged then some s.now else s.link.rateAt } := by
    simp only [applyRingGroup, if_neg hstaged, fixed_raiseNotice, coarse_ringTakeUp]
    rfl
  generalize applyRingGroup s = t at *
  have htables : t.mgmt.ringTables = pendingRing s.mgmt := congrArg Fixed.tables hcoarse
  have hempty : t.mgmt.ringStaged = [] := congrArg Fixed.staged hcoarse
  have hgen : t.mgmt.ringGen = nextGen s.mgmt.ringGen := congrArg Fixed.gen hcoarse
  have hrate : t.link.rateAt = if writtenRate s.mgmt.ringStaged then some s.now else s.link.rateAt := congrArg Fixed.rateAt hcoarse
  exact ⟨by rw [hcoarse, htables, hempty, hgen, hrate], fun h => absurd h hstaged, fun _ => ⟨htables, hempty, hgen⟩, hrate⟩

end Sys2Proof.Machine
end

section
/-! The Bay Summary in the words of the manual: what it counts, its extremes, flags and zone parts (R42 to R44). -/

namespace Sys2Proof.Machine

/-! ## Extremes -/

theorem isMax_congr {P Q : Int → Prop} {a : Option Int} (h : ∀ v, P v ↔ Q v) (ha : isMax P a) : isMax Q a := by rwa [← funext fun v => propext (h v)]
theorem isMin_congr {P Q : Int → Prop} {a : Option Int} (h : ∀ v, P v ↔ Q v) (ha : isMin P a) : isMin Q a := by rwa [← funext fun v => propext (h v)]

theorem isMax_optMax {P Q : Int → Prop} {a b : Option Int} (ha : isMax P a) (hb : isMax Q b) : isMax (fun v => P v ∨ Q v) (optMax a b) := by
  cases a with
  | none => exact @isMax_congr _ _ b (fun v => (or_iff_right (ha v)).symm) hb
  | some x =>
    cases b with
    | none => exact isMax_congr (fun v => (or_iff_left (hb v)).symm) ha
    | some y =>
      refine ⟨?_, fun v hv => hv.elim (fun h => (ha.2 v h).trans (le_max_left x y)) fun h => (hb.2 v h).trans (le_max_right x y)⟩
      rcases max_choice x y with h | h <;> rw [h]
      · exact .inl ha.1
      · exact .inr hb.1

theorem isMin_optMin {P Q : Int → Prop} {a b : Option Int} (ha : isMin P a) (hb : isMin Q b) : isMin (fun v => P v ∨ Q v) (optMin a b) := by
  cases a with
  | none => exact @isMin_congr _ _ b (fun v => (or_iff_right (ha v)).symm) hb
  | some x =>
    cases b with
    | none => exact isMin_congr (fun v => (or_iff_left (hb v)).symm) ha
    | some y =>
      refine ⟨?_, fun v hv => hv.elim (fun h => (min_le_left x y).trans (ha.2 v h)) fun h => (min_le_right x y).trans (hb.2 v h)⟩
      rcases min_choice x y with h | h <;> rw [h]
      · exact .inl ha.1
      · exact .inr hb.1

/-- An extreme is taken over a list one entry at a time. -/
theorem extreme_foldl {α : Type} {is : (Int → Prop) → Option Int → Prop} {op : Option Int → Option Int → Option Int}
    (hop : ∀ {P Q : Int → Prop} {a b : Option Int}, is P a → is Q b → is (fun v => P v ∨ Q v) (op a b))
    {Q : α → Int → Prop} {g : α → Option Int} {l : List α} (hg : ∀ x ∈ l, is (Q x) (g x)) {P : Int → Prop} {a : Option Int} (ha : is P a) :
    is (fun v => P v ∨ ∃ x ∈ l, Q x v) (l.foldl (fun a x => op a (g x)) a) := by
  induction l generalizing P a with
  | nil => simpa using ha
  | cons x l ih =>
    have h := ih (fun y hy => hg y (.tail _ hy)) (hop ha (hg x (.head _)))
    simpa only [List.foldl_cons, List.mem_cons, exists_eq_or_imp, or_assoc] using h

theorem isMax_foldl {α : Type} {Q : α → Int → Prop} {g : α → Option Int} {l : List α} (hg : ∀ x ∈ l, isMax (Q x) (g x)) :
    isMax (fun v => ∃ x ∈ l, Q x v) (l.foldl (fun a x => optMax a (g x)) none) := by
  have h := extreme_foldl isMax_optMax hg (P := fun _ => False) (a := none) (fun _ h => h)
  simpa only [false_or] using h

theorem isMin_foldl {α : Type} {Q : α → Int → Prop} {g : α → Option Int} {l : List α} (hg : ∀ x ∈ l, isMin (Q x) (g x)) :
    isMin (fun v => ∃ x ∈ l, Q x v) (l.foldl (fun a x => optMin a (g x)) none) := by
  have h := extreme_foldl isMin_optMin hg (P := fun _ => False) (a := none) (fun _ h => h)
  simpa only [false_or] using h

theorem isMax_value (o : Option Int) : isMax (fun v => o = some v) o := by
  cases o with
  | none => exact fun v h => nomatch h
  | some x => exact ⟨rfl, fun v h => (Option.some.inj h).ge⟩

theorem isMin_value (o : Option Int) : isMin (fun v => o = some v) o := by
  cases o with
  | none => exact fun v h => nomatch h
  | some x => exact ⟨rfl, fun v h => (Option.some.inj h).le⟩

theorem isMax_maxValue (xs : List Chan) : isMax (fun v => ∃ x ∈ xs, x.value = some v) (maxValue xs) := isMax_foldl fun _ _ => isMax_value _
theorem isMin_minValue (xs : List Chan) : isMin (fun v => ∃ x ∈ xs, x.value = some v) (minValue xs) := isMin_foldl fun _ _ => isMin_value _

/-! ## The in-service modules -/

theorem countNodes_eq (f : Nat → Bool) : countNodes f = ringAddrs.countP f := by
  rw [countNodes, ringAddrs, List.countP_map, List.countP_eq_length_filter]
  rfl

theorem inServiceModules_eq (s : State) : inServiceModules s = ringAddrs.filterMap fun a => (inServiceRec s a).map fun m => ((cfgOf s a).zone, m) := by
  unfold inServiceModules inServiceRec
  congr 1
  funext a
  split <;> split_ifs <;> simp [*]

theorem mem_inServiceModules (s : State) (z : Nat) (m : ModuleRec) :
    (z, m) ∈ inServiceModules s ↔ ∃ a, a ≤ 40 ∧ inServiceRec s a = some m ∧ (cfgOf s a).zone = z := by
  have hzero : inServiceRec s 0 = none := by unfold inServiceRec; split <;> rfl
  simp only [inServiceModules_eq, List.mem_filterMap, mem_ringAddrs, Option.map_eq_some_iff, Prod.mk.injEq]
  constructor
  · rintro ⟨a, ha, m', hm, hz, rfl⟩
    exact ⟨a, ha.2, hm, hz⟩
  · rintro ⟨a, ha, hm, hz⟩
    have hne : a ≠ 0 := fun h => by rw [h, hzero] at hm; cases hm
    exact ⟨a, ⟨by omega, ha⟩, m, hm, hz, rfl⟩

/-- The records of the in-service modules. -/
def inServiceRecs (s : State) : List ModuleRec := (inServiceModules s).map Prod.snd

theorem mem_inServiceRecs (s : State) (m : ModuleRec) : m ∈ inServiceRecs s ↔ ∃ a, a ≤ 40 ∧ inServiceRec s a = some m := by
  simp only [inServiceRecs, List.mem_map, Prod.exists, exists_eq_right, mem_inServiceModules]
  constructor
  · rintro ⟨z, a, ha, hm, -⟩
    exact ⟨a, ha, hm⟩
  · rintro ⟨a, ha, hm⟩
    exact ⟨_, a, ha, hm, rfl⟩

theorem countP_inServiceModules (s : State) (p : Nat × ModuleRec → Bool) :
    (inServiceModules s).countP p = countNodes fun a => (inServiceRec s a).any fun m => p ((cfgOf s a).zone, m) := by
  rw [inServiceModules_eq, countNodes_eq, List.countP_filterMap]
  congr 1
  funext a
  cases inServiceRec s a <;> rfl

theorem countP_inServiceRecs (s : State) (p : ModuleRec → Bool) : (inServiceRecs s).countP p = countNodes fun a => (inServiceRec s a).any p := by
  rw [inServiceRecs, List.countP_map, countP_inServiceModules]; rfl

/-- The records of the in-service modules of a zone. -/
def zoneRecs (s : State) (z : Nat) : List ModuleRec := ((inServiceModules s).filter fun x => x.1 == z).map Prod.snd

theorem mem_zoneRecs (s : State) (z : Nat) (m : ModuleRec) :
    m ∈ zoneRecs s z ↔ ∃ a, a ≤ 40 ∧ inServiceRec s a = some m ∧ (cfgOf s a).zone = z := by
  simp only [zoneRecs, List.mem_map, List.mem_filter, Prod.exists, exists_eq_right, beq_iff_eq, mem_inServiceModules]

theorem countP_zoneRecs (s : State) (z : Nat) (p : ModuleRec → Bool) :
    (zoneRecs s z).countP p = countNodes fun a => (inServiceRec s a).any fun m => (cfgOf s a).zone == z && p m := by
  rw [zoneRecs, List.countP_map, List.countP_filter, countP_inServiceModules]
  simp only [Function.comp, Bool.and_comm]

/-- A condition that some present channel of some record shows. -/
theorem any_shows {l : List ModuleRec} {P : ModuleRec → Prop} (hl : ∀ m, m ∈ l ↔ P m) (c : Cond) :
    l.any (·.shows c) = true ↔ ∃ m x, P m ∧ x ∈ m.cells ++ m.temps ∧ x.cond = c := by
  simp only [List.any_eq_true, ModuleRec.shows, beq_iff_eq, hl, exists_and_left]

theorem isMax_over {l : List ModuleRec} {P : ModuleRec → Prop} (hl : ∀ m, m ∈ l ↔ P m) (f : ModuleRec → List Chan) :
    isMax (fun v => ∃ m x, P m ∧ x ∈ f m ∧ x.value = some v) (l.foldl (fun a m => optMax a (maxValue (f m))) none) := by
  have h := isMax_foldl (l := l) fun m _ => isMax_maxValue (f m)
  simpa only [hl, exists_and_left] using h

theorem isMin_over {l : List ModuleRec} {P : ModuleRec → Prop} (hl : ∀ m, m ∈ l ↔ P m) (f : ModuleRec → List Chan) :
    isMin (fun v => ∃ m x, P m ∧ x ∈ f m ∧ x.value = some v) (l.foldl (fun a m => optMin a (minValue (f m))) none) := by
  have h := isMin_foldl (l := l) fun m _ => isMin_minValue (f m)
  simpa only [hl, exists_and_left] using h

/-! ## The summary -/

/-- What R43 says of a zone part. -/
structure ZonePartOf (recs : Nat → Option ModuleRec) (cfgs : Nat → NodeCfg) (z : Nat) (p : ZoneSummary) : Prop where
  hottest : isMax (fun v => ∃ m, (∃ a, a ≤ 40 ∧ recs a = some m ∧ (cfgs a).zone = z) ∧ m.hottest = some v) p.hottest
  contributing : p.contributing = countNodes fun a => (recs a).any fun m => (cfgs a).zone == z && m.hottest.isSome
  runaway : p.runaway = true ↔ ∃ m, (∃ a, a ≤ 40 ∧ recs a = some m ∧ (cfgs a).zone = z) ∧ m.runaway = true
  otTrip : p.otTrip = true ↔ ∃ m x, (∃ a, a ≤ 40 ∧ recs a = some m ∧ (cfgs a).zone = z) ∧ x ∈ m.temps ∧ x.cond = .otTrip

theorem zonePart_of (s : State) (z : Nat) : ZonePartOf (inServiceRec s) (cfgOf s) z (zonePart (inServiceModules s) z) := by
  have hmem := mem_zoneRecs s z
  refine ⟨?_, ?_, ?_, ?_⟩
  · have hmax := isMax_foldl (l := zoneRecs s z) fun m _ => isMax_value m.hottest
    simp only [hmem] at hmax
    exact hmax
  · rw [← countP_zoneRecs, List.countP_eq_length_filter]; rfl
  · have hany : (zonePart (inServiceModules s) z).runaway = (zoneRecs s z).any (·.runaway) := rfl
    simp only [hany, List.any_eq_true, hmem]
  · have hany : (zonePart (inServiceModules s) z).otTrip = (zoneRecs s z).any fun m => m.temps.any fun x => x.cond == .otTrip := rfl
    simp only [hany, List.any_eq_true, hmem, beq_iff_eq, exists_and_left]

/-- What R42 and R43 say of a Bay Summary. -/
structure SummaryOf (recs : Nat → Option ModuleRec) (cfgs : Nat → NodeCfg) (b : BaySummary) : Prop where
  inService : b.inService = countNodes fun a => (recs a).isSome
  counts : ∀ c, c < 7 → b.counts.getD c 0 = countNodes fun a => (recs a).any fun m => m.cond.code == c
  vmax : isMax (fun v => ∃ m x, (∃ a, a ≤ 40 ∧ recs a = some m) ∧ x ∈ m.cells ∧ x.value = some v) b.vmax
  vmin : isMin (fun v => ∃ m x, (∃ a, a ≤ 40 ∧ recs a = some m) ∧ x ∈ m.cells ∧ x.value = some v) b.vmin
  tmax : isMax (fun v => ∃ m x, (∃ a, a ≤ 40 ∧ recs a = some m) ∧ x ∈ m.temps ∧ x.value = some v) b.tmax
  tmin : isMin (fun v => ∃ m x, (∃ a, a ≤ 40 ∧ recs a = some m) ∧ x ∈ m.temps ∧ x.value = some v) b.tmin
  anyOv : b.anyOv = true ↔ ∃ m x, (∃ a, a ≤ 40 ∧ recs a = some m) ∧ x ∈ m.cells ++ m.temps ∧ x.cond = .ovTrip
  anyUv : b.anyUv = true ↔ ∃ m x, (∃ a, a ≤ 40 ∧ recs a = some m) ∧ x ∈ m.cells ++ m.temps ∧ x.cond = .uvTrip
  anyOt : b.anyOt = true ↔ ∃ m x, (∃ a, a ≤ 40 ∧ recs a = some m) ∧ x ∈ m.cells ++ m.temps ∧ x.cond = .otTrip
  anyCold : b.anyCold = true ↔ ∃ m x, (∃ a, a ≤ 40 ∧ recs a = some m) ∧ x ∈ m.cells ++ m.temps ∧ x.cond = .coldInhibit
  anySf : b.anySf = true ↔ ∃ m x, (∃ a, a ≤ 40 ∧ recs a = some m) ∧ x ∈ m.cells ++ m.temps ∧ x.cond = .sensorFault
  anyRunaway : b.anyRunaway = true ↔ ∃ m, (∃ a, a ≤ 40 ∧ recs a = some m) ∧ m.runaway = true
  zones : ∀ z, z < 4 → ZonePartOf recs cfgs z (b.zones.getD z freshZoneSummary)

theorem composeSummary_of (round elapsed : Nat) (s : State) : SummaryOf (inServiceRec s) (cfgOf s) (composeSummary round elapsed s) where
  inService := by
    have hlen := (congrFun List.countP_true (inServiceRecs s)).symm.trans (countP_inServiceRecs s _)
    have hsome : (fun a => (inServiceRec s a).any fun _ => true) = fun a => (inServiceRec s a).isSome := by
      funext a; cases inServiceRec s a <;> rfl
    rwa [hsome] at hlen
  counts c hc := by
    have hcount : (composeSummary round elapsed s).counts = (List.range 7).map fun c => ((inServiceRecs s).filter fun m => m.cond.code == c).length := rfl
    rw [hcount, List.getD_eq_getElem?_getD, List.getElem?_map, List.getElem?_range hc, ← countP_inServiceRecs, List.countP_eq_length_filter]
    rfl
  vmax := isMax_over (mem_inServiceRecs s) _
  vmin := isMin_over (mem_inServiceRecs s) _
  tmax := isMax_over (mem_inServiceRecs s) _
  tmin := isMin_over (mem_inServiceRecs s) _
  anyOv := any_shows (mem_inServiceRecs s) _
  anyUv := any_shows (mem_inServiceRecs s) _
  anyOt := any_shows (mem_inServiceRecs s) _
  anyCold := any_shows (mem_inServiceRecs s) _
  anySf := any_shows (mem_inServiceRecs s) _
  anyRunaway := by
    have hany : (composeSummary round elapsed s).anyRunaway = (inServiceRecs s).any (·.runaway) := rfl
    simp only [hany, List.any_eq_true, mem_inServiceRecs]
  zones z hz := by
    have hzones : (composeSummary round elapsed s).zones = (List.range 4).map (zonePart (inServiceModules s)) := rfl
    rw [hzones, List.getD_eq_getElem?_getD, List.getElem?_map, List.getElem?_range hz]
    exact zonePart_of s z

/-- The cell picture (R44). -/
theorem composeSummary_picture (round elapsed : Nat) (s : State) : (composeSummary round elapsed s).picture = true ↔
    s.cell.summary.picture = true ∨ ∀ a ∈ s.mgmt.ringTables.poll, (cfgOf s a).role = .mod →
      (liveOf s a).state = .excluded ∨ (liveOf s a).state = .silent ∨ ∃ m, recOf s a = some m ∧ m.heard = true := by
  have hpicture : (composeSummary round elapsed s).picture = (s.cell.summary.picture || s.mgmt.ringTables.poll.all (heardOrSilent s)) := rfl
  have hheard (a : Nat) : heardOrSilent s a = true ↔ ((cfgOf s a).role = .mod →
      (liveOf s a).state = .excluded ∨ (liveOf s a).state = .silent ∨ ∃ m, recOf s a = some m ∧ m.heard = true) := by
    unfold heardOrSilent
    cases recOf s a <;> simp [or_assoc, imp_iff_not_or]
  simp only [hpicture, Bool.or_eq_true, List.all_eq_true, hheard]

end Sys2Proof.Machine
end

section
/-! The round end (R15, R20, R39 to R44, R83, R186): the application, the work of the Cell Supervisor, the reactions to the Bay Summary, and the next round. -/

namespace Sys2Proof.Machine

/-! ## The Cell Supervisor (R39 to R44) -/

/-- The round-end work on the Module Records, each by the state and the profile of its address. -/
theorem modulesRoundEnd_records (s : State) :
    modulesRoundEnd s = { s with cell := (modulesRoundEnd s).cell, link := (modulesRoundEnd s).link } ∧
      ∀ a m, 1 ≤ a → a ≤ 40 → recOf s a = some m → ∃ m', recOf (modulesRoundEnd s) a = some { m' with cond := moduleCond m' } ∧
        m' = recRoundEnd ((liveOf s a).state == .inService) (profileOf s a) m := by
  obtain ⟨hframe, -, hrecs⟩ := foldl_changeRec (g := fun t a => recRoundEnd ((liveOf t a).state == .inService) (profileOf t a)) (s := s)
    (fun t hr hm => by funext a; rw [profileOf_congr hm, liveOf, hr, liveOf]) ringAddrs_nodup
  exact ⟨hframe, fun a m hlo hhi hm => ⟨_, hrecs a (mem_ringAddrs.mpr ⟨hlo, hhi⟩) m hm, rfl⟩⟩

theorem modulesRoundEnd_summary (s : State) : (modulesRoundEnd s).cell.summary = s.cell.summary := by
  have hstep (a : Nat) (f : ModuleRec → ModuleRec) (x : State) : (changeRec a f x).cell.summary = x.cell.summary := by
    unfold changeRec
    split <;> simp
  unfold modulesRoundEnd
  exact foldl_keeps (fun x : State => x.cell.summary) _ (fun x a => hstep a _ x) ringAddrs s

/-- What the Cell Supervisor leaves at a round end. -/
structure CellEnded (round elapsed : Nat) (s t : State) : Prop where
  frame : t = { s with cell := t.cell, link := t.link }
  summary : SummaryOf (inServiceRec t) (cfgOf t) t.cell.summary
  round : t.cell.summary.round = round
  elapsed : t.cell.summary.elapsed = elapsed
  picture : t.cell.summary.picture = true ↔ s.cell.summary.picture = true ∨ ∀ a ∈ t.mgmt.ringTables.poll, (cfgOf t a).role = .mod →
    (liveOf t a).state = .excluded ∨ (liveOf t a).state = .silent ∨ ∃ m, recOf t a = some m ∧ m.heard = true
  rateAt : t.link.rateAt = s.link.rateAt
  records : ∀ a m, 1 ≤ a → a ≤ 40 → recOf s a = some m → ∃ m', recOf t a = some { m' with cond := moduleCond m' } ∧
    m' = recRoundEnd ((liveOf s a).state == .inService) (profileOf s a) m

theorem modulesRoundEnd_rateAt (s : State) : (modulesRoundEnd s).link.rateAt = s.link.rateAt := by
  unfold modulesRoundEnd
  exact foldl_keeps (fun x : State => x.link.rateAt) _ (fun x a => congrArg Fixed.rateAt (coarse_changeRec a _ x)) ringAddrs s

theorem inServiceRec_congr {s t : State} (hr : t.ring.nodes = s.ring.nodes) (hc : t.cell.recs = s.cell.recs) : inServiceRec t = inServiceRec s := by
  funext a
  have hlive : liveOf t a = liveOf s a := by simp only [liveOf, hr]
  have hrec : recOf t a = recOf s a := by
    cases a with
    | zero => rfl
    | succ k => simp only [recOf, hc]
  rw [inServiceRec, hlive, hrec, inServiceRec]

theorem cfgOf_congr {s t : State} (hm : t.mgmt.ringTables = s.mgmt.ringTables) : cfgOf t = cfgOf s := by
  funext a; simp only [cfgOf, hm]

theorem cellRoundEnd_ended (round elapsed : Nat) (s : State) : CellEnded round elapsed s (cellRoundEnd round elapsed s) := by
  obtain ⟨hframe, hrecs⟩ := modulesRoundEnd_records s
  have hpicture := modulesRoundEnd_summary s
  have hrate := modulesRoundEnd_rateAt s
  unfold cellRoundEnd
  generalize modulesRoundEnd s = u at *
  have hof := composeSummary_of round elapsed u
  have hpic := composeSummary_picture round elapsed u
  have hround : (composeSummary round elapsed u).round = round ∧ (composeSummary round elapsed u).elapsed = elapsed := ⟨rfl, rfl⟩
  dsimp only
  generalize composeSummary round elapsed u = b at *
  generalize (!u.cell.summary.picture && b.picture) = told
  have hcell : (raiseIf told (nCellPicture b.inService) (u.onCell fun x => { x with summary := b })).cell = { u.cell with summary := b } := by simp
  have hring : (raiseIf told (nCellPicture b.inService) (u.onCell fun x => { x with summary := b })).ring = u.ring := by simp
  have hmgmt : (raiseIf told (nCellPicture b.inService) (u.onCell fun x => { x with summary := b })).mgmt = u.mgmt := by simp
  have hlink : (raiseIf told (nCellPicture b.inService) (u.onCell fun x => { x with summary := b })).link.rateAt = u.link.rateAt :=
    congrArg Fixed.rateAt (fixed_raiseIf told _ (u.onCell fun x => { x with summary := b }))
  have hshape : raiseIf told (nCellPicture b.inService) (u.onCell fun x => { x with summary := b }) =
      { u with cell := (raiseIf told (nCellPicture b.inService) (u.onCell fun x => { x with summary := b })).cell,
               link := (raiseIf told (nCellPicture b.inService) (u.onCell fun x => { x with summary := b })).link } := by
    apply State.eq_of_fields <;> simp
  generalize raiseIf told (nCellPicture b.inService) (u.onCell fun x => { x with summary := b }) = t at *
  have hcfg : cfgOf t = cfgOf u := cfgOf_congr (congrArg Mgmt.ringTables hmgmt)
  have hrecOf (a : Nat) : recOf t a = recOf u a := by cases a <;> simp only [recOf, hcell]
  have hlive (a : Nat) : liveOf t a = liveOf u a := by simp only [liveOf, hring]
  refine ⟨?_, ?_, ?_, ?_, ?_, hlink.trans hrate, fun a m hlo hhi hm => ?_⟩
  · rw [hframe] at hshape; exact hshape
  · rw [inServiceRec_congr (congrArg Ring.nodes hring) (by rw [hcell]), hcfg, hcell]; exact hof
  · rw [hcell]; exact hround.1
  · rw [hcell]; exact hround.2
  · simp only [hcell, hmgmt, hcfg, hlive, hrecOf, ← hpicture]; exact hpic
  · rw [hrecOf]; exact hrecs a m hlo hhi hm

/-! ## The reactions to the summary (R50, R85) -/

/-- The outlet thresholds in use in a zone. -/
theorem thresholds_of {s t : State} (h : (fixed t).thresholds = (fixed s).thresholds) (z : Nat) :
    (zoneLive t z).warn = (zoneLive s z).warn ∧ (zoneLive t z).trip = (zoneLive s z).trip := by
  have hlen : t.cool.zones.length = s.cool.zones.length := by simpa [fixed] using congrArg List.length h
  have hat := congrArg (·[z]?) h
  simp only [fixed, List.getElem?_map] at hat
  by_cases hz : z < s.cool.zones.length
  · simp only [List.getElem?_eq_getElem hz, List.getElem?_eq_getElem (hlen ▸ hz), Option.map_some, Option.some.injEq, Prod.mk.injEq] at hat
    simpa [zoneLive, hz, hlen] using hat
  · rw [zoneLive_default (by omega), zoneLive_default (by omega)]
    exact ⟨rfl, rfl⟩

/-- The zone uses the outlet thresholds of the Cooling Table (R83). -/
def thresholdsApplied (c : CoolingCfg) (z : Nat) (s : State) : Prop :=
  (zoneLive s z).warn = (zoneCfg c z).outletWarn ∧ (zoneLive s z).trip = (zoneCfg c z).outletTrip

theorem zoneView_live (b : BaySummary) (y : Nat) (s : State) (z : Nat) (hz : z < s.cool.zones.length) :
    (z = y → thresholdsApplied s.mgmt.ringTables.cooling z (zoneView b y s)) ∧ (z ≠ y → zoneLive (zoneView b y s) z = zoneLive s z) := by
  obtain ⟨f, hf, hset⟩ : ∃ f : ZoneLive → ZoneLive, (zoneView b y s).cool = modZone y f s.cool ∧ ∀ x, (f x).warn = (zoneCfg s.mgmt.ringTables.cooling y).outletWarn ∧
      (f x).trip = (zoneCfg s.mgmt.ringTables.cooling y).outletTrip := by
    refine ⟨_, by simp only [zoneView, raiseIf_cool, State.onCool_cool]; rfl, fun x => ⟨rfl, rfl⟩⟩
  have hlive : zoneLive (zoneView b y s) z = if z = y then f (zoneLive s z) else zoneLive s z := by
    rw [← zoneLive_modZone s y z f hz]
    simp only [zoneLive, hf, State.onCool_cool]
  refine ⟨fun h => ?_, fun h => by rw [hlive, if_neg h]⟩
  rw [if_pos h] at hlive
  rw [thresholdsApplied, hlive]
  subst h
  exact hset _

theorem zoneViews_thresholds (b : BaySummary) (s : State) (z : Nat) (hz : z < 4) (hl : z < s.cool.zones.length) :
    thresholdsApplied s.mgmt.ringTables.cooling z (zoneViews b s) := by
  have hfold (l : List Nat) (u : State) (hu : u.mgmt.ringTables.cooling = s.mgmt.ringTables.cooling) (hlen : u.cool.zones.length = s.cool.zones.length)
      (hset : z ∈ l ∨ thresholdsApplied s.mgmt.ringTables.cooling z u) :
      thresholdsApplied s.mgmt.ringTables.cooling z (l.foldl (fun x z => zoneView b z x) u) := by
    induction l generalizing u with
    | nil => exact hset.resolve_left (fun h => nomatch h)
    | cons y l ih =>
      obtain ⟨hhere, hthere⟩ := zoneView_live b y u z (hlen ▸ hl)
      refine ih _ (by rw [← hu]; unfold zoneView; simp) (by rw [← hlen]; unfold zoneView; simp [modZone]) ?_
      by_cases hy : z = y
      · exact .inr (hu ▸ hhere hy)
      · refine hset.imp (fun h => (List.mem_cons.mp h).resolve_left hy) fun h => ?_
        rw [thresholdsApplied, hthere hy]; exact h
  exact hfold _ s rfl rfl (.inl (List.mem_range.mpr hz))

/-- What no change of the cooling touches. -/
def Fixed.unset (x : Fixed) : Fixed := { x with thresholds := [] }

theorem unset_onCool (f : Cooling → Cooling) (s : State) : (fixed (s.onCool f)).unset = (fixed s).unset := rfl

/-- What a publication leaves of the fixed part, apart from the thresholds. -/
theorem fixed_published (b : BaySummary) (s : State) : fixed (published b s) = { fixed s with thresholds := (fixed (published b s)).thresholds } := by
  have hview (z : Nat) (x : State) : (fixed (zoneView b z x)).unset = (fixed x).unset := by
    simp only [zoneView, fixed_raiseIf, unset_onCool]
  have hviews : (fixed (zoneViews b s)).unset = (fixed s).unset := by
    unfold zoneViews
    exact foldl_keeps (fun x => (fixed x).unset) _ (fun x z => hview z x) (List.range 4) s
  have hpublished : (fixed (published b s)).unset = (fixed (zoneViews b s)).unset := by simp only [published, unset_onCool]
  generalize published b s = t at *
  exact congrArg (fun x : Fixed => { x with thresholds := (fixed t).thresholds }) (hpublished.trans hviews)

theorem published_thresholds (b : BaySummary) (s : State) (z : Nat) (hz : z < 4) (hl : z < s.cool.zones.length) :
    thresholdsApplied s.mgmt.ringTables.cooling z (published b s) := by
  have h := zoneViews_thresholds b s z hz hl
  have hcounted : (zoneLive (published b s) z).warn = (zoneLive (zoneViews b s) z).warn ∧ (zoneLive (published b s) z).trip = (zoneLive (zoneViews b s) z).trip := by
    refine thresholds_of ?_ z
    have hzones : (published b s).cool.zones = (zoneViews b s).cool.zones.mapIdx fun z x => { x with counted := zoneHasModule (zoneViews b s) z } := by
      rw [published_cool]
    simp only [fixed, hzones]
    refine List.ext_getElem (by simp) fun i hi hi' => ?_
    simp only [List.getElem_map, List.getElem_mapIdx]
  exact ⟨hcounted.1.trans h.1, hcounted.2.trans h.2⟩

/-- What the readers of the summary leave. -/
structure Reacted (s t : State) : Prop where
  frame : fixed t = { fixed s with lastRound := s.cell.summary.round, thresholds := (fixed t).thresholds }
  thresholds : ∀ z, z < 4 → z < s.cool.zones.length → thresholdsApplied s.mgmt.ringTables.cooling z t

theorem summaryReactions_reacted (s : State) : Reacted s (summaryReactions s) := by
  have henv : fixed (envelopeCompute s.cell.summary s.cool.bay s) = { fixed s with lastRound := s.cell.summary.round } := by
    have hrate : (envelopeCompute s.cell.summary s.cool.bay s).link.rateAt = s.link.rateAt := by
      have h : (fixed (envelopeCompute s.cell.summary s.cool.bay s)).rateAt = s.link.rateAt := by
        simp only [envelopeCompute, fixed_setLimits, fixed_raiseAll]
        rfl
      exact h
    rw [envelopeCompute_frame, fixed]
    simp only [hrate, envelopeCompute_env]
    rfl
  have hframe := envelopeCompute_frame s.cell.summary s.cool.bay s
  unfold summaryReactions
  dsimp only
  generalize envelopeCompute s.cell.summary s.cool.bay s = e at *
  have hzones : e.cool = s.cool := by rw [hframe]
  have htables : e.mgmt = s.mgmt := by rw [hframe]
  have hpass : fixed (fireEval false (coolingPass s.cell.summary e)) = fixed (published s.cell.summary e) := by
    rw [fixed_fireEval, coolingPass_eq, fixed_coolSettle]
  constructor
  · rw [hpass, fixed_published, henv]
  · intro z hz hl
    have h := published_thresholds s.cell.summary e z hz (hzones ▸ hl)
    have hsame := thresholds_of (congrArg Fixed.thresholds hpass) z
    rw [htables] at h
    exact ⟨hsame.1.trans h.1, hsame.2.trans h.2⟩

/-! ## The round end as a whole -/

/-- What a round end leaves before a due round starts. -/
structure RoundEnded (s t : State) : Prop where
  ring : t.ring = { (ringRoundEnded s).ring with nodes := t.ring.nodes, slot := t.ring.slot, broken := t.ring.broken }
  now : t.now = s.now
  phase : t.phase = s.phase
  store : t.store = s.store
  pending : t.pending = s.pending
  elapsed : t.cell.summary.elapsed = toMs (s.now - s.ring.lastEnd.getD s.ring.roundStart)
  round : t.cell.summary.round = s.ring.round
  lastRound : t.env.lastRound = s.ring.round
  unstaged : s.mgmt.ringStaged = [] → t.mgmt.ringTables = s.mgmt.ringTables ∧ t.mgmt.ringGen = s.mgmt.ringGen
  staged : s.mgmt.ringStaged ≠ [] → t.mgmt.ringTables = s.mgmt.ringStaged.foldl applyRing s.mgmt.ringTables ∧ t.mgmt.ringStaged = [] ∧
    t.mgmt.ringGen = nextGen s.mgmt.ringGen
  thresholds : ∀ z, z < 4 → z < s.cool.zones.length → thresholdsApplied t.mgmt.ringTables.cooling z t
  rateAt : t.link.rateAt = if writtenRate s.mgmt.ringStaged then some s.now else s.link.rateAt
  summary : SummaryOf (inServiceRec t) (cfgOf t) t.cell.summary
  picture : t.cell.summary.picture = true ↔ s.cell.summary.picture = true ∨ ∀ a ∈ t.mgmt.ringTables.poll, (cfgOf t a).role = .mod →
    (liveOf t a).state = .excluded ∨ (liveOf t a).state = .silent ∨ ∃ m, recOf t a = some m ∧ m.heard = true
  records : s.mgmt.ringStaged = [] → ∀ a m, 1 ≤ a → a ≤ 40 → recOf s a = some m → ∃ m', recOf t a = some { m' with cond := moduleCond m' } ∧
    m' = recRoundEnd ((liveOf s a).state == .inService) (profileOf s a) m

theorem roundEnd_ended (s : State) : RoundEnded s (forwardTick (summaryReactions (cellRoundEnd s.ring.round
    (toMs (s.now - s.ring.lastEnd.getD s.ring.roundStart)) (applyRingGroup (ringRoundEnded s))))) := by
  have happlied := applyRingGroup_applied (ringRoundEnded s)
  have hstart : ringRoundEnded s = { s with ring := (ringRoundEnded s).ring } := rfl
  generalize applyRingGroup (ringRoundEnded s) = v at *
  have hcell := cellRoundEnd_ended s.ring.round (toMs (s.now - s.ring.lastEnd.getD s.ring.roundStart)) v
  generalize cellRoundEnd s.ring.round (toMs (s.now - s.ring.lastEnd.getD s.ring.roundStart)) v = c at *
  have hreacted := summaryReactions_reacted c
  have htick := fixed_forwardTick (summaryReactions c)
  generalize summaryReactions c = w at *
  generalize forwardTick w = t at *
  have hframe : fixed t = { fixed c with lastRound := c.cell.summary.round, thresholds := (fixed t).thresholds } := by rw [htick]; exact hreacted.frame
  have htables : t.mgmt.ringTables = v.mgmt.ringTables := (congrArg Fixed.tables hframe).trans (by rw [hcell.frame]; rfl)
  have hstaged : t.mgmt.ringStaged = v.mgmt.ringStaged := (congrArg Fixed.staged hframe).trans (by rw [hcell.frame]; rfl)
  have hgen : t.mgmt.ringGen = v.mgmt.ringGen := (congrArg Fixed.gen hframe).trans (by rw [hcell.frame]; rfl)
  have htcell : t.cell = c.cell := congrArg Fixed.cell hframe
  have hnodes : t.ring.nodes = c.ring.nodes := congrArg (fun x => x.ring.nodes) hframe
  have hring : t.ring = { v.ring with slot := t.ring.slot, broken := t.ring.broken } := by
    have h : { t.ring with slot := none, broken := false } = { c.ring with slot := none, broken := false } := congrArg Fixed.ring hframe
    rw [show c.ring = v.ring by rw [hcell.frame]] at h
    exact congrArg (fun r : Ring => { r with slot := t.ring.slot, broken := t.ring.broken }) h
  have hvring : v.ring = { (ringRoundEnded s).ring with nodes := v.ring.nodes, slot := v.ring.slot, broken := v.ring.broken } := by
    have h : { v.ring with slot := none, broken := false, nodes := [] } = { (ringRoundEnded s).ring with slot := none, broken := false, nodes := [] } :=
      congrArg Fixed.ring happlied.coarse
    exact congrArg (fun r : Ring => { r with slot := v.ring.slot, broken := v.ring.broken, nodes := v.ring.nodes }) h
  have hrate : t.link.rateAt = v.link.rateAt := (congrArg Fixed.rateAt hframe).trans hcell.rateAt
  have hlive : liveOf t = liveOf c := by funext a; simp only [liveOf, hnodes]
  have hcfg : cfgOf t = cfgOf c := cfgOf_congr (htables.trans (by rw [hcell.frame]))
  have hrec : recOf t = recOf c := by
    funext a
    cases a with
    | zero => rfl
    | succ k => simp only [recOf, htcell]
  have hin : inServiceRec t = inServiceRec c := inServiceRec_congr hnodes (by rw [htcell])
  constructor
  case ring => rw [hring, hvring]
  case now => exact (congrArg Fixed.now hframe).trans ((by rw [hcell.frame] : c.now = v.now).trans (congrArg Fixed.now happlied.coarse))
  case phase => exact (congrArg Fixed.phase hframe).trans ((by rw [hcell.frame] : c.phase = v.phase).trans (congrArg Fixed.phase happlied.coarse))
  case store => exact (congrArg Fixed.store hframe).trans ((by rw [hcell.frame] : c.store = v.store).trans (congrArg Fixed.store happlied.coarse))
  case pending => exact (congrArg Fixed.pending hframe).trans ((by rw [hcell.frame] : c.pending = v.pending).trans (congrArg Fixed.pending happlied.coarse))
  case elapsed => rw [htcell]; exact hcell.elapsed
  case round => rw [htcell]; exact hcell.round
  case lastRound => exact (congrArg Fixed.lastRound hframe).trans hcell.round
  case unstaged =>
    intro h
    have hsame : v = ringRoundEnded s := happlied.same h
    rw [htables, hgen, hsame]
    exact ⟨rfl, rfl⟩
  case staged =>
    intro h
    rw [htables, hstaged, hgen]
    exact happlied.tables h
  case thresholds =>
    intro z hz hl
    have hlen : c.cool.zones.length = s.cool.zones.length := by
      have h : v.cool.zones.map (fun z => (z.warn, z.trip)) = s.cool.zones.map fun z => (z.warn, z.trip) := congrArg Fixed.thresholds happlied.coarse
      rw [show c.cool = v.cool by rw [hcell.frame]]
      simpa using congrArg List.length h
    have h := hreacted.thresholds z hz (hlen ▸ hl)
    have hsame := thresholds_of (congrArg Fixed.thresholds htick) z
    rw [thresholdsApplied, hsame.1, hsame.2, htables, ← show c.mgmt = v.mgmt by rw [hcell.frame]]
    exact h
  case rateAt => exact hrate.trans happlied.rate
  case summary => rw [hin, hcfg, htcell]; exact hcell.summary
  case picture =>
    have hwas : v.cell.summary.picture = s.cell.summary.picture := congrArg (fun x : Fixed => x.cell.summary.picture) happlied.coarse
    rw [htcell, htables, hcfg, hlive, hrec, ← hwas, ← show c.mgmt = v.mgmt by rw [hcell.frame]]
    exact hcell.picture
  case records =>
    intro h a m hlo hhi hm
    have hsame : v = ringRoundEnded s := happlied.same h
    have hstate : (liveOf v a).state = (liveOf s a).state ∧ profileOf v a = profileOf s a ∧ recOf v a = recOf s a := by
      rw [hsame]
      exact ⟨rfl, rfl, by cases a <;> rfl⟩
    rw [hrec, ← hstate.1, ← hstate.2.1]
    exact hcell.records a m hlo hhi (hstate.2.2.trans hm)

end Sys2Proof.Machine
end

section
/-! ROUND_END (O26). -/

namespace Sys2Proof.Machine

/-- The link once RING_BROKEN has been told at a change of the flag. -/
def brokenTold (t n : State) : Link :=
  if n.ring.broken = t.ring.broken then t.link else (raiseNotice (nRingBroken n.ring.broken) { t with ring := n.ring }).link

/-- The next round has started on `t`, with the notice of an overrun. -/
theorem nextRoundStarted_started (d : Nat) {t : State} (hdue : t.ring.fallenDue = true) : ∃ r : State, RoundStarted t r ∧
    (nextRoundStarted d t).ring = r.ring ∧
    nextRoundStarted d t = { t with ring := (nextRoundStarted d t).ring, link := (nextRoundStarted d t).link } ∧
    (nextRoundStarted d t).link = if t.ring.overrun = true
      then (raiseNotice (nRoundOverrun d) { t with ring := r.ring, link := brokenTold t r }).link else brokenTold t r := by
  have hn : nextRoundStarted d t = raiseIf t.ring.overrun (nRoundOverrun d) (roundStart t) := by rw [nextRoundStarted, if_pos hdue]
  have hstarted := roundStart_started t
  rw [hn]
  generalize roundStart t = r at *
  have hframe := hstarted.frame
  have htold : r.link = brokenTold t r := hstarted.told
  have hring : (raiseIf t.ring.overrun (nRoundOverrun d) r).ring = r.ring := by simp
  have hraise : raiseIf t.ring.overrun (nRoundOverrun d) r = { r with link := (raiseIf t.ring.overrun (nRoundOverrun d) r).link } := by
    apply State.eq_of_fields <;> simp
  refine ⟨r, hstarted, hring, ?_, ?_⟩
  · rw [hring]
    exact hraise.trans (congrArg (fun x : State => { x with link := (raiseIf t.ring.overrun (nRoundOverrun d) r).link }) hframe)
  · unfold raiseIf
    split
    · exact raiseNotice_link_congr _ (by rw [hframe]) (by rw [hframe]) (by rw [hframe]) htold
    · exact htold

theorem roundOver_iff (r : Ring) : roundOver r = true ↔ r.running = true ∧ r.seqA.phase = .done ∧ (r.splitEff ≠ 0 → r.seqB.phase = .done) := by
  simp [roundOver, joined, and_assoc, imp_iff_not_or]

/-- RUNAWAY and the history at a round end (R39, R40). -/
theorem recRoundEnd_describes (b : Bool) (p : Profile) (m : ModuleRec) : ∃ m', { recRoundEnd b p m with cond := moduleCond (recRoundEnd b p m) } = m' ∧
    m'.cells = m.cells ∧ m'.temps = m.temps ∧ m'.hottest = m.hottest ∧ m'.heard = m.heard ∧ m'.cond = moduleCond m' ∧
    (b = false ∨ m.hottest = none → m'.history = [] ∧ m'.runaway = m.runaway) ∧
    (∀ h, b = true → m.hottest = some h → m'.history = (m.history ++ [h]).drop (m.history.length + 1 - p.riseWindow) ∧
      (m'.runaway = true ↔ m.runaway = true ∨ (2 ≤ m'.history.length ∧ p.otWarn ≤ h ∧ ∃ o, m'.history.head? = some o ∧ p.riseLimit ≤ h - o))) := by
  refine ⟨_, rfl, ?_⟩
  cases hh : m.hottest with
  | none =>
    have he : recRoundEnd b p m = { m with history := [] } := by simp [recRoundEnd, hh]
    rw [he]
    exact ⟨rfl, rfl, hh, rfl, rfl, fun _ => ⟨rfl, rfl⟩, fun h _ hs => nomatch hs⟩
  | some t =>
    cases b with
    | false => exact ⟨rfl, rfl, hh, rfl, rfl, fun _ => ⟨rfl, rfl⟩, fun h hb => nomatch hb⟩
    | true =>
      have he : recRoundEnd true p m = { m with
          history := (m.history ++ [t]).drop (m.history.length + 1 - p.riseWindow)
          runaway := m.runaway || (decide (2 ≤ ((m.history ++ [t]).drop (m.history.length + 1 - p.riseWindow)).length) &&
            decide (p.riseLimit ≤ t - ((m.history ++ [t]).drop (m.history.length + 1 - p.riseWindow)).headD t) && decide (p.otWarn ≤ t)) } := by
        simp only [recRoundEnd, hh, List.length_append, List.length_singleton]
      rw [he]
      refine ⟨rfl, rfl, hh, rfl, rfl, fun h => by simp at h, fun h _ ht => ?_⟩
      obtain rfl := Option.some.inj ht
      refine ⟨rfl, ?_⟩
      dsimp only
      cases (m.history ++ [t]).drop (m.history.length + 1 - p.riseWindow) with
      | nil => simp
      | cons o l => simp [and_comm, and_assoc]

/-- The round that starts at a round end (R8, R13, R14, R20). -/
theorem roundEnd_next {s t r : State} (hended : RoundEnded s t) (hr : RoundStarted t r) {x : Ring} (hx : x = r.ring) :
    x.round = (s.ring.round + 1) % 65536 ∧ x.running = true ∧ x.roundStart = s.now ∧ x.fallenDue = false ∧
      x.overrun = false ∧ x.dueAt = some (s.now + t.mgmt.ringTables.interval * 1000) ∧ x.lastEnd = some s.now ∧
      x.lastEndRound = s.ring.round ∧ x.slot = t.ring.slot ∧ x.downQueue = t.ring.downQueue ∧
      x.splitEff = t.ring.splitReq ∧ x.splitPending = false ∧
      (∀ y, y = x.portA ∨ y = x.portB → (y.tx.map (·.frame)).getLast? = some ⟨63, 0, kSync,
        BitVec.ofNat 8 (if t.ring.splitPending then nextCount t.ring.count else t.ring.count), encU16 x.round⟩) ∧
      x.seqA.phase = .sync ∧
      (x.splitEff = 0 → x.seqA.rest = (t.mgmt.ringTables.poll.filter fun a => (liveOf t a).state != .excluded) ∧ x.seqB = ⟨.idle, []⟩) ∧
      (x.splitEff ≠ 0 → x.seqB.phase = .sync ∧
        x.seqA.rest = ((t.mgmt.ringTables.poll.take (x.splitEff - 1)).filter fun a => (liveOf t a).state != .excluded) ∧
        x.seqB.rest = ((t.mgmt.ringTables.poll.drop (x.splitEff - 1)).filter fun a => (liveOf t a).state != .excluded)) := by
  subst hx
  have hround : r.ring.round = (s.ring.round + 1) % 65536 := by rw [hr.ring, hended.ring]; rfl
  have hsplit : r.ring.splitEff = t.ring.splitReq := by rw [hr.ring]
  refine ⟨hround, by rw [hr.ring], by rw [hr.ring]; exact hended.now, by rw [hr.ring], by rw [hr.ring], ?_, ?_, ?_, by rw [hr.ring], by rw [hr.ring],
    hsplit, by rw [hr.ring], ?_, by rw [hr.seqA], fun h => ?_, fun h => ?_⟩
  · rw [hr.ring, hended.now]; rfl
  · rw [hr.ring, hended.ring]; rfl
  · rw [hr.ring, hended.ring]; rfl
  · rintro y (rfl | rfl)
    · rw [hr.txA]; simp
    · rw [hr.txB]; simp
  · rw [hsplit] at h
    rw [hr.seqA, hr.seqB, if_pos h, if_pos h]
    exact ⟨rfl, rfl⟩
  · rw [hsplit] at h
    rw [hr.seqA, hr.seqB, if_neg h, if_neg h, hsplit]
    exact ⟨rfl, rfl, rfl⟩

theorem ringBrokenNow_iff (s : State) : ringBrokenNow s = true ↔
    s.ring.splitEff = 0 ∧ ∃ a, 1 ≤ a ∧ a ≤ 40 ∧ (liveOf s a).state = .inService ∧ (liveOf s a).side ≠ (cfgOf s a).home := by
  simp [ringBrokenNow, joined, mem_ringAddrs, and_assoc]

/-- Settles O26. -/
theorem roundEndPublishes : Obligations.RoundEndPublishes := by
  intro s hs hrun ha hb ended t
  have hexec : exec .roundEnd s = .next (nextRoundStarted (toMs (s.now - s.ring.roundStart)) t) :=
    (act_running _ hs).trans (congrArg _ ((whenDue_true _ _ ((roundOver_iff _).mpr ⟨hrun, ha, hb⟩)).trans (roundEnd_eq s)))
  have hended : RoundEnded s t := roundEnd_ended s
  clear_value t
  have hring : t.ring = { ended with nodes := t.ring.nodes, slot := t.ring.slot, broken := t.ring.broken } := hended.ring
  have hdue : t.ring.fallenDue = s.ring.fallenDue := by rw [hring]
  have hover : t.ring.overrun = s.ring.overrun := by rw [hring]
  refine ⟨_, hexec, fun h => ?_, fun h => ?_, hring, hended.now, hended.phase, hended.store, hended.pending, by rw [hring], by rw [hring], by rw [hring],
    by rw [hring], by rw [hring], by rw [hring], hended.round, hended.elapsed, hended.lastRound, hended.unstaged, hended.staged, hended.thresholds,
    fun h => ?_, fun h => ?_, ?_⟩
  · rw [nextRoundStarted, hdue, h]; rfl
  · obtain ⟨r, hr, hx, hframe, hlink⟩ := nextRoundStarted_started (toMs (s.now - s.ring.roundStart)) (hdue.trans h)
    generalize nextRoundStarted (toMs (s.now - s.ring.roundStart)) t = n at *
    obtain ⟨h1, h2, h3, h4, h5, h6, h7, h8, h9, h10, h11, h12, h13, h14, h15, h16⟩ := roundEnd_next hended hr hx
    refine ⟨hframe, h1, h2, h3, h4, h5, h6, h7, h8, h9, h10, h11, h12, h13, h14, h15, h16, ?_, ?_⟩
    · have hbroken : n.ring.broken = ringBrokenNow n := by
        have htables : n.mgmt.ringTables = r.mgmt.ringTables := by rw [hframe, hr.frame]
        rw [ringBrokenNow_congr (s := r) (t := n) (by rw [hx]) (by rw [hx]) htables, hx, hr.broken]
      rw [hbroken, ringBrokenNow_iff]
    · rw [hlink, hover, hx]; rfl
  · rw [hended.rateAt, if_pos ((writtenRate_iff _).mpr h)]
  · rw [hended.rateAt, if_neg fun hw => ((writtenRate_iff _).mp hw).elim h]
  · have hsum := hended.summary
    refine ⟨hsum.inService, hsum.counts, hsum.vmax, hsum.vmin, hsum.tmax, hsum.tmin, hsum.anyOv, hsum.anyUv, hsum.anyOt, hsum.anyCold, hsum.anySf,
      hsum.anyRunaway, fun z hz => ?_, hended.picture, fun h a m hlo hhi hm => ?_⟩
    · have hpart := hsum.zones z hz
      exact ⟨hpart.hottest, hpart.contributing, hpart.runaway, hpart.otTrip⟩
    · obtain ⟨m', hrec, he⟩ := hended.records h a m hlo hhi hm
      obtain ⟨m'', hcond, hcells, htemps, hhot, hheard, hc, hno, hyes⟩ := recRoundEnd_describes ((liveOf s a).state == .inService) (profileOf s a) m
      rw [he, hcond] at hrec
      refine ⟨m'', hrec, hcells, htemps, hhot, hheard, hc, fun h => hno (by simpa using h), fun h hin => hyes h (by simpa using hin)⟩

end Sys2Proof.Machine
end

section
/-! What an evaluation of the fire state leaves: the detectors, detection blind, the fire picture, the loop group's tables, and a Loop Master without a manual
script or a hold (R127, R128). -/

namespace Sys2Proof.Machine

/-- The loop group of the Management Unit. -/
def loopSide (s : State) : LoopTables × List LoopPart × Nat := (s.mgmt.loopTables, s.mgmt.loopStaged, s.mgmt.loopGen)

theorem loopSide_congr {s t : State} (h : t.mgmt = s.mgmt) : loopSide t = loopSide s := by rw [loopSide, h, loopSide]

/-- What an evaluation of the fire state leaves. -/
structure Watched where
  dets : List DetLive
  blind : List Bool
  picture : Bool
  loopGroup : LoopTables × List LoopPart × Nat

def watched (s : State) : Watched := ⟨s.fire.dets, s.fire.blind, s.fire.picture, loopSide s⟩

theorem watched_congr {s t : State} (hf : t.fire = s.fire) (hm : t.mgmt = s.mgmt) : watched t = watched s := by
  rw [watched, hf, loopSide_congr hm, watched]

theorem watched_mgmt {s t : State} (hf : t.fire = s.fire) (hm : loopSide t = loopSide s) : watched t = watched s := by
  rw [watched, hf, hm, watched]

@[simp] theorem watched_raiseNotice (n : Notice) (s : State) : watched (raiseNotice n s) = watched s := watched_congr (by simp) (by simp)
@[simp] theorem watched_raiseIf (b : Bool) (n : Notice) (s : State) : watched (raiseIf b n s) = watched s := watched_congr (by simp) (by simp)
@[simp] theorem watched_gateOnset (g : Nat) (s : State) : watched (gateOnset g s) = watched s := watched_congr (by simp) (by simp)
@[simp] theorem watched_gateEnd (g : Nat) (s : State) : watched (gateEnd g s) = watched s := watched_congr (by simp) (by simp)
@[simp] theorem watched_refreshLines (s : State) : watched (refreshLines s) = watched s := watched_congr (by simp) (by simp)
@[simp] theorem watched_loopClear (s : State) : watched (loopClear s).1 = watched s := watched_congr (by simp) (by simp)
@[simp] theorem watched_onCool (f : Cooling → Cooling) (s : State) : watched (s.onCool f) = watched s := rfl
@[simp] theorem watched_onLoop (f : Loop → Loop) (s : State) : watched (s.onLoop f) = watched s := rfl
/-- A change of the latch store alone. -/
theorem watched_latch {s t : State} (hf : t.fire = s.fire)
    (hm : t.mgmt = { s.mgmt with store := t.mgmt.store, latchWaiting := t.mgmt.latchWaiting, latchWriting := t.mgmt.latchWriting }) :
    watched t = watched s := watched_mgmt hf (by rw [loopSide, hm, loopSide])

@[simp] theorem watched_takeBay (c : Cause) (s : State) : watched (takeBay c s) = watched s := watched_latch (by simp) (takeBay_latch _ _)
@[simp] theorem watched_reformAll (s : State) : watched (reformAll s) = watched s := watched_latch (by simp) (reformAll_latch _)
@[simp] theorem watched_endForce (o : Nat) (s : State) : watched (endForce o s) = watched s := watched_congr (by simp) (by simp)

@[simp] theorem watched_reformOne (o : Nat) (s : State) : watched (reformOne o s) = watched s :=
  watched_latch (by simp) (by unfold reformOne; exact coolSettle_latch _ _ _)

@[simp] theorem watched_dropForce (s : State) (o : Nat) : watched (dropForce s o) = watched s := by
  unfold dropForce
  split
  · rfl
  · split <;> simp

@[simp] theorem watched_dropAllForces (s : State) : watched (dropAllForces s) = watched s := by
  rw [dropAllForces, watched_refreshLines]
  exact foldl_keeps watched _ (fun x o => watched_dropForce x o) (List.range 22) s

@[simp] theorem watched_abandonRestart (s : State) : watched (abandonRestart s) = watched s := by
  unfold abandonRestart
  split
  · rw [watched_raiseNotice]; rfl
  · rfl

/-! ## The fire state -/

@[simp] theorem watched_fireTo (new : FireState) (s : State) : watched (fireTo new s) = watched s := by
  have henter (d : Nat) (h : Bool) (x : State) : watched (x.onFire (fireEnter new d h x.now)) = watched x := rfl
  simp only [fireTo, leaveQuiet]
  split_ifs <;> simp [henter]

@[simp] theorem watched_expireCountdown (s : State) : watched (expireCountdown s) = watched s := by
  unfold expireCountdown; split <;> simp

@[simp] theorem watched_releaseTest (b : Bool) (s : State) : watched (releaseTest b s) = watched s := by
  simp only [releaseTest]
  split_ifs <;> simp

@[simp] theorem watched_holdFollow (s : State) : watched (holdFollow s) = watched s := by
  have hcount (c : Option Countdown) (x : State) : watched (x.onFire fun f => { f with countdown := c }) = watched x := rfl
  unfold holdFollow
  split
  · rfl
  · dsimp only
    split_ifs <;> simp [hcount]

@[simp] theorem watched_fireEval (b : Bool) (s : State) : watched (fireEval b s) = watched s := by
  unfold fireEval
  split
  · split_ifs <;> simp
  · split_ifs <;> simp
  · simp
  · simp only [pendingEval]
    split_ifs <;> simp
  · rfl

/-! ## A Loop Master with neither a manual script nor a hold -/

/-- Nothing that leaving QUIET ends. -/
def unheld (l : Loop) : Prop := l.manual = none ∧ l.hold = none

theorem loopClear_unheld {s : State} (h : unheld s.loop) : loopClear s = (s, 0) := by
  obtain ⟨hm, hh⟩ := h
  simp [loopClear, hm, hh]

theorem fireTo_loop {new : FireState} {s : State} (h : unheld s.loop) : (fireTo new s).loop = s.loop := by
  have hleave (x : State) (hx : unheld x.loop) : (leaveQuiet x).loop = x.loop := by
    rw [leaveQuiet, abandonRestart_loop, loopClear_unheld (by simpa using hx), dropAllForces_loop]
  simp only [fireTo, refreshLines_loop]
  split_ifs <;> simp [hleave, h]

theorem expireCountdown_loop {s : State} (h : unheld s.loop) : (expireCountdown s).loop = s.loop := by
  unfold expireCountdown
  split
  · exact fireTo_loop h
  · rfl

theorem releaseTest_loop (b : Bool) {s : State} (h : unheld s.loop) : (releaseTest b s).loop = s.loop := by
  have hpending : (fireTo .releasePending s).loop = s.loop := fireTo_loop h
  simp only [releaseTest]
  split_ifs
  · rfl
  · rw [expireCountdown_loop (hpending ▸ h), hpending]
  · exact hpending
  · simp

theorem fireEval_loop (b : Bool) {s : State} (h : unheld s.loop) : (fireEval b s).loop = s.loop := by
  have hto (new : FireState) : (fireTo new s).loop = s.loop := fireTo_loop h
  have halarm : (releaseTest true (fireTo .alarm s)).loop = s.loop := by rw [releaseTest_loop _ (hto _ ▸ h), hto]
  have hfollow : (holdFollow s).loop = s.loop := by
    have hexpire (n : Notice) (c : Option Countdown) :
        (expireCountdown (raiseNotice n (s.onFire fun f => { f with countdown := c }))).loop = s.loop := by
      rw [expireCountdown_loop (by simpa using h)]; simp
    unfold holdFollow
    split
    · rfl
    · dsimp only
      split
      · split
        · exact hexpire _ _
        · simp
      · rfl
  unfold fireEval
  split
  · split_ifs
    · exact halarm
    · exact hto _
    · rfl
  · split_ifs
    · exact halarm
    · rfl
    · exact hto _
  · exact releaseTest_loop _ h
  · simp only [pendingEval]
    split_ifs
    · exact hto _
    · rw [raiseNotice_loop]; exact hto _
    · exact hfollow
  · rfl

/-! ## A fire state that stays -/

theorem preAlarmSource_of_alarmSource {s : State} (h : alarmSource s = true) : preAlarmSource s = true := by
  simp only [alarmSource, List.any_eq_true, Bool.and_eq_true, detAlarm] at h
  obtain ⟨d, hd, ⟨hsup, halarm⟩, -⟩ := h
  simp only [preAlarmSource, Bool.or_eq_true, List.any_eq_true, Bool.and_eq_true]
  exact .inl ⟨d, hd, hsup, .inr halarm⟩

theorem fireEval_quiet {b : Bool} {s : State} (hs : s.fire.state = .quiet) (hp : preAlarmSource s = false) : fireEval b s = s := by
  have ha : alarmSource s = false := by
    by_contra h
    rw [preAlarmSource_of_alarmSource (by simpa using h)] at hp
    cases hp
  simp [fireEval, hs, ha, hp]

end Sys2Proof.Machine
end

section
/-! The Loop Master: what starts next, what a script does at its next step, a hand-over and the loop round end; LOOP_ROUND_DUE and LOOP_ROUND_START (O42). -/

namespace Sys2Proof.Machine

/-! ## What starts next (R108, R112) -/

theorem startNext_manual {s : State} {m : Manual} (ha : s.loop.act = .idle) (hh : s.loop.hold = none) (hm : s.loop.manual = some m) :
    startNext s = some (⟨.manual, m.steps, []⟩, s.onLoop fun l => { l with manual := some { m with running := true } }) := by
  simp [startNext, loopQuiet, ha, hh, hm]

theorem startNext_poll {s : State} {d : Nat} {ds : List Nat} (ha : s.loop.act = .idle) (hu : unheld s.loop) (hr : s.loop.running = true)
    (hd : s.loop.rest = d :: ds) : startNext s = some (⟨.polled d, s.mgmt.loopTables.scripts.getD (detCfg s d).script [], []⟩,
      s.onLoop fun l => { l with rest := ds, polled := l.polled ++ [d] }) := by
  simp [startNext, loopQuiet, ha, hu.1, hu.2, hr, hd]

theorem startNext_none {s : State} (hm : s.loop.manual = none) (hr : s.loop.running = false ∨ s.loop.rest = []) : startNext s = none := by
  unfold startNext
  split
  · rfl
  · rw [hm]
    obtain hr | hr := hr <;> simp [hr]

/-! ## The next step of a script (R107, R109) -/

theorem runOn_goOn {r : ScriptRun} {st : ScriptStep} (h : currentStep r = some st) (hl : st.lead ≠ .release) (n : Nat) (s : State) :
    runOn n r s = loopAct (.running r) s := by
  have hsettle : settle s.loop.bus r = .goOn := by simp [settle, h, hl]
  unfold runOn
  rw [hsettle]

theorem runOn_ended {r : ScriptRun} {e : ScriptEnd} {s : State} (h : settle s.loop.bus r = .ended e) (hnext : startNext (endScript e s) = none) (n : Nat) :
    runOn n r s = endScript e s := by
  unfold runOn
  rw [h]
  dsimp only
  rw [hnext]
  cases n <;> rfl

/-- The first step of a script goes to the bus. -/
theorem runOn_first {o : ScriptOwner} {st : ScriptStep} {ss : List ScriptStep} (hl : st.lead ≠ .release) (n : Nat) (s : State) :
    runOn n ⟨o, st :: ss, []⟩ s = s.onLoop fun l => { l with act := .running ⟨o, st :: ss, []⟩, actSince := s.now, signals := stepSignals o st } :=
  runOn_goOn rfl hl n s

theorem loopResume_none {s : State} (h : startNext s = none) : loopResume s = s := by rw [loopResume, h]

theorem loopResume_poll {s : State} {d : Nat} {ds : List Nat} {st : ScriptStep} {ss : List ScriptStep} (ha : s.loop.act = .idle) (hu : unheld s.loop)
    (hr : s.loop.running = true) (hd : s.loop.rest = d :: ds) (hscript : s.mgmt.loopTables.scripts.getD (detCfg s d).script [] = st :: ss)
    (hl : st.lead ≠ .release) : loopResume s = s.onLoop fun l => { l with
      rest := ds, polled := l.polled ++ [d], act := .running ⟨.polled d, st :: ss, []⟩, actSince := s.now, signals := stepSignals (.polled d) st } := by
  rw [loopResume, startNext_poll ha hu hr hd, hscript]
  exact runOn_first hl _ _

theorem loopResume_manual {s : State} {m : Manual} {st : ScriptStep} {ss : List ScriptStep} (ha : s.loop.act = .idle) (hh : s.loop.hold = none)
    (hm : s.loop.manual = some m) (hs : m.steps = st :: ss) (hl : st.lead ≠ .release) : loopResume s = s.onLoop fun l => { l with
      manual := some { m with running := true }, act := .running ⟨.manual, st :: ss, []⟩, actSince := s.now, signals := stepSignals .manual st } := by
  rw [loopResume, startNext_manual ha hh hm, hs]
  exact runOn_first hl _ _

/-! ## Hand-overs (R120 to R124) -/

theorem detLive_setDet (d : Nat) (l : DetLive) (s : State) (hd : d < s.fire.dets.length) : detLive (setDet d l s) d = l := by
  simp [detLive, setDet, hd]

theorem loopSide_watched {s t : State} (h : watched t = watched s) : loopSide t = loopSide s := congrArg Watched.loopGroup h

theorem detLive_watched {s t : State} (h : watched t = watched s) : detLive t = detLive s := by
  funext d
  have hdets : t.fire.dets = s.fire.dets := congrArg Watched.dets h
  rw [detLive, hdets, detLive]

theorem fireEval_blinds (b : Bool) {s : State} (h : blindsCurrent s) : blindsCurrent (fireEval b s) := by
  have hw := watched_fireEval b s
  have hf := fixed_fireEval b s
  exact blindsCurrent_congr (congrArg (fun x => x.ring.nodes) hf) (congrArg Fixed.tables hf) (congrArg (fun x => x.loopGroup.1) hw)
    (congrArg Watched.dets hw) (congrArg Watched.blind hw) h

/-- What a hand-over leaves (R120, R125, R127). -/
structure HandedOver (d : Nat) (l : DetLive) (s t : State) : Prop where
  loop : unheld s.loop → t.loop = s.loop
  loopGroup : loopSide t = loopSide s
  det : d < s.fire.dets.length → detLive t d = l
  blinds : blindsCurrent t
  now : t.now = s.now
  store : t.store = s.store

theorem detHandover_handed (d : Nat) (res : ScriptResult) (rs : List StepResult) (s : State) :
    HandedOver d (detNext (detCfg s d) res rs (detLive s d)) s (detHandover d res rs s) := by
  have hset := detLive_setDet d (detNext (detCfg s d) res rs (detLive s d)) s
  have hloop : (setDet d (detNext (detCfg s d) res rs (detLive s d)) s).loop = s.loop := by simp [setDet]
  have hmgmt : (setDet d (detNext (detCfg s d) res rs (detLive s d)) s).mgmt = s.mgmt := by simp [setDet]
  have hnow : (setDet d (detNext (detCfg s d) res rs (detLive s d)) s).now = s.now := by simp [setDet]
  have hstore : (setDet d (detNext (detCfg s d) res rs (detLive s d)) s).store = s.store := by simp [setDet]
  unfold detHandover
  generalize detNext (detCfg s d) res rs (detLive s d) = l at *
  generalize setDet d l s = u at *
  have hdets : detLive (fireEval false (detBlindEval u)) = detLive u := by
    rw [detLive_watched (watched_fireEval _ _)]
    funext e
    rw [detLive, detBlindEval_fire_dets, detLive]
  refine ⟨fun h => ?_, ?_, fun h => by rw [hdets]; exact hset h, fireEval_blinds _ (detBlindEval_current _), by simp [hnow], by simp [hstore]⟩
  · rw [fireEval_loop _ (by rw [detBlindEval_loop, hloop]; exact h), detBlindEval_loop, hloop]
  · rw [loopSide_watched (watched_fireEval _ _), loopSide_congr (detBlindEval_mgmt _), loopSide_congr hmgmt]

/-! ## The loop round end (R110, R126, R186) -/

/-- What the end of a loop round leaves. -/
structure LoopEnded (s t : State) : Prop where
  loop : unheld s.loop → t.loop = { s.loop with running := false, lastEnd := some s.now, lastEndRound := s.loop.round, lastElapsed := toMs (s.now - s.loop.lastEnd.getD s.loop.roundStart) }
  picture : s.loop.polled = [] → t.fire.picture = true
  same : s.mgmt.loopStaged = [] → t.fire.dets = s.fire.dets ∧ t.fire.blind = s.fire.blind ∧ t.mgmt = s.mgmt ∧ t.ring = s.ring
  now : t.now = s.now
  store : t.store = s.store

theorem firePictureTest_frame (s : State) : ∃ b, (firePictureTest s).fire = { s.fire with picture := b } ∧ (firePictureTest s).loop = s.loop ∧
    (firePictureTest s).mgmt = s.mgmt ∧ (firePictureTest s).ring = s.ring ∧ (firePictureTest s).now = s.now ∧ (firePictureTest s).store = s.store ∧
    (s.loop.polled = [] → b = true) := by
  unfold firePictureTest
  split
  · exact ⟨true, by simp, by simp, by simp, by simp, by simp, by simp, fun _ => rfl⟩
  · rename_i h
    refine ⟨s.fire.picture, rfl, rfl, rfl, rfl, rfl, rfl, fun hp => ?_⟩
    simpa [hp] using h

theorem detectorsTakeUp_frame (old : List DetCfg) (w : List Nat) (s : State) : (detectorsTakeUp old w s).loop = s.loop ∧
    (detectorsTakeUp old w s).fire.picture = s.fire.picture ∧ (detectorsTakeUp old w s).now = s.now ∧ (detectorsTakeUp old w s).store = s.store := by
  have hloop (d : Nat) (l : DetLive) (x : State) : (setDet d l x).loop = x.loop := by simp [setDet]
  have hpic (d : Nat) (l : DetLive) (x : State) : (setDet d l x).fire.picture = x.fire.picture := by simp [setDet]
  have hnow (d : Nat) (l : DetLive) (x : State) : (setDet d l x).now = x.now := by simp [setDet]
  have hstore (d : Nat) (l : DetLive) (x : State) : (setDet d l x).store = x.store := by simp [setDet]
  unfold detectorsTakeUp
  exact ⟨foldl_keeps State.loop _ (fun x d => hloop d _ x) (List.range 24) s, foldl_keeps (fun x : State => x.fire.picture) _ (fun x d => hpic d _ x) (List.range 24) s,
    foldl_keeps State.now _ (fun x d => hnow d _ x) (List.range 24) s, foldl_keeps State.store _ (fun x d => hstore d _ x) (List.range 24) s⟩

theorem applyLoopGroup_frame (s : State) : (unheld s.loop → (applyLoopGroup s).loop = s.loop) ∧ (applyLoopGroup s).fire.picture = s.fire.picture ∧
    (applyLoopGroup s).now = s.now ∧ (applyLoopGroup s).store = s.store ∧ (s.mgmt.loopStaged = [] → applyLoopGroup s = s) := by
  by_cases h : s.mgmt.loopStaged = []
  · have he : applyLoopGroup s = s := by simp [applyLoopGroup, h]
    rw [he]
    exact ⟨fun _ => rfl, rfl, rfl, rfl, fun _ => rfl⟩
  · simp only [applyLoopGroup, if_neg h, raiseNotice_loop, raiseNotice_fire, raiseNotice_now, raiseNotice_store, fireEval_now, fireEval_store,
      detBlindEval_now, detBlindEval_store]
    obtain ⟨hloop, hpic, hnow, hstore⟩ := detectorsTakeUp_frame s.mgmt.loopTables.detectors (writtenDetectors s.mgmt.loopStaged)
      (s.onMgmt fun m => { m with loopTables := pendingLoop m, loopStaged := [], loopGen := nextGen m.loopGen })
    generalize detectorsTakeUp s.mgmt.loopTables.detectors (writtenDetectors s.mgmt.loopStaged)
      (s.onMgmt fun m => { m with loopTables := pendingLoop m, loopStaged := [], loopGen := nextGen m.loopGen }) = u at *
    refine ⟨fun hu => ?_, ?_, hnow, hstore, fun he => absurd he h⟩
    · rw [fireEval_loop _ (by rw [detBlindEval_loop, hloop]; exact hu), detBlindEval_loop, hloop]; rfl
    · have hw (b : Bool) : (fireEval b (detBlindEval u)).fire.picture = (detBlindEval u).fire.picture := congrArg Watched.picture (watched_fireEval _ _)
      rw [hw, detBlindEval_fire_picture, hpic]; rfl

theorem loopRoundEnd_ended (s : State) : LoopEnded s (loopRoundEnd s) := by
  obtain ⟨l, hl⟩ : ∃ l : Loop, l = { s.loop with
      running := false, lastEnd := some s.now, lastEndRound := s.loop.round, lastElapsed := toMs (s.now - s.loop.lastEnd.getD s.loop.roundStart) } := ⟨_, rfl⟩
  have hend : loopRoundEnd s = applyLoopGroup (firePictureTest (s.onLoop fun _ => l)) := by rw [hl]; rfl
  obtain ⟨b, hfire, hloop, hmgmt, hring, hnow, hstore, hb⟩ := firePictureTest_frame (s.onLoop fun _ => l)
  rw [hend]
  generalize firePictureTest (s.onLoop fun _ => l) = u at *
  obtain ⟨hloop', hpic, hnow', hstore', hsame⟩ := applyLoopGroup_frame u
  refine ⟨fun h => ?_, fun h => ?_, fun h => ?_, hnow'.trans hnow, hstore'.trans hstore⟩
  · have hu : unheld u.loop := by rw [hloop]; subst hl; exact h
    rw [hloop' hu, hloop, State.onLoop_loop, hl]
  · rw [hpic, hfire]
    exact hb (by subst hl; exact h)
  · rw [hsame (by rw [hmgmt]; exact h), hfire, hmgmt, hring]
    exact ⟨rfl, rfl, rfl, rfl⟩

/-! ## Loop rounds (R108, R110) -/

theorem loopIdle_iff (l : Loop) : loopIdle l = true ↔ l.act = .idle ∧ l.running = false ∧ unheld l ∧ l.bus = .free := by
  have hquiet : loopQuiet l = true ↔ l.act = .idle := by unfold loopQuiet; split <;> simp_all
  simp [loopIdle, hquiet, unheld, busHeld, and_assoc]

/-- Settles O42. -/
theorem loopRounds : Obligations.LoopRounds := by
  refine ⟨fun s d hs hf hd hlate => ?_, fun s d ds st r hs hdue hidle hpolled hscript hlead => ?_, fun s hs hdue hidle hnone => ?_⟩
  · have hloopDue : loopDue s = true := by simp [loopDue, hf, hd, hlate]
    exact (act_running _ hs).trans (congrArg _ (whenDue_true _ _ hloopDue))
  · obtain ⟨hact, hrun, hunheld, hbus⟩ := (loopIdle_iff _).mp hidle
    refine (act_running _ hs).trans (congrArg _ ((whenDue_true _ _ (by rw [hdue, hidle]; rfl)).trans ?_))
    have hpoll : polledDetectors s = d :: ds := hpolled
    simp only [loopRoundStart, hpoll]
    rw [if_neg (by simp)]
    exact loopResume_poll (s := s.onLoop _) hact hunheld rfl rfl hscript hlead
  · obtain ⟨hact, hrun, hunheld, hbus⟩ := (loopIdle_iff _).mp hidle
    refine ⟨_, (act_running _ hs).trans (congrArg _ (whenDue_true _ _ (by rw [hdue, hidle]; rfl))), ?_⟩
    have hpoll : polledDetectors s = [] := hnone
    simp only [loopRoundStart, hpoll, if_true]
    obtain ⟨u, hu⟩ : ∃ u : State, u = s.onLoop fun l => { l with
      round := (l.round + 1) % 65536, running := true, roundStart := s.now, fallenDue := false, rest := [], polled := [],
      dueAt := some (s.now + s.mgmt.loopTables.interval * Config.ms) } := ⟨_, rfl⟩
    have hended := loopRoundEnd_ended u
    rw [← hu]
    generalize loopRoundEnd u = t at *
    have hloop := hended.loop (by rw [hu]; exact hunheld)
    rw [hu] at hloop
    refine ⟨by rw [hloop]; rfl, by rw [hloop], by rw [hloop]; rfl, by rw [hloop], ?_, by rw [hloop]; rfl, hended.picture (by rw [hu]; rfl), by rw [hloop]; rfl,
      by rw [hended.now, hu]; rfl, by rw [hended.store, hu]; rfl⟩
    rw [hloop]; rfl

end Sys2Proof.Machine
end

section
/-! LOOP_BYTE_DONE: the signalling of a step, the end of a step, and a script's reading (O43). -/

namespace Sys2Proof.Machine

/-! ## Signalling (R103, Table 6-1) -/

/-- A bit that is sent shows at the clock pulse. -/
theorem clocked_bitOut (d v : Bool) (l : List LineSignal) : clocked ⟨false, d⟩ (bitOut v ++ l) = v :: clocked ⟨false, v⟩ l := by
  cases v <;> rfl

theorem clocked_write (b : Byte) : clocked ⟨false, true⟩ (writeSignals b) = (List.range 8).map (fun i => b.getMsbD i) ++ [true] := by
  have hlast (d : Bool) : clocked ⟨false, d⟩ bitIn = [true] := rfl
  simp only [writeSignals, show List.range 8 = [0, 1, 2, 3, 4, 5, 6, 7] from rfl, List.flatMap_cons, List.flatMap_nil, List.append_assoc, List.nil_append,
    clocked_bitOut, hlast, List.map_cons, List.map_nil, List.cons_append, List.append_nil]

/-- The half bit periods of some signalling. -/
def halves (l : List LineSignal) : Nat := (l.filter fun a => a == .half).length

theorem halves_append (l m : List LineSignal) : halves (l ++ m) = halves l + halves m := by simp [halves]
theorem halves_bitOut (v : Bool) : halves (bitOut v) = 2 := by cases v <;> rfl
theorem halves_bitIn : halves bitIn = 2 := rfl

theorem halves_bits (f : Nat → List LineSignal) (hf : ∀ i, halves (f i) = 2) (l : List Nat) : halves (l.flatMap f) = 2 * l.length := by
  induction l with
  | nil => rfl
  | cons i l ih => rw [List.flatMap_cons, halves_append, hf, ih, List.length_cons]; omega

theorem halves_write (b : Byte) : halves (writeSignals b) = 18 := by
  rw [writeSignals, halves_append, halves_bits _ (fun i => halves_bitOut _), halves_bitIn]; rfl

theorem halves_read (ack : Bool) : halves (readSignals ack) = 18 := by
  rw [readSignals, halves_append, halves_bits _ (fun _ => halves_bitIn), halves_bitOut]; rfl

theorem halves_lead (l : Lead) : halves (leadSignals l) = 0 := by cases l <;> rfl

/-- A step takes nine bit periods (R103). -/
theorem signalTime_step (o : ScriptOwner) (st : ScriptStep) : signalTime (stepSignals o st) = 90 := by
  have hbody : halves (stepSignals o st).body = 18 := by
    simp only [stepSignals, halves_append, halves_lead]
    split
    · rw [halves_read]
    · rw [halves_write]
  have htime : signalTime (stepSignals o st) = Config.halfBit * halves (stepSignals o st).body := rfl
  rw [htime, hbody]; rfl

theorem drive_bitOut (v : Bool) (x : LoopLines) : (bitOut v).foldl drive x = ⟨false, v⟩ := by cases v <;> rfl
theorem drive_bitIn (x : LoopLines) : bitIn.foldl drive x = ⟨false, true⟩ := rfl
theorem drive_write (b : Byte) (x : LoopLines) : (writeSignals b).foldl drive x = ⟨false, true⟩ := by rw [writeSignals, List.foldl_append, drive_bitIn]
theorem drive_read (ack : Bool) (x : LoopLines) : (readSignals ack).foldl drive x = ⟨false, !ack⟩ := by rw [readSignals, List.foldl_append, drive_bitOut]
theorem drive_stop (x : LoopLines) : stopSignals.foldl drive x = ⟨true, true⟩ := rfl

/-- What precedes a byte does not decide the bus state after it. -/
theorem busAfter_plain {st : ScriptStep} (h : st.lead ≠ .release) : busAfter st = busAfter { st with lead := .plain } := by
  obtain ⟨lead, read, value, tail⟩ := st
  cases lead
  case release => exact absurd rfl h
  all_goals cases tail <;> cases read <;> rfl

theorem busAfter_lastStop {st : ScriptStep} (h : st.tail = .lastStop) : busAfter st = .free := by
  obtain ⟨lead, read, value, tail⟩ := st
  obtain rfl : tail = .lastStop := h
  cases lead <;> rfl

/-- The lines after a step stand as the bus state has them. -/
theorem drive_step (o : ScriptOwner) {st : ScriptStep} (x : LoopLines) (h : st.lead ≠ .release) :
    ((stepSignals o st).body ++ (stepSignals o st).tail).foldl drive x = restLines (busAfter st) := by
  have hbody : (stepSignals o st).body.foldl drive x = ⟨false, !(st.read && st.tail == .continue_)⟩ := by
    simp only [stepSignals, List.foldl_append]
    split
    · rename_i hr
      rw [drive_read, hr]; rfl
    · rename_i hr
      rw [drive_write]; simp [hr]
  rw [List.foldl_append, hbody, busAfter_plain h]
  obtain ⟨lead, read, value, tail⟩ := st
  cases tail
  case lastStop => rw [busAfter_lastStop rfl]; rfl
  all_goals cases read <;> rfl

/-- A byte that is not acknowledged is followed by a stop (R107). -/
theorem drive_notAck (o : ScriptOwner) {st : ScriptStep} (x : LoopLines) (h : st.read = false) :
    ((stepSignals o st).body ++ (stepSignals o st).ifNotAck).foldl drive x = ⟨true, true⟩ := by
  have hstop : (stepSignals o st).ifNotAck = stopSignals := by simp [stepSignals, h]
  rw [List.foldl_append, hstop, drive_stop]

/-! ## The end of a step (R104, R107) -/

theorem setBusFault_frame (b : Bool) (s : State) : setBusFault b s = { s with loop := { s.loop with busFault := b }, link := (setBusFault b s).link } := by
  apply State.eq_of_fields <;> simp [setBusFault]

/-- The flag of a bus fault once the start condition of a step has been given. -/
def faultAfterStart (st : ScriptStep) (l : Loop) : Bool := if st.lead = .openBus then false else l.busFault

theorem startGiven_frame (st : ScriptStep) (s : State) : startGiven st s =
    { s with loop := { s.loop with busFault := faultAfterStart st s.loop }, link := (startGiven st s).link } := by
  unfold startGiven faultAfterStart
  split
  · exact setBusFault_frame _ _
  · rfl

/-- The byte of a step is done once its bit periods have passed. -/
theorem loopByteDone_due {ack : Bool} {x : Byte} {r : ScriptRun} {st : ScriptStep} {s : State} (hs : s.phase = .running) (ha : s.loop.act = .running r)
    (hst : r.steps[r.results.length]? = some st) (hdue : s.loop.actSince + signalTime s.loop.signals ≤ s.now) :
    exec (.loopByteDone ack x) s = .next (byteDone r st ack x s) := by
  have hstep : runningStep s = some (r, st) := by
    have hcurrent : currentStep r = some st := hst
    rw [runningStep, ha]
    dsimp only
    rw [hcurrent]
  have hexec : exec (.loopByteDone ack x) s = execLoopByteDone ack x s := rfl
  rw [hexec, execLoopByteDone, act_running _ hs, hstep]
  exact congrArg _ (whenDue_true _ _ (ran_of hdue))

/-- A step that has its byte, or its acknowledge, hands the bus on. -/
theorem byteDone_goesOn {st : ScriptStep} {ack : Bool} (h : st.read = true ∨ ack = true) (r : ScriptRun) (x : Byte) (s : State) :
    byteDone r st ack x s = runOn scriptFuel { r with results := r.results ++ [if st.read then .byte x else .ack] }
      ((startGiven st s).onLoop (busTo (busAfter st))) := by
  have hgo : (st.read || ack) = true := by simpa using h
  have hresult : stepResult st ack x = if st.read then .byte x else .ack := by
    unfold stepResult
    cases hr : st.read
    · obtain rfl : ack = true := h.resolve_left (by simp [hr])
      rfl
    · rfl
  simp only [byteDone, hgo, hresult, if_true]

theorem byteDone_notAck {st : ScriptStep} (h : st.read = false) (r : ScriptRun) (x : Byte) (s : State) :
    byteDone r st false x s = endAndResume ⟨r.owner, .noAnswer, padResults r.steps (r.results ++ [.notAck])⟩ ((startGiven st s).onLoop (busTo .free)) := by
  simp [byteDone, stepResult, h]

/-! ## Readings (R120 to R123) -/

/-- A reading of one byte, or of two with the high byte first. -/
theorem readingOf_of {c : DetCfg} {res : List StepResult} {b lo : Byte} {x : Nat} (hb : res[c.readingStep - 1]? = some (.byte b))
    (hx : (c.width = 1 ∧ x = b.toNat) ∨ (c.width = 2 ∧ 1 ≤ c.readingStep ∧ res[c.readingStep]? = some (.byte lo) ∧ x = 256 * b.toNat + lo.toNat)) :
    readingOf c res = if x = (if c.width = 1 then 0xFF else 0xFFFF) then none else some x := by
  have hhigh : byteAt res c.readingStep = b.toNat := by simp [byteAt, hb]
  obtain ⟨hw, rfl⟩ | ⟨hw, hpos, hlo, rfl⟩ := hx
  · simp only [readingOf, hw, if_true, hhigh]
  · have hlow : byteAt res (c.readingStep + 1) = lo.toNat := by simp [byteAt, hlo]
    have h21 : ¬(2 : Nat) = 1 := by omega
    simp only [readingOf, hw, h21, if_false, hhigh, hlow, Nat.mul_comm]

/-- A detector after a reading. -/
theorem detNext_reading {c : DetCfg} {res : List StepResult} {x : Nat} (l : DetLive)
    (hr : readingOf c res = if x = (if c.width = 1 then 0xFF else 0xFFFF) then none else some x) : detNext c .complete res l =
      if x = (if c.width = 1 then 0xFF else 0xFFFF) then { l with noAnswer := 0, last := none, confirm := 0, state := if l.latched then l.state else .fault }
      else if l.latched = true then { l with noAnswer := 0, last := some x, confirm := 0 }
      else if c.kind = .callPoint then { l with
        noAnswer := 0, last := some x, state := if x = 0 then .normal else .alarm, latched := decide (x ≠ 0) }
      else if c.alarm ≤ x ∧ 1 ≤ l.confirm then { l with noAnswer := 0, last := some x, confirm := 0, state := .alarm, latched := true }
      else if c.alarm ≤ x then { l with noAnswer := 0, last := some x, confirm := 1, state := .preAlarm }
      else { l with noAnswer := 0, last := some x, confirm := 0, state :=
        if c.preAlarm ≤ x ∨ (l.state = .preAlarm ∧ c.preAlarm ≤ x + c.hysteresis) then .preAlarm else .normal } := by
  rw [detNext, hr]
  generalize (if c.width = 1 then 0xFF else 0xFFFF) = fault
  by_cases hx : x = fault
  · simp [hx]
  simp only [hx, if_false, evalReading]
  by_cases hl : l.latched = true
  · simp [hl]
  simp only [hl]
  by_cases hk : c.kind = .callPoint
  · simp only [hk, if_true]
    by_cases h0 : x = 0 <;> simp [h0]
  simp only [hk, if_false]
  by_cases ha : c.alarm ≤ x
  · by_cases hc : 1 ≤ l.confirm
    · simp [ha, hc]
    · have hzero : l.confirm = 0 := by omega
      simp [ha, hzero]
  · have hhyst : c.preAlarm - c.hysteresis ≤ x ↔ c.preAlarm ≤ x + c.hysteresis := by omega
    simp [ha, stateBelowAlarm, hhyst]

/-- A detector after an answer missed (R123). -/
theorem detNext_missed {res : ScriptResult} (h : res ≠ .complete) (c : DetCfg) (rs : List StepResult) (l : DetLive) : detNext c res rs l =
    { l with noAnswer := min 3 (l.noAnswer + 1), state := if 2 ≤ l.noAnswer ∧ l.latched = false then .fault else l.state } := by
  have hthree : min 3 (l.noAnswer + 1) = 3 ↔ 2 ≤ l.noAnswer := by omega
  cases res
  case complete => exact absurd rfl h
  all_goals simp only [detNext, hthree]

/-! ## LOOP_BYTE_DONE (R103, R106, R107) -/

/-- A polled script that has ended is handed over, and while a round has detectors left the next is polled. -/
theorem endAndResume_polls {d e : Nat} {es : List Nat} {res : ScriptResult} {rs : List StepResult} {nx : ScriptStep} {ns : List ScriptStep} {s : State}
    (hrun : s.loop.running = true) (hrest : s.loop.rest = e :: es) (hu : unheld s.loop)
    (hscript : s.mgmt.loopTables.scripts.getD (detCfg s e).script [] = nx :: ns) (hl : nx.lead ≠ .release) :
    ∃ u, HandedOver d (detNext (detCfg s d) res rs (detLive s d)) (loopAct .idle s) u ∧
      endAndResume ⟨.polled d, res, rs⟩ s = u.onLoop fun l => { l with
        rest := es, polled := l.polled ++ [e], act := .running ⟨.polled e, nx :: ns, []⟩, actSince := u.now, signals := stepSignals (.polled e) nx } := by
  have hover := detHandover_handed d res rs (loopAct .idle s)
  have hend : endScript ⟨.polled d, res, rs⟩ s = (let u := detHandover d res rs (loopAct .idle s)
    if u.loop.running && u.loop.rest.isEmpty then loopRoundEnd u else u) := rfl
  rw [endAndResume, hend]
  generalize detHandover d res rs (loopAct .idle s) = u at *
  have hloop : u.loop = (loopAct .idle s).loop := hover.loop hu
  have hrest' : u.loop.rest = e :: es := by rw [hloop]; exact hrest
  have hgroup : u.mgmt.loopTables = s.mgmt.loopTables := congrArg Prod.fst hover.loopGroup
  refine ⟨u, hover, ?_⟩
  dsimp only
  rw [hrest', List.isEmpty_cons, Bool.and_false, if_neg (by simp)]
  exact loopResume_poll (by rw [hloop]; rfl) (by rw [hloop]; exact hu) (by rw [hloop]; exact hrun) hrest'
    (by rw [detCfg, hgroup]; exact hscript) hl

/-- The last script of a round is handed over, and the round ends. -/
theorem endScript_roundEnds {d : Nat} {res : ScriptResult} {rs : List StepResult} {s : State} (hrun : s.loop.running = true) (hrest : s.loop.rest = [])
    (hu : unheld s.loop) (hstaged : s.mgmt.loopStaged = []) (hd : d < s.fire.dets.length) : ∃ t, endScript ⟨.polled d, res, rs⟩ s = t ∧
      t.loop.bus = s.loop.bus ∧ t.loop.running = false ∧ t.loop.act = .idle ∧ t.loop.manual = none ∧ t.loop.lastEnd = some s.now ∧ blindsCurrent t ∧
      detLive t d = detNext (detCfg s d) res rs (detLive s d) := by
  have hover := detHandover_handed d res rs (loopAct .idle s)
  have hend : endScript ⟨.polled d, res, rs⟩ s = (let u := detHandover d res rs (loopAct .idle s)
    if u.loop.running && u.loop.rest.isEmpty then loopRoundEnd u else u) := rfl
  rw [hend]
  generalize detHandover d res rs (loopAct .idle s) = u at *
  have hloop : u.loop = (loopAct .idle s).loop := hover.loop hu
  have hround : (u.loop.running && u.loop.rest.isEmpty) = true := by
    rw [hloop]
    simp [loopAct, hrun, hrest]
  have hended := loopRoundEnd_ended u
  dsimp only
  rw [if_pos hround]
  generalize loopRoundEnd u = t at *
  have hgroup : u.mgmt.loopStaged = s.mgmt.loopStaged := congrArg (fun x => x.2.1) hover.loopGroup
  obtain ⟨hdets, hblind, hmgmt, hring⟩ := hended.same (hgroup.trans hstaged)
  have htloop := hended.loop (by rw [hloop]; exact hu)
  rw [hloop] at htloop
  refine ⟨t, rfl, by rw [htloop]; rfl, by rw [htloop], by rw [htloop]; rfl, by rw [htloop]; exact hu.1, by rw [htloop, hover.now]; rfl,
    blindsCurrent_congr (by rw [hring]) (by rw [hmgmt]) (by rw [hmgmt]) hdets hblind hover.blinds, ?_⟩
  rw [detLive, hdets]
  exact hover.det hd

/-- Settles O43. -/
theorem LoopMaster.loopBytes : Obligations.LoopBytes := by
  refine ⟨clocked_write, fun o st x h => ⟨signalTime_step o st, drive_step o x h, drive_notAck o x⟩,
    fun ack x r st nx s hs ha hst hnx hlead hgo hdue => ?_,
    fun x r st nx d e es ns s hs ha ho hst hread hrun hrest hm hh hd hscript hlead hdue => ?_, ?_⟩
  · have hnext : currentStep { r with results := r.results ++ [if st.read then .byte x else .ack] } = some nx := by
      rw [currentStep, List.length_append]; exact hnx
    have hrun := runOn_goOn hnext hlead scriptFuel ((startGiven st s).onLoop (busTo (busAfter st)))
    refine ⟨_, (loopByteDone_due hs ha hst hdue).trans (congrArg _ ((byteDone_goesOn hgo r x s).trans hrun)), ?_⟩
    rw [startGiven_frame]
    generalize (startGiven st s).link = k
    have hsignals (b : BusState) : actSignals b (.running { r with results := r.results ++ [if st.read then .byte x else .ack] }) = stepSignals r.owner nx := by
      rw [actSignals, hnext]
    simp only [loopAct, State.onLoop, hsignals]
    exact ⟨trivial, rfl⟩
  · have hexec := (loopByteDone_due (x := x) (ack := false) hs ha hst hdue).trans (congrArg _ (byteDone_notAck hread r x s))
    rw [startGiven_frame, ho] at hexec
    generalize (startGiven st s).link = k at hexec
    obtain ⟨v, hv⟩ : ∃ v : State, v = { s with loop := busTo .free { s.loop with busFault := faultAfterStart st s.loop }, link := k } := ⟨_, rfl⟩
    obtain ⟨u, hover, hend⟩ := endAndResume_polls (s := v) (d := d) (e := e) (es := es) (res := .noAnswer)
      (rs := padResults r.steps (r.results ++ [.notAck])) (nx := nx) (ns := ns) (by rw [hv]; exact hrun) (by rw [hv]; exact hrest) (by rw [hv]; exact ⟨hm, hh⟩)
      (by rw [hv]; exact hscript) hlead
    have hdet := hover.det (by rw [loopAct_fire, hv]; exact hd)
    have hloop := hover.loop (by rw [hv]; exact ⟨hm, hh⟩)
    rw [detNext_missed (by simp)] at hdet
    have hlive : detLive v d = detLive s d := by rw [hv]; rfl
    have hexec' : exec (.loopByteDone false x) s = .next _ := hexec.trans (congrArg _ (Eq.trans (by rw [hv]; rfl) hend))
    refine ⟨_, hexec', by rw [State.onLoop_loop, hloop, hv]; rfl, rfl, by rw [State.onLoop_loop, hloop, hv]; rfl, rfl, rfl,
      blindsCurrent_congr rfl rfl rfl rfl rfl hover.blinds, ?_, ?_⟩
    · have hmissed : (detLive u d).noAnswer = min 3 ((detLive v d).noAnswer + 1) := by rw [hdet]
      rw [← hlive]; exact hmissed
    · have hstate : (detLive u d).state = if 2 ≤ (detLive v d).noAnswer ∧ (detLive v d).latched = false then .fault else (detLive v d).state := by rw [hdet]
      rw [← hlive]; exact hstate
  · intro ack y b lo r st d x s c l res hs ha ho hst hlen hlead htail hgo hrun hrest hm hh hstaged hd hb hx hdue
    have hexec := (loopByteDone_due (x := y) (ack := ack) hs ha hst hdue).trans (congrArg _ (byteDone_goesOn hgo r y s))
    rw [startGiven_frame, ho, busAfter_lastStop htail] at hexec
    generalize (startGiven st s).link = k at hexec
    obtain ⟨v, hv⟩ : ∃ v : State, v = { s with loop := busTo .free { s.loop with busFault := faultAfterStart st s.loop }, link := k } := ⟨_, rfl⟩
    obtain ⟨t, hend, hbus, hrunning, hact, hmanual, hlast, hblinds, hdet⟩ := endScript_roundEnds (s := v) (d := d) (res := .complete) (rs := res) (by rw [hv]; exact hrun)
      (by rw [hv]; exact hrest) (by rw [hv]; exact ⟨hm, hh⟩) (by rw [hv]; exact hstaged) (by rw [hv]; exact hd)
    have hover : currentStep ⟨.polled d, r.steps, res⟩ = none := by
      have hlength : res.length = r.steps.length := by rw [hlen, List.length_append]; rfl
      rw [currentStep, hlength, List.getElem?_eq_none le_rfl]
    have hsettle : settle v.loop.bus ⟨.polled d, r.steps, res⟩ = .ended ⟨.polled d, .complete, res⟩ := by
      rw [settle, hover, hv]; rfl
    have hnext : startNext (endScript ⟨.polled d, .complete, res⟩ v) = none := by rw [hend]; exact startNext_none hmanual (.inl hrunning)
    have hrunOn := (runOn_ended hsettle hnext scriptFuel).trans hend
    have hexec' : exec (.loopByteDone ack y) s = .next t := hexec.trans (congrArg _ (Eq.trans (by rw [hv]; rfl) hrunOn))
    refine ⟨t, hexec', by rw [hbus, hv]; rfl, hrunning, hact, by rw [hlast, hv], hblinds, ?_⟩
    have hsame : detLive v d = l ∧ detCfg v d = c := by rw [hv]; exact ⟨rfl, rfl⟩
    rw [hdet, hsame.1, hsame.2]
    exact detNext_reading l (readingOf_of hb hx)

end Sys2Proof.Machine
end

section
/-! LOOP_LINE_STUCK, BUS_RECOVERY_DONE and BUS_CLOSE_DONE (O44). -/

namespace Sys2Proof.Machine

/-! ## A line held low (R104, R105) -/

theorem loopLineStuck_due {p : LinePoint} {since : Nat} {s : State} (hs : s.phase = .running) (hw : waitsAt s.loop p = true)
    (hfrom : s.loop.actSince ≤ since) (hlate : since + 25000 < s.now) : exec (.loopLineStuck ⟨p, since⟩) s = .next (lineStuck p s) :=
  (act_running _ hs).trans (congrArg _ (whenDue_true _ _ (by
    rw [stuckDue, hw, Bool.true_and, decide_eq_true_eq]
    exact ⟨hfrom, hlate⟩)))

/-- A stuck bus is counted, and a recovery begins with the clock line as given. -/
theorem countStuck_recoverBus (c : Bool) (e : Option ScriptEnd) (b : Bool) (s : State) : ∃ k, countStuck (recoverBus c e b s) =
    { s with link := k, loop := { s.loop with
        stuck := min 65535 (s.loop.stuck + 1), busFault := true, actSince := s.now, signals := recoverySignals, lines := ⟨c, true⟩, act := .recovering e b } } :=
  ⟨_, (setBusFault_frame _ _).trans (by simp only [satInc]; rfl)⟩

theorem countStuck_frame (s : State) : ∃ k, countStuck s =
    { s with link := k, loop := { s.loop with stuck := min 65535 (s.loop.stuck + 1), busFault := true } } :=
  ⟨_, (setBusFault_frame _ _).trans (by simp only [satInc]; rfl)⟩

/-- A wait of a running script is one of the step it stands at (R104). -/
theorem waitsAt_running {p : LinePoint} {r : ScriptRun} {st : ScriptStep} {l : Loop} (ha : l.act = .running r) (hst : currentStep r = some st)
    (h1 : p = .beforeStart → st.lead = .openBus) (h2 : p = .repeatedStart → st.lead = .reopen) (h3 : p = .stopData → st.tail = .lastStop ∨ st.read = false) :
    waitsAt l p = true := by
  rw [waitsAt, ha]
  dsimp only
  rw [hst]
  cases p
  case beforeStart => simp [h1 rfl]
  case clockRelease => rfl
  case repeatedStart => simp [h2 rfl]
  case stopData => simpa using h3 rfl

theorem waitsAt_closing {p : LinePoint} {e : Option ScriptEnd} {l : Loop} (ha : l.act = .closing e) (hp : p = .clockRelease ∨ p = .stopData) :
    waitsAt l p = true := by
  rw [waitsAt, ha]
  obtain rfl | rfl := hp <;> rfl

theorem waitsAt_recovering {p : LinePoint} {e : Option ScriptEnd} {b : Bool} {l : Loop} (ha : l.act = .recovering e b)
    (hp : p = .clockRelease ∨ p = .stopData) : waitsAt l p = true := by
  rw [waitsAt, ha]
  obtain rfl | rfl := hp <;> rfl

/-- A script that runs ends BUS_STUCK where its line is stuck. -/
theorem lineStuck_running {p : LinePoint} {r : ScriptRun} {st : ScriptStep} {s : State} (ha : s.loop.act = .running r) (hst : currentStep r = some st) :
    ∃ k, lineStuck p s = { s with link := k, loop := { s.loop with
      stuck := min 65535 (s.loop.stuck + 1), busFault := true, actSince := s.now, signals := recoverySignals, lines := ⟨p != .repeatedStart, true⟩,
      act := .recovering (some ⟨r.owner, .busStuck, padResults r.steps r.results⟩) false } } := by
  obtain ⟨k, f, hk⟩ : ∃ k f, (if p = .beforeStart then s else startGiven st s) = { s with loop := { s.loop with busFault := f }, link := k } := by
    split
    · exact ⟨s.link, s.loop.busFault, rfl⟩
    · exact ⟨_, _, startGiven_frame st s⟩
  have he : lineStuck p s = countStuck (recoverBus (clockAtWait p) (some ⟨r.owner, .busStuck, padResults r.steps r.results⟩) false
      (if p = .beforeStart then s else startGiven st s)) := by
    rw [lineStuck, ha]
    dsimp only
    rw [hst]
  rw [he, hk]
  exact countStuck_recoverBus _ _ _ _

theorem lineStuck_closing {p : LinePoint} {e : Option ScriptEnd} {s : State} (ha : s.loop.act = .closing e) (hp : p = .clockRelease ∨ p = .stopData) :
    ∃ k, lineStuck p s = { s with link := k, loop := { s.loop with
      stuck := min 65535 (s.loop.stuck + 1), busFault := true, actSince := s.now, signals := recoverySignals, lines := ⟨true, true⟩,
      act := .recovering (e.map stuckEnd) false } } := by
  have he : lineStuck p s = countStuck (recoverBus (clockAtWait p) (e.map stuckEnd) false s) := by rw [lineStuck, ha]
  have hclock : clockAtWait p = true := by obtain rfl | rfl := hp <;> rfl
  rw [he, hclock]
  exact countStuck_recoverBus _ _ _ _

theorem lineStuck_recovering {p : LinePoint} {e : Option ScriptEnd} {b : Bool} {s : State} (ha : s.loop.act = .recovering e b) :
    lineStuck p s = busFreed e (if b then countStuck s else s) := by
  rw [lineStuck, ha]

theorem stuckEnd_kept {e : ScriptEnd} (h : .released ∉ e.results) : stuckEnd e = e := by simp [stuckEnd, h]

theorem stuckEnd_released {e : ScriptEnd} (h : .released ∈ e.results) :
    stuckEnd e = ⟨e.owner, .busStuck, e.results.map fun x => if x = .released then .notRun else x⟩ := by simp [stuckEnd, h]

/-! ## The bus is FREE again (R104, R105) -/

/-- The Loop Master idle on a free bus. -/
def freed (s : State) : State := { s with loop := { s.loop with bus := .free, lines := ⟨true, true⟩, act := .idle, actSince := s.now, signals := ⟨[], [], []⟩ } }

theorem busFreed_none {s : State} (hm : s.loop.manual = none) (hr : s.loop.running = false) : busFreed none s = freed s :=
  loopResume_none (s := freed s) (startNext_none hm (.inl hr))

theorem busFreed_some (e : ScriptEnd) (s : State) : busFreed (some e) s = endAndResume e (freed s) := rfl

theorem busRecoveryDone_due {e : Option ScriptEnd} {b : Bool} {s : State} (hs : s.phase = .running) (ha : s.loop.act = .recovering e b)
    (hdue : s.loop.actSince + signalTime s.loop.signals ≤ s.now) : exec .busRecoveryDone s = .next (busFreed e s) := by
  have hexec : exec .busRecoveryDone s = execBusRecoveryDone s := rfl
  rw [hexec, execBusRecoveryDone, act_running _ hs, ha]
  exact congrArg _ (whenDue_true _ _ (ran_of hdue))

theorem busCloseDone_due {e : Option ScriptEnd} {s : State} (hs : s.phase = .running) (ha : s.loop.act = .closing e)
    (hdue : s.loop.actSince + signalTime s.loop.signals ≤ s.now) : exec .busCloseDone s = .next (busFreed e s) := by
  have hexec : exec .busCloseDone s = execBusCloseDone s := rfl
  rw [hexec, execBusCloseDone, act_running _ hs, ha]
  exact congrArg _ (whenDue_true _ _ (ran_of hdue))

/-- A manual script that waited for the bus is answered. -/
theorem endAndResume_manual {e : ScriptEnd} {m : Manual} {s : State} (ho : e.owner = .manual) (hm : s.loop.manual = some m) (hr : s.loop.running = false)
    (hb : s.loop.bus = .free) : endAndResume e s = { s with
      loop := { s.loop with act := .idle, signals := ⟨[], [], []⟩, manual := none, hold := none }
      link := sendUp s.now s.mgmt.ringTables.rate m.port ⟨.response, true, false, rspFrame m.src m.id 0x17 .done
        (encU8 (match e.result with | .complete => 0 | .noAnswer => 1 | .busStuck => 2 | .aborted => 3) ++ encU8 e.results.length ++
          e.results.flatMap StepResult.bytes)⟩ s.link } := by
  have hcode : e.result.code = (match e.result with | .complete => 0 | .noAnswer => 1 | .busStuck => 2 | .aborted => 3) := by cases e.result <;> rfl
  have hend : endScript e s = { s with
      loop := { s.loop with act := .idle, signals := ⟨[], [], []⟩, manual := none, hold := none }
      link := sendUp s.now s.mgmt.ringTables.rate m.port ⟨.response, true, false, rspFrame m.src m.id 0x17 .done
        (encU8 e.result.code ++ encU8 e.results.length ++ e.results.flatMap StepResult.bytes)⟩ s.link } := by
    rw [endScript, ho]
    dsimp only
    rw [manualEnd, hm]
    have hfree (x : ScriptResult) : ¬(x = .complete ∧ s.loop.bus ≠ .free) := fun h => h.2 hb
    simp only [answerManual, answerAs, State.onLoop, State.onLink, hfree, if_false]
    rfl
  rw [endAndResume, hend, hcode]
  exact loopResume_none (startNext_none rfl (.inl hr))

/-! ## What a hand-over reads -/

theorem evalReading_read (c : DetCfg) (x : Nat) (l : DetLive) : (evalReading c x l).noAnswer = l.noAnswer ∧ (evalReading c x l).last = some x := by
  unfold evalReading
  split_ifs <;> exact ⟨rfl, rfl⟩

theorem detNext_read (c : DetCfg) (res : List StepResult) (l : DetLive) :
    (detNext c .complete res l).noAnswer = 0 ∧ (detNext c .complete res l).last = readingOf c res := by
  rw [detNext]
  cases readingOf c res with
  | none => exact ⟨rfl, rfl⟩
  | some x => exact evalReading_read c x _

/-- A reading of one byte. -/
theorem readingOf_byte {c : DetCfg} {res : List StepResult} {x : Byte} (hw : c.width = 1) (hx : res[c.readingStep - 1]? = some (.byte x)) :
    readingOf c res = if x = 0xFF then none else some x.toNat := by
  have hfault : x.toNat = 0xFF ↔ x = 0xFF := by
    constructor
    · exact fun h => BitVec.eq_of_toNat_eq h
    · rintro rfl; rfl
  rw [readingOf_of (lo := 0) hx (.inl ⟨hw, rfl⟩), if_pos hw]
  simp only [hfault]

theorem preAlarmSource_mono {s t : State} (hcfg : ∀ d, detCfg t d = detCfg s d) (hcell : t.cell = s.cell)
    (hdet : ∀ d, (detLive t d).state = .preAlarm ∨ (detLive t d).state = .alarm → (detLive t d).state = (detLive s d).state)
    (h : preAlarmSource t = true) : preAlarmSource s = true := by
  have hzone (z : Nat) : zoneSummary t z = zoneSummary s z := by rw [zoneSummary, hcell, zoneSummary]
  simp only [preAlarmSource, Bool.or_eq_true, List.any_eq_true, Bool.and_eq_true, beq_iff_eq, hcfg, hzone] at h ⊢
  refine h.imp (fun ⟨d, hd, hsup, hstate⟩ => ⟨d, hd, hsup, ?_⟩) id
  rw [← hdet d hstate]
  exact hstate

theorem detLive_setDet_other {d e : Nat} (h : e ≠ d) (l : DetLive) (s : State) : detLive (setDet d l s) e = detLive s e := by
  simp [detLive, setDet, Ne.symm h]

theorem detLive_setDet_past {d : Nat} {s : State} (hd : s.fire.dets.length ≤ d) (l : DetLive) : detLive (setDet d l s) d = detLive s d := by
  simp [detLive, setDet, hd]

/-- A detector that misses an answer becomes no source. -/
theorem preAlarmSource_missed {d : Nat} {res : ScriptResult} (h : res ≠ .complete) (rs : List StepResult) {s : State}
    (hp : preAlarmSource s = false) : preAlarmSource (detBlindEval (setDet d (detNext (detCfg s d) res rs (detLive s d)) s)) = false := by
  rw [Bool.eq_false_iff] at hp ⊢
  refine fun hpre => hp (preAlarmSource_mono (fun e => ?_) ?_ (fun e hstate => ?_) hpre)
  · simp [detCfg, setDet]
  · simp [setDet]
  · have hdet (x : State) : detLive (detBlindEval x) e = detLive x e := by rw [detLive, detBlindEval_fire_dets, detLive]
    rw [hdet] at hstate ⊢
    by_cases he : e = d
    · subst he
      by_cases hd : e < s.fire.dets.length
      case neg => rw [detLive_setDet_past (by omega)]
      rw [detLive_setDet e _ s hd, detNext_missed h] at hstate ⊢
      dsimp only at hstate ⊢
      split at hstate
      · simp at hstate
      · rename_i hn; rw [if_neg hn]
    · rw [detLive_setDet_other he]

theorem preAlarmSource_iff (s : State) : preAlarmSource s = true ↔ preAlarmExists s := by
  have hdets : (∃ d, d < 24 ∧ (detCfg s d).supervised = true ∧ ((detLive s d).state = .preAlarm ∨ (detLive s d).state = .alarm)) ↔
      ∃ d, detIn s d .preAlarm ∨ detIn s d .alarm := by
    simp only [detIn, DetCfg.supervised, Bool.and_eq_true, bne_iff_ne]
    refine exists_congr fun d => ?_
    tauto
  simp only [preAlarmSource, Bool.or_eq_true, List.any_eq_true, List.mem_range, Bool.and_eq_true, beq_iff_eq, preAlarmExists, hdets]

/-- A polled script that misses an answer, while the fire state stays QUIET, lets a queued manual script start (R109, R112). -/
theorem endAndResume_queued {d : Nat} {res : ScriptResult} {rs : List StepResult} {m : Manual} {nx : ScriptStep} {ns : List ScriptStep} {s : State}
    (h : res ≠ .complete) (hrest : s.loop.rest ≠ []) (hm : s.loop.manual = some m) (hsteps : m.steps = nx :: ns) (hl : nx.lead ≠ .release) (hh : s.loop.hold = none)
    (hq : s.fire.state = .quiet) (hp : ¬preAlarmExists s) : ∃ t, endAndResume ⟨.polled d, res, rs⟩ s = t ∧ t.loop.bus = s.loop.bus ∧
      t.loop.act = .running ⟨.manual, nx :: ns, []⟩ ∧ t.loop.manual = some { m with running := true } ∧ t.loop.rest = s.loop.rest := by
  have hpre : preAlarmSource (loopAct .idle s) = false := by
    rw [Bool.eq_false_iff]
    exact fun hs => hp ((preAlarmSource_iff s).mp hs)
  have hstays := preAlarmSource_missed (d := d) h rs hpre
  have hquiet : (detBlindEval (setDet d (detNext (detCfg (loopAct .idle s) d) res rs (detLive (loopAct .idle s) d)) (loopAct .idle s))).fire.state = .quiet := by
    rw [detBlindEval_fire_state]
    simp only [setDet, raiseIf_fire, State.onFire_fire]
    exact hq
  have hover : detHandover d res rs (loopAct .idle s) = _ := fireEval_quiet hquiet hstays
  have hloop : (detHandover d res rs (loopAct .idle s)).loop = (loopAct .idle s).loop := by
    rw [hover, detBlindEval_loop]
    simp only [setDet, raiseIf_loop, State.onFire_loop]
  have hend : endScript ⟨.polled d, res, rs⟩ s = (let u := detHandover d res rs (loopAct .idle s)
    if u.loop.running && u.loop.rest.isEmpty then loopRoundEnd u else u) := rfl
  rw [endAndResume, hend]
  generalize detHandover d res rs (loopAct .idle s) = u at *
  have hopen : ¬(u.loop.running && u.loop.rest.isEmpty) = true := by
    rw [hloop]
    simp [loopAct, hrest]
  dsimp only
  rw [if_neg hopen]
  refine ⟨_, loopResume_manual (by rw [hloop]; rfl) (by rw [hloop]; exact hh) (by rw [hloop]; exact hm) hsteps hl, ?_⟩
  simp only [State.onLoop_loop, hloop]
  exact ⟨rfl, trivial, trivial, rfl⟩

/-- What the next poll of a round leaves, once a polled script that waited for the bus has been handed over. -/
theorem busFreed_polls {d e : Nat} {es : List Nat} {res : ScriptResult} {rs : List StepResult} {nx : ScriptStep} {ns : List ScriptStep} {s : State}
    (hrun : s.loop.running = true) (hrest : s.loop.rest = e :: es) (hu : unheld s.loop) (hd : d < s.fire.dets.length)
    (hscript : s.mgmt.loopTables.scripts.getD (detCfg s e).script [] = nx :: ns) (hl : nx.lead ≠ .release) :
    ∃ t, busFreed (some ⟨.polled d, res, rs⟩) s = t ∧ (t.loop.bus = .free ∧ t.loop.lines = ⟨true, true⟩ ∧ t.loop.act = .running ⟨.polled e, nx :: ns, []⟩ ∧
      t.loop.signals = stepSignals (.polled e) nx ∧ t.loop.rest = es ∧ t.loop.stuck = s.loop.stuck) ∧
      detLive t d = detNext (detCfg s d) res rs (detLive s d) := by
  obtain ⟨u, hover, hend⟩ := endAndResume_polls (s := freed s) (d := d) (res := res) (rs := rs) hrun hrest hu hscript hl
  have hloop := hover.loop hu
  have hdet := hover.det hd
  refine ⟨_, (busFreed_some _ _).trans hend, ⟨by rw [State.onLoop_loop, hloop]; rfl, by rw [State.onLoop_loop, hloop]; rfl, rfl, rfl, rfl,
    by rw [State.onLoop_loop, hloop]; rfl⟩, hdet⟩

/-- Settles O44. -/
theorem busRecovery : Obligations.BusRecovery := by
  refine ⟨fun p since r st s hs ha hst h1 h2 h3 hfrom hlate => ?_, fun p since e s hs ha hkept hp hfrom hlate => ?_,
    fun p since e s hs ha hrel hp hfrom hlate => ?_, fun p since b s hs ha hm hr hp hfrom hlate => ?_,
    fun d e es nx ns res b s hs hrun hrest hm hh hd hscript hl hdue => ?_,
    fun d res m st ss b s hs ha hrest hm hsteps hl hh hq hp hdue => ?_,
    fun m e b s hs ho hm hr hdue => ⟨fun ha => ?_, fun ha => ?_⟩,
    fun b s hs ha hm hr hdue => ?_, fun s hs ha hm hr hdue => ?_⟩
  · obtain ⟨k, hk⟩ := lineStuck_running (p := p) ha hst
    exact ⟨_, (loopLineStuck_due hs (waitsAt_running ha hst h1 h2 h3) hfrom hlate).trans (congrArg _ hk), rfl, rfl⟩
  · have hmap : e.map stuckEnd = e := by
      cases e with
      | none => rfl
      | some x => exact congrArg some (stuckEnd_kept (hkept x rfl))
    obtain ⟨k, hk⟩ := lineStuck_closing ha hp
    rw [hmap] at hk
    exact ⟨_, (loopLineStuck_due hs (waitsAt_closing ha hp) hfrom hlate).trans (congrArg _ hk), rfl, rfl⟩
  · obtain ⟨k, hk⟩ := lineStuck_closing ha hp
    rw [Option.map_some, stuckEnd_released hrel] at hk
    exact ⟨_, (loopLineStuck_due hs (waitsAt_closing ha hp) hfrom hlate).trans (congrArg _ hk), rfl, rfl⟩
  · have hexec := (loopLineStuck_due hs (waitsAt_recovering ha hp) hfrom hlate).trans (congrArg _ (lineStuck_recovering (p := p) ha))
    cases b with
    | false =>
      refine ⟨_, hexec.trans (congrArg _ (busFreed_none hm hr)), rfl, ?_⟩
      simp only [Bool.false_eq_true, if_false, Bool.or_false]
      rfl
    | true =>
      obtain ⟨k, hk⟩ := countStuck_frame s
      rw [if_pos rfl, hk] at hexec
      refine ⟨_, hexec.trans (congrArg _ (busFreed_none hm hr)), rfl, ?_⟩
      simp only [if_true, Bool.or_true]
      rfl
  · have hfreed (r : ScriptResult) := busFreed_polls (res := r) (rs := res) hrun hrest ⟨hm, hh⟩ hd hscript hl
    intro polls
    refine ⟨fun ha => ?_, fun x hw hx => ?_⟩
    · obtain ⟨t, ht, hpolls, hdet⟩ := hfreed .busStuck
      rw [detNext_missed (by simp)] at hdet
      exact ⟨t, (busRecoveryDone_due hs ha hdue).trans (congrArg _ ht), hpolls, by rw [hdet], by rw [hdet], by rw [hdet]⟩
    · obtain ⟨t, ht, hpolls, hdet⟩ := hfreed .complete
      obtain ⟨hanswer, hlast⟩ := detNext_read (detCfg s d) res (detLive s d)
      rw [readingOf_byte hw hx] at hlast
      intro read
      have hread : read t := by
        show (detLive t d).noAnswer = 0 ∧ (detLive t d).last = _
        rw [hdet]
        exact ⟨hanswer, hlast⟩
      exact ⟨fun ha => ⟨t, (busCloseDone_due hs ha hdue).trans (congrArg _ ht), hpolls, hread⟩,
        fun ha => ⟨t, (busRecoveryDone_due hs ha hdue).trans (congrArg _ ht), hpolls, hread⟩⟩
  · obtain ⟨t, ht, hbus, hact, hmanual, hleft⟩ := endAndResume_queued (s := freed s) (d := d) (res := .busStuck) (rs := res) (by simp) hrest hm hsteps hl hh hq hp
    exact ⟨t, (busRecoveryDone_due hs ha hdue).trans (congrArg _ ((busFreed_some _ _).trans ht)), hbus, hact, hmanual, hleft⟩
  · exact (busRecoveryDone_due hs ha hdue).trans (congrArg _ ((busFreed_some _ _).trans (endAndResume_manual (s := freed s) ho hm hr rfl)))
  · exact (busCloseDone_due hs ha hdue).trans (congrArg _ ((busFreed_some _ _).trans (endAndResume_manual (s := freed s) ho hm hr rfl)))
  · exact (busRecoveryDone_due hs ha hdue).trans (congrArg _ (busFreed_none hm hr))
  · exact (busCloseDone_due hs ha hdue).trans (congrArg _ (busFreed_none hm hr))

end Sys2Proof.Machine
end

section
/-! LOOP_RUN, LOOP_ABORT and HOLD_EXPIRY (O45). -/

namespace Sys2Proof.Machine

/-! ## LOOP_RUN (R111, R112) -/

theorem loopRunBody_refused {r : Request} {ss : List ScriptStep} {s : State} (h : walk (walkFrom s.loop) ss = none ∨ s.fire.state ≠ .quiet) :
    loopRunBody r ss s = answer r 0x17 .refusedState [] s := by
  unfold loopRunBody
  by_cases hw : walk (walkFrom s.loop) ss = none
  · rw [if_pos hw]
  · rw [if_neg hw, if_pos (h.resolve_left hw)]

theorem loopRunBody_walks {r : Request} {ss : List ScriptStep} {s : State} (hw : walk (walkFrom s.loop) ss ≠ none) (hq : s.fire.state = .quiet) :
    loopRunBody r ss s = if s.loop.manual.isSome then answer r 0x17 .busy [] s else manualAccept ⟨r.port, r.src, r.id, ss, false⟩ s := by
  unfold loopRunBody
  rw [if_neg hw, if_neg (not_not.mpr hq)]

theorem polledRuns_script {l : Loop} (h : polledRuns l) : loopQuiet l = false ∧ (polledScript l).isNone = false := by
  obtain ⟨⟨o, ss, rs⟩, d, ha, ho⟩ | ⟨⟨o, res, rs⟩, d, ha, ho⟩ := h
  · obtain rfl : o = .polled d := ho
    simp [loopQuiet, polledScript, ha]
  · obtain rfl : o = .polled d := ho
    obtain ha | ⟨b, ha⟩ := ha <;> simp [loopQuiet, polledScript, ha]

theorem busBusy_script {l : Loop} (h : busBusy l) : loopQuiet l = false ∧ (polledScript l).isNone = true := by
  obtain ha | ⟨b, ha⟩ := h <;> simp [loopQuiet, polledScript, ha]

/-- A LOOP_RUN waits for the bus. -/
theorem manualAccept_waits {m : Manual} {s : State} (h : loopQuiet s.loop = false) : manualAccept m s =
    s.onLoop fun l => { l with manual := some { m with running := (polledScript l).isNone } } := by
  simp [manualAccept, h]

/-- A LOOP_RUN on a quiet Loop Master starts at once. -/
theorem manualAccept_starts {m : Manual} {st : ScriptStep} {ss : List ScriptStep} {s : State} (ha : s.loop.act = .idle) (hm : m.steps = st :: ss)
    (hl : st.lead ≠ .release) : manualAccept m s = s.onLoop fun l => { l with
      manual := some { m with running := true }, hold := l.hold.map (stopHold s.now), act := .running ⟨.manual, st :: ss, []⟩, actSince := s.now,
      signals := stepSignals .manual st } := by
  have hquiet : loopQuiet s.loop = true := by rw [loopQuiet, ha]
  rw [manualAccept, hquiet, if_pos rfl, hm]
  exact runOn_first hl _ _

/-! ## The end of a manual script (R112, R113) -/

theorem startGiven_clear {st : ScriptStep} {s : State} (h : s.loop.busFault = false) : startGiven st s = s := by
  have hsame : setBusFault false s = s := by
    have hcond : (s.loop.busFault != false) = false := by rw [h]; rfl
    have hloop : { s.loop with busFault := false } = s.loop := by rw [← h]
    simp only [setBusFault, hcond, raiseIf, Bool.false_eq_true, if_false, State.onLoop, hloop]
  rw [startGiven, hsame, ite_self]

/-- A manual script that leaves the bus held is answered COMPLETE, and a hold begins. -/
theorem manualEnd_held {m : Manual} {rs : List StepResult} {s : State} (hm : s.loop.manual = some m) (hb : s.loop.bus ≠ .free) :
    manualEnd ⟨.manual, .complete, rs⟩ s = { s with
      loop := { s.loop with act := .idle, signals := ⟨[], [], []⟩, manual := none, hold := some ⟨s.loop.bus, 2000000, some s.now⟩ }
      link := sendUp s.now s.mgmt.ringTables.rate m.port ⟨.response, true, false, rspFrame m.src m.id 0x17 .done
        (encU8 0 ++ encU8 rs.length ++ rs.flatMap StepResult.bytes)⟩ s.link } := by
  rw [manualEnd, hm]
  simp only [answerManual, answerAs, State.onLoop, State.onLink, ne_eq, hb, not_false_iff, and_self, if_true]
  rfl

theorem busAfter_held {st : ScriptStep} (hl : st.lead ≠ .release) (ht : st.tail ≠ .lastStop) : busAfter st ≠ .free := by
  rw [busAfter_plain hl]
  obtain ⟨lead, read, value, tail⟩ := st
  cases tail
  case lastStop => exact absurd rfl ht
  all_goals cases read <;> exact fun h => nomatch h

/-! ## LOOP_ABORT (R114) -/

theorem notRun_bytes {α : Type} (l : List α) : (List.replicate l.length StepResult.notRun).flatMap StepResult.bytes = l.flatMap fun _ => [4, 0] := by
  induction l with
  | nil => rfl
  | cons x l ih => rw [List.length_cons, List.replicate_succ, List.flatMap_cons, List.flatMap_cons, ih]; rfl

/-- What an aborted manual script answers. -/
def abortAnswered (m : Manual) (rs : List StepResult) (s : State) : State :=
  answerAs false m.port m.src m.id 0x17 .done (encU8 3 ++ encU8 rs.length ++ rs.flatMap StepResult.bytes) s

/-- A queued manual script is answered ABORTED. -/
theorem loopClear_queued {m : Manual} {s : State} (hm : s.loop.manual = some m) (hr : m.running = false) : loopClear s =
    (abortAnswered m (List.replicate m.steps.length .notRun) { s with loop := { s.loop with manual := none } }, 1) := by
  rw [loopClear, hm]
  simp only [hr, Bool.false_eq_true, if_false]
  rfl

theorem abortBus_running {u : ScriptRun} {s : State} (ha : s.loop.act = .running u) : abortBus s = recoverBus false none true s := by rw [abortBus, ha]
theorem abortBus_closing {e : Option ScriptEnd} {s : State} (ha : s.loop.act = .closing e) : abortBus s = recoverBus false none true s := by rw [abortBus, ha]
theorem abortBus_recovering {b : Bool} {s : State} (ha : s.loop.act = .recovering none b) : abortBus s = s := by rw [abortBus, ha]

theorem loopClear_runs {m : Manual} {l : Loop} {s : State} (hs : s.loop = l) (hm : l.manual = some m) (hr : m.running = true) : loopClear s =
    (abortBus (abortAnswered m (abortedResults m l.act) { s with loop := { l with manual := none, hold := none } }), 2) := by
  subst hs
  rw [loopClear, hm]
  simp only [hr, if_true]
  rfl

/-- The bus of a script that is aborted is recovered, with the clock line low. -/
theorem abortAnswered_recovers {m : Manual} {rs : List StepResult} {l : Loop} {s : State} {n : Nat} (hn : s.now = n)
    (ha : (∃ u, l.act = .running u) ∨ ∃ e, l.act = .closing e) : abortBus (abortAnswered m rs { s with loop := l }) =
      abortAnswered m rs { s with loop := { l with
        act := .recovering none true, actSince := n, signals := recoverySignals, lines := ⟨false, true⟩ } } := by
  subst hn
  have hrecover : abortBus (abortAnswered m rs { s with loop := l }) = recoverBus false none true (abortAnswered m rs { s with loop := l }) := by
    obtain ⟨u, ha⟩ | ⟨e, ha⟩ := ha
    · exact abortBus_running ha
    · exact abortBus_closing ha
  rw [hrecover]
  rfl

/-- A recovery goes on. -/
theorem abortAnswered_goesOn {m : Manual} {rs : List StepResult} {l : Loop} {s : State} {b : Bool} (ha : l.act = .recovering none b) :
    abortBus (abortAnswered m rs { s with loop := l }) = abortAnswered m rs { s with loop := l } := abortBus_recovering (b := b) ha

theorem loopClear_held {l : Loop} {s : State} {n : Nat} (hs : s.loop = l) (hn : s.now = n) (hm : l.manual = none) (hh : l.hold.isSome = true) :
    loopClear s = ({ s with loop := { l with hold := none, act := .closing none, actSince := n, signals := closeSignals l.bus } }, 3) := by
  subst hs hn
  unfold loopClear
  split
  · rename_i hsome
    rw [hm] at hsome
    cases hsome
  · rw [if_pos hh]
    rfl

/-- LOOP_ABORT answers with what it finds. -/
theorem loopAbort_held {r : Request} {s t : State} {n : Nat} (h : held r s) (ha : r.args = []) (hc : loopClear (received r s) = (t, n)) :
    exec (.loopAbort r) s = .next (answer r 0x18 .done (encU8 n) t) := by
  have hexec : exec (.loopAbort r) s = .next (done r 0x18 (encU8 (loopClear (received r s)).2) (loopClear (received r s)).1) :=
    argsRequest_held _ _ h (noArgs_nil ha)
  rw [hexec, hc]
  rfl

theorem loopRun_held {r : Request} {ss : List ScriptStep} {s : State} (h : held r s) (hread : manualScript r = some ss) :
    exec (.loopRun r) s = .next (loopRunBody r ss (received r s)) := argsRequest_held _ _ h hread

/-- A LOOP_RUN that is allowed where it is walked from. -/
theorem loopRun_walks {r : Request} {ss : List ScriptStep} {s : State} (h : held r s) (hread : manualScript r = some ss)
    (hw : walk (walkFrom s.loop) ss ≠ none) (hq : s.fire.state = .quiet) : exec (.loopRun r) s =
      .next (if s.loop.manual.isSome then answer r 0x17 .busy [] (received r s) else manualAccept ⟨r.port, r.src, r.id, ss, false⟩ (received r s)) := by
  rw [loopRun_held h hread, loopRunBody_walks (by rw [received_loop]; exact hw) (by rw [received_fire]; exact hq), received_loop]

theorem onLoop_received {r : Request} {s : State} {f : Loop → Loop} : (received r s).onLoop f = { received r s with loop := f s.loop } := by
  rw [State.onLoop, received_loop]

/-- Settles O45. -/
theorem manualTransactions : Obligations.ManualTransactions := by
  refine ⟨fun r s h hread => argsRequest_invalid _ _ h hread, fun r ss s h hread => ?_, fun m st ss s hs hm hsteps hl hh hdue => ?_,
    fun x r st nx d m ns s hs ha ho hst hread hrest hm hsteps hl hh hq hp hdue => ?_,
    fun r st ss s h hread hl hw hq hm ha => ?_,
    fun ack x r st m s hs ha ho hst hlen hl hgo ht hm hfault hdue => ?_,
    fun r s h ha hm hh => ?_, fun r m s h ha hm hr => ?_, fun r m u s h ha hm hr hact => ?_, fun r m s h ha hm hr => ?_,
    fun r s h ha hm hh => ?_, fun b left t0 s hs hh hdue => ?_⟩
  · intro from_
    refine ⟨fun hno => ?_, fun hw hq hm => ?_, fun hw hq hm hp => ?_, fun hw hq hm hb => ?_⟩
    · rw [loopRun_held h hread, loopRunBody_refused (by rw [received_loop, received_fire]; exact hno)]
    · rw [loopRun_walks h hread hw hq, if_pos (Option.isSome_iff_ne_none.mpr hm)]
    · obtain ⟨hquiet, hscript⟩ := polledRuns_script hp
      rw [loopRun_walks h hread hw hq, if_neg (by simp [hm]), manualAccept_waits (by rw [received_loop]; exact hquiet), onLoop_received, hscript]
    · obtain ⟨hquiet, hscript⟩ := busBusy_script hb
      rw [loopRun_walks h hread hw hq, if_neg (by simp [hm]), manualAccept_waits (by rw [received_loop]; exact hquiet), onLoop_received, hscript]
  · have hstarts := loopResume_manual (s := freed s) rfl hh hm hsteps hl
    exact ⟨fun ha => (busCloseDone_due hs ha hdue).trans (congrArg _ hstarts), fun b ha => (busRecoveryDone_due hs ha hdue).trans (congrArg _ hstarts)⟩
  · have hexec := (loopByteDone_due (x := x) (ack := false) hs ha hst hdue).trans (congrArg _ (byteDone_notAck hread r x s))
    rw [startGiven_frame, ho] at hexec
    obtain ⟨t, ht, hbus, hact, hmanual, hleft⟩ := endAndResume_queued
      (s := { s with loop := busTo .free { s.loop with busFault := faultAfterStart st s.loop }, link := (startGiven st s).link })
      (d := d) (res := .noAnswer) (rs := padResults r.steps (r.results ++ [.notAck])) (by simp) hrest hm hsteps hl hh hq hp
    exact ⟨t, hexec.trans (congrArg _ ht), hbus, hact, hmanual, hleft⟩
  · rw [loopRun_walks h hread hw hq, if_neg (by simp [hm]), manualAccept_starts (by rw [received_loop]; exact ha) rfl hl, onLoop_received, received_now]
    rfl
  · intro res
    have hover : currentStep { r with results := res } = none := by
      have hlength : res.length = r.steps.length := by rw [hlen, List.length_append]; rfl
      rw [currentStep, hlength, List.getElem?_eq_none le_rfl]
    have hsettle (b : BusState) : settle b { r with results := res } = .ended ⟨.manual, .complete, res⟩ := by rw [settle, hover, ho]
    have hend : endScript ⟨.manual, .complete, res⟩ (s.onLoop (busTo (busAfter st))) = manualEnd ⟨.manual, .complete, res⟩ (s.onLoop (busTo (busAfter st))) := rfl
    have hheld := manualEnd_held (rs := res) (s := s.onLoop (busTo (busAfter st))) hm (busAfter_held hl ht)
    have hnext : startNext (endScript ⟨.manual, .complete, res⟩ (s.onLoop (busTo (busAfter st)))) = none := by
      rw [hend, hheld]; rfl
    have hexec := (loopByteDone_due (x := x) (ack := ack) hs ha hst hdue).trans (congrArg _ (byteDone_goesOn hgo r x s))
    rw [startGiven_clear hfault, runOn_ended (hsettle _) hnext, hend, hheld] at hexec
    exact hexec
  · exact loopAbort_held h ha (loopClear_unheld (by rw [received_loop]; exact ⟨hm, hh⟩))
  · have hc := loopClear_queued (m := m) (s := received r s) (by rw [received_loop]; exact hm) hr
    rw [abortAnswered, notRun_bytes, List.length_replicate, received_loop] at hc
    exact loopAbort_held h ha hc
  · have hc := loopClear_runs (received_loop r s) hm hr
    rw [abortAnswered_recovers (l := { s.loop with manual := none, hold := none }) (received_now r s) (.inl ⟨u, hact⟩), hact] at hc
    exact loopAbort_held h ha hc
  · have hc := loopClear_runs (received_loop r s) hm hr
    refine ⟨fun hact => ?_, fun b hact => ?_⟩
    · have hres : abortedResults m s.loop.act = List.replicate m.steps.length .notRun := by rw [hact]; rfl
      rw [abortAnswered_recovers (l := { s.loop with manual := none, hold := none }) (received_now r s) (.inr ⟨_, hact⟩), hres, abortAnswered, notRun_bytes,
        List.length_replicate] at hc
      exact loopAbort_held h ha hc
    · have hres : abortedResults m s.loop.act = List.replicate m.steps.length .notRun := by rw [hact]; rfl
      rw [abortAnswered_goesOn (l := { s.loop with manual := none, hold := none }) hact, hres, abortAnswered, notRun_bytes, List.length_replicate] at hc
      exact loopAbort_held h ha hc
  · exact loopAbort_held h ha (loopClear_held (received_loop r s) (received_now r s) hm hh)
  · have hholdDue : holdDue s.loop.hold s.now = true := by rw [hh]; exact ran_of hdue
    exact (act_running _ hs).trans (congrArg _ (whenDue_true _ _ hholdDue))

end Sys2Proof.Machine
end

section
/-! The cut of RELEASE while DOOR reads closed (R160): no operation that follows a change of the fire state begins it. -/

namespace Sys2Proof.Machine

/-- DOOR reads closed and has not cut RELEASE. -/
def uncut (s : State) : Prop := inputReads s .door = some true ∧ s.lines.cut = false

theorem uncut_congr {s t : State} (hr : inputReads t .door = inputReads s .door) (hc : t.lines.cut = s.lines.cut) (h : uncut s) : uncut t :=
  ⟨hr.trans h.1, hc.trans h.2⟩

/-- An operation that leaves the lines and the tables. -/
theorem uncut_apart {s t : State} (hl : t.lines = s.lines) (hm : t.mgmt = s.mgmt) (h : uncut s) : uncut t :=
  uncut_congr (by rw [inputReads, hl, hm, inputReads]) (by rw [hl]) h

theorem uncut_composeAll {s : State} (h : uncut s) : uncut (composeAll s) := by
  have hreads : inputReads (composeAll s) .door = inputReads s .door := rfl
  have hcut : (composeAll s).lines.cut = cutNow s := rfl
  refine ⟨hreads.trans h.1, ?_⟩
  rw [hcut, cutNow, h.1, h.2]
  simp

theorem uncut_readbackEval (c : Contactor) {s : State} (h : uncut s) : uncut (readbackEval c s) := by
  have hlines : (readbackEval c s).lines.cut = s.lines.cut := by cases c <;> simp [readbackEval, setReadback]
  exact uncut_congr (by simp [inputReads]) hlines h

theorem uncut_faultEval {s : State} (h : uncut s) : uncut (faultEval s) :=
  uncut_congr (by simp [inputReads]) (by simp [faultEval]) h

theorem uncut_refreshLines {s : State} (h : uncut s) : uncut (refreshLines s) := by
  unfold refreshLines
  split
  · exact uncut_composeAll (uncut_faultEval (uncut_readbackEval _ (uncut_readbackEval _ (uncut_composeAll h))))
  · exact h

theorem uncut_endForce (o : Nat) {s : State} (h : uncut s) : uncut (endForce o s) := by
  refine uncut_congr (by simp [inputReads]) ?_ h
  unfold endForce
  split <;> simp

theorem uncut_strayStart (c : Cause) {s : State} (h : uncut s) : uncut (strayStart c s) := by
  unfold strayStart
  exact uncut_refreshLines (uncut_apart (by simp) (by simp) h)

theorem uncut_ite {p : Prop} [Decidable p] {s t : State} (hs : p → uncut s) (ht : ¬p → uncut t) : uncut (if p then s else t) := by
  split
  · exact hs ‹_›
  · exact ht ‹_›

theorem uncut_seqTo (st : SeqState) {s : State} (h : uncut s) : uncut (seqTo st s) := by
  have hshift : uncut (seqShift st s) := uncut_congr ((seqShift_keeps st s).reads _) (by rw [seqShift_lines]) h
  have hblind : uncut (blindEval (seqShift st s)) := uncut_apart (by simp) (by simp) hshift
  have hforces : uncut (if s.seqr.state = .open_ ∧ st ≠ .open_ then endContactorForces (blindEval (seqShift st s)) else blindEval (seqShift st s)) :=
    uncut_ite (fun _ => uncut_endForce _ (uncut_endForce _ (uncut_endForce _ hblind))) fun _ => hblind
  rw [seqTo_eq_shift]
  exact uncut_ite (fun _ => uncut_strayStart _ (uncut_refreshLines hforces)) fun _ => uncut_refreshLines hforces

theorem uncut_onSeqr (f : Sequencer → Sequencer) {s : State} (h : uncut s) : uncut (s.onSeqr f) := h
theorem uncut_raiseNotice (n : Notice) {s : State} (h : uncut s) : uncut (raiseNotice n s) := uncut_apart (by simp) (by simp) h

theorem uncut_lockOut (r : Lockout) {s : State} (h : uncut s) : uncut (lockOut r s) := by
  have hlines : (lockOut r s).lines = (seqTo .lockedOut (s.onSeqr fun q => { q with reason := r })).lines := by simp [lockOut]
  have hseq := uncut_seqTo .lockedOut (uncut_onSeqr (fun q => { q with reason := r }) h)
  exact uncut_congr (s := s) ((lockOut_tidy r s).reads _) (by rw [hlines, hseq.2, h.2]) h

theorem uncut_tripTo (c : Cause) (k : CauseClass) (x : Continuation) {s : State} (h : uncut s) : uncut (tripTo c k x s) :=
  uncut_seqTo _ (uncut_onSeqr _ (uncut_raiseNotice _ h))

theorem uncut_takeBay (c : Cause) {s : State} (h : uncut s) : uncut (takeBay c s) := by
  unfold takeBay
  split
  · exact uncut_seqTo _ (uncut_raiseNotice _ h)
  · exact uncut_seqTo _ (uncut_raiseNotice _ h)
  · exact uncut_seqTo _ (uncut_raiseNotice _ h)
  · exact uncut_tripTo _ _ _ h
  · exact uncut_tripTo _ _ _ h
  · split
    · exact uncut_raiseNotice _ h
    · exact h
  · exact uncut_ite (fun _ => uncut_lockOut _ (uncut_raiseNotice _ h)) fun _ => h
  · exact h
  · exact h

theorem uncut_bayEval {s : State} (h : uncut s) : uncut (bayEval s) := by
  simp only [bayEval]
  exact uncut_ite (fun _ => uncut_takeBay _ (uncut_apart (by simp) (by simp) h)) fun _ => uncut_apart (by simp) (by simp) h

theorem uncut_coolSettle (old : State) (also : Nat → Bool) {s : State} (h : uncut s) : uncut (coolSettle old also s) := by
  simp only [coolSettle]
  have hmgmt (g : Nat → Bool) (l : List Nat) (x : State) : (l.foldl (fun x z => if g z then zoneEval z x else x) x).mgmt = x.mgmt :=
    foldl_keeps State.mgmt _ (fun b a => by split <;> simp) l x
  exact uncut_refreshLines (uncut_bayEval (uncut_apart (zonesEvaluated_lines _ _ _) (hmgmt _ _ _) (uncut_apart (by simp) (by simp) h)))

theorem uncut_reformAll {s : State} (h : uncut s) : uncut (reformAll s) := by
  unfold reformAll
  exact uncut_coolSettle _ _ (uncut_apart (by simp) (by simp) h)

/-- A change of the fire state that does not leave QUIET. -/
theorem uncut_fireTo {new : FireState} {s : State} (hq : s.fire.state ≠ .quiet) (h : uncut s) : uncut (fireTo new s) := by
  have hshift : uncut (fireShift new s) := by
    refine uncut_congr ((fireShift_keeps new s).reads _) ?_ h
    unfold fireShift
    split_ifs <;> simp
  rw [fireTo_eq_shift]
  dsimp only
  rw [if_neg hq]
  exact uncut_refreshLines (uncut_ite (fun _ => uncut_reformAll hshift) fun _ => uncut_takeBay _ (uncut_reformAll hshift))

end Sys2Proof.Machine
end

section
/-! COUNTDOWN_EXPIRY, RELEASE_PULSE_EXPIRY, SOUNDER_PHASE_TOGGLE, and one evaluation of the fire state (O46). -/

namespace Sys2Proof.Machine

/-! ## A change of the fire state (R128, R130, R131, R133, R134) -/

theorem fireTo_fire (new : FireState) (s : State) : (fireTo new s).fire =
    fireEnter new (s.mgmt.loopTables.fire.releaseDelay * Config.second) (holdActive s) s.now s.fire := by
  have hshift : (fireShift new s).fire = fireEnter new (s.mgmt.loopTables.fire.releaseDelay * Config.second) (holdActive s) s.now s.fire := by
    unfold fireShift
    split_ifs <;> simp
  rw [fireTo_eq_shift, ← hshift]
  split_ifs <;> simp

theorem fireTo_reads (new : FireState) (s : State) (i : Input) : inputReads (fireTo new s) i = inputReads s i := (fireTo_tidy new s).reads i
theorem fireTo_tables (new : FireState) (s : State) : (fireTo new s).mgmt.loopTables = s.mgmt.loopTables :=
  congrArg (fun x => x.loopGroup.1) (watched_fireTo new s)

theorem holdActive_iff (s : State) : holdActive s = true ↔ inputReads s .hold = some true := by simp [holdActive]
theorem doorClosed_iff (s : State) : doorClosed s = true ↔ inputReads s .door = some true := by simp [doorClosed]

/-- A Loop Master is left as it is by a change of the fire state that does not leave QUIET. -/
theorem fireTo_loop_stays {new : FireState} {s : State} (hq : s.fire.state ≠ .quiet) : (fireTo new s).loop = s.loop := by
  simp only [fireTo, refreshLines_loop, hq, if_false]
  split_ifs <;> simp

theorem fireTo_control (new : FireState) (s : State) : (fireTo new s).lines.control = s.lines.control := (fireTo_tidy new s).control

theorem fireTo_current (new : FireState) {s : State} (h : s.lines.control = true) : linesCurrent (fireTo new s) := by
  have hc := (fireTo_control new s).trans h
  rw [fireTo_eq_shift] at hc ⊢
  dsimp only at hc ⊢
  rw [refreshLines_control] at hc
  exact refreshLines_current fun hf => by rw [hc] at hf; cases hf

/-- RELEASED with DOOR closed drives RELEASE. -/
theorem released_drives {s : State} (h : linesCurrent s) (hc : s.lines.control = true) (hu : uncut s) (hr : s.fire.state = .released)
    (hp : s.fire.pulse.isSome = true) : outLevel s 17 = true := by
  have hcomposed : composed s 17 = true := by
    have hlock : interlocked s 17 = false := by simp [interlocked, hu.1, hu.2]
    have hdemand : demand s 17 = true := by simp [demand, hr, hp]
    simp [composed, hlock, hdemand]
  have hlevel := outLevel_composed (i := 5) h (by decide)
  rw [hlevel, hc]
  exact hcomposed

/-! ## The countdown (R130) -/

/-- The countdown of `s` has run out. -/
theorem countdownOut_of {s : State} {left t0 : Nat} (h : s.fire.countdown = some ⟨left, some t0⟩) (hlate : t0 + left ≤ s.now) : countdownOut s = true := by
  rw [countdownOut, h]
  exact ran_of hlate

theorem expireCountdown_releases {s : State} (hs : s.fire.state = .releasePending) (hout : countdownOut s = true) (hd : inputReads s .door = some true) :
    expireCountdown s = fireTo .released s := if_pos ⟨hs, hout, (doorClosed_iff s).mpr hd⟩

theorem expireCountdown_stays {s : State} (hout : countdownOut s = false) : expireCountdown s = s := if_neg fun h => by rw [hout] at h; exact nomatch h.2.1

/-- RELEASED with its pulse. -/
def releasedNow (now : Nat) (f : Fire) : Prop := f.state = .released ∧ f.countdown = none ∧ f.pulse = some now

theorem fireTo_released (s : State) : releasedNow s.now (fireTo .released s).fire := by
  rw [fireTo_fire]; exact ⟨rfl, rfl, rfl⟩

/-! ## The release test (R129) -/

/-- A release is enabled, and DOOR reads closed. -/
def armed (s : State) : Prop := s.mgmt.loopTables.fire.releaseEnabled = true ∧ inputReads s .door = some true

theorem armed_fireTo (new : FireState) (s : State) : armed (fireTo new s) ↔ armed s := by rw [armed, fireTo_tables, fireTo_reads, armed]

theorem releaseTest_disarmed {announce : Bool} {s : State} (h : ¬armed s) : releaseTest announce s =
    if announce = true ∧ s.mgmt.loopTables.fire.releaseEnabled = true then raiseNotice nReleaseInhibited s else s := by
  unfold releaseTest
  by_cases he : s.mgmt.loopTables.fire.releaseEnabled = true
  · have hd : doorClosed s = false := by
      rw [Bool.eq_false_iff]
      exact fun hd => h ⟨he, (doorClosed_iff s).mp hd⟩
    simp [he, hd, raiseIf]
  · simp [he]

theorem releaseTest_armed {announce : Bool} {s : State} (h : armed s) : releaseTest announce s =
    if s.mgmt.loopTables.fire.releaseDelay = 0 then expireCountdown (fireTo .releasePending s) else fireTo .releasePending s := by
  simp [releaseTest, h.1, (doorClosed_iff s).mpr h.2, fireTo_tables]

/-- The countdown as RELEASE_PENDING begins. -/
theorem fireTo_counts (s : State) : (fireTo .releasePending s).fire.state = .releasePending ∧ (fireTo .releasePending s).fire.countdown =
    some ⟨s.mgmt.loopTables.fire.releaseDelay * 1000000, if inputReads s .hold = some true then none else some s.now⟩ := by
  rw [fireTo_fire]
  refine ⟨rfl, ?_⟩
  simp only [fireEnter, ← holdActive_iff]
  rfl

theorem releaseTest_releases {announce : Bool} {s : State} (h : armed s) (hdelay : s.mgmt.loopTables.fire.releaseDelay = 0)
    (hheld : ¬inputReads s .hold = some true) : releasedNow s.now (releaseTest announce s).fire := by
  obtain ⟨hstate, hcount⟩ := fireTo_counts s
  rw [hdelay, if_neg hheld] at hcount
  have hout : countdownOut (fireTo .releasePending s) = true := countdownOut_of hcount (by rw [fireTo_now, Nat.zero_mul]; exact le_rfl)
  rw [releaseTest_armed h, if_pos hdelay, expireCountdown_releases hstate hout (by rw [fireTo_reads]; exact h.2)]
  simpa only [fireTo_now] using fireTo_released (fireTo .releasePending s)

theorem releaseTest_pends {announce : Bool} {s : State} (h : armed s) (hwait : s.mgmt.loopTables.fire.releaseDelay ≠ 0 ∨ inputReads s .hold = some true) :
    releaseTest announce s = fireTo .releasePending s := by
  rw [releaseTest_armed h]
  split
  · rename_i hdelay
    have hheld := hwait.resolve_left (not_not.mpr hdelay)
    refine expireCountdown_stays ?_
    rw [countdownOut, (fireTo_counts s).2, if_pos hheld]
  · rfl

/-! ## RELEASE_PENDING (R129, R130) -/

theorem pendingEval_disarmed {s : State} (h : ¬armed s) : (pendingEval s).fire.state = .alarm ∧ (pendingEval s).fire.countdown = none := by
  have halarm : (fireTo .alarm s).fire.state = .alarm ∧ (fireTo .alarm s).fire.countdown = none := by
    rw [fireTo_fire]; exact ⟨rfl, rfl⟩
  unfold pendingEval
  by_cases he : s.mgmt.loopTables.fire.releaseEnabled = true
  · have hd : doorClosed s = false := by
      rw [Bool.eq_false_iff]
      exact fun hd => h ⟨he, (doorClosed_iff s).mp hd⟩
    simpa [he, hd] using halarm
  · simpa [he] using halarm

theorem pendingEval_armed {s : State} (h : armed s) : pendingEval s = holdFollow s := by
  simp [pendingEval, h.1, (doorClosed_iff s).mpr h.2]

/-- The countdown takes what is left of it, and follows HOLD. -/
def countdownFollowed (left : Nat) (since : Option Nat) (n : Notice) (s : State) : State :=
  raiseNotice n (s.onFire fun f => { f with countdown := some ⟨left, since⟩ })

theorem countdownFollowed_fire (left : Nat) (since : Option Nat) (n : Notice) (s : State) :
    (countdownFollowed left since n s).fire = { s.fire with countdown := some ⟨left, since⟩ } := by simp [countdownFollowed]

theorem holdFollow_changes {s : State} {c : Countdown} (hc : s.fire.countdown = some c) (h : c.since.isSome = holdActive s) : ∃ n, holdFollow s =
    let t := countdownFollowed (countdownLeft c s.now) (if holdActive s then none else some s.now) n s
    if countdownLeft c s.now = 0 then expireCountdown t else t := by
  refine ⟨nReleaseHold (holdActive s) (countdownLeft c s.now / Config.second), ?_⟩
  rw [holdFollow, hc]
  exact if_pos h

theorem countdownLeft_running (left t0 now : Nat) : countdownLeft ⟨left, some t0⟩ now = left - (now - t0) := rfl
theorem countdownLeft_frozen (left now : Nat) : countdownLeft ⟨left, none⟩ now = left := rfl

theorem holdFollow_freezes {s : State} {left t0 : Nat} (hc : s.fire.countdown = some ⟨left, some t0⟩) (hheld : inputReads s .hold = some true) :
    (holdFollow s).fire = { s.fire with countdown := some ⟨left - (s.now - t0), none⟩ } := by
  have hactive := (holdActive_iff s).mpr hheld
  obtain ⟨n, hn⟩ := holdFollow_changes hc hactive.symm
  have hfire := countdownFollowed_fire (left - (s.now - t0)) none n s
  have hstays : expireCountdown (countdownFollowed (left - (s.now - t0)) none n s) = countdownFollowed (left - (s.now - t0)) none n s :=
    expireCountdown_stays (by rw [countdownOut, hfire])
  rw [hn, hactive, countdownLeft_running]
  dsimp only
  rw [if_pos rfl, hstays, ite_self, hfire]

theorem holdFollow_runs {s : State} {left : Nat} (hc : s.fire.countdown = some ⟨left, none⟩) (hheld : ¬inputReads s .hold = some true) (hleft : left ≠ 0) :
    (holdFollow s).fire = { s.fire with countdown := some ⟨left, some s.now⟩ } := by
  have hactive : holdActive s = false := by rw [Bool.eq_false_iff]; exact fun h => hheld ((holdActive_iff s).mp h)
  obtain ⟨n, hn⟩ := holdFollow_changes hc hactive.symm
  rw [hn, hactive, countdownLeft_frozen]
  dsimp only
  rw [if_neg hleft, if_neg (by simp), countdownFollowed_fire]

theorem holdFollow_releases {s : State} (hs : s.fire.state = .releasePending) (hc : s.fire.countdown = some ⟨0, none⟩) (hheld : ¬inputReads s .hold = some true)
    (hd : inputReads s .door = some true) : releasedNow s.now (holdFollow s).fire := by
  have hactive : holdActive s = false := by rw [Bool.eq_false_iff]; exact fun h => hheld ((holdActive_iff s).mp h)
  obtain ⟨n, hn⟩ := holdFollow_changes hc hactive.symm
  have hfire := countdownFollowed_fire 0 (some s.now) n s
  have hnow : (countdownFollowed 0 (some s.now) n s).now = s.now := by simp [countdownFollowed]
  have hreads : inputReads (countdownFollowed 0 (some s.now) n s) .door = inputReads s .door := by simp [countdownFollowed, inputReads]
  rw [hn, hactive, countdownLeft_frozen]
  dsimp only
  rw [if_pos rfl, if_neg (by simp)]
  generalize countdownFollowed 0 (some s.now) n s = u at *
  have hout : countdownOut u = true := by
    refine countdownOut_of (by rw [hfire]) ?_
    rw [hnow]; exact le_rfl
  rw [expireCountdown_releases (by rw [hfire]; exact hs) hout (hreads.trans hd), ← hnow]
  exact fireTo_released u

theorem holdFollow_stays {s : State} {left : Nat} {since : Option Nat} (hc : s.fire.countdown = some ⟨left, since⟩)
    (h : inputReads s .hold = some true ↔ since = none) : holdFollow s = s := by
  have hne : ¬since.isSome = holdActive s := by
    rw [← holdActive_iff] at h
    cases since <;> cases hh : holdActive s <;> simp [hh] at h ⊢
  rw [holdFollow, hc]
  exact if_neg hne

/-! ## One evaluation (R127, R128) -/

theorem detAlarm_iff {s : State} {d : Nat} : d < 24 ∧ detAlarm s d = true ↔ detIn s d .alarm := by
  simp only [detAlarm, detIn, DetCfg.supervised, Bool.and_eq_true, bne_iff_ne, beq_iff_eq, and_assoc]

theorem alarmSource_iff (s : State) : alarmSource s = true ↔ alarmExists s := by
  simp only [alarmSource, List.any_eq_true, List.mem_range, Bool.and_eq_true, Bool.or_eq_true, beq_iff_eq, bne_iff_ne, alarmExists, ← detAlarm_iff,
    or_assoc]
  refine exists_congr fun d => ?_
  constructor
  · rintro ⟨hd, halarm, hkind | hrun | ⟨e, he, ⟨hne, hea⟩, hz⟩⟩
    · exact ⟨⟨hd, halarm⟩, .inl hkind⟩
    · exact ⟨⟨hd, halarm⟩, .inr (.inl hrun)⟩
    · exact ⟨⟨hd, halarm⟩, .inr (.inr ⟨e, hne, ⟨he, hea⟩, hz⟩)⟩
  · rintro ⟨⟨hd, halarm⟩, hkind | hrun | ⟨e, hne, ⟨he, hea⟩, hz⟩⟩
    · exact ⟨hd, halarm, .inl hkind⟩
    · exact ⟨hd, halarm, .inr (.inl hrun)⟩
    · exact ⟨hd, halarm, .inr (.inr ⟨e, he, ⟨hne, hea⟩, hz⟩)⟩

theorem fireTo_state (new : FireState) (s : State) : (fireTo new s).fire.state = new := by rw [fireTo_fire]; rfl

theorem fireEval_alarm (announce : Bool) {s : State} (h : s.fire.state = .alarm) : fireEval announce s = releaseTest announce s := by rw [fireEval, h]
theorem fireEval_released (announce : Bool) {s : State} (h : s.fire.state = .released) : fireEval announce s = s := by rw [fireEval, h]
theorem fireEval_pends (announce : Bool) {s : State} (h : s.fire.state = .releasePending) : fireEval announce s = pendingEval s := by rw [fireEval, h]

theorem fireEval_rises (announce : Bool) {s : State} (h : s.fire.state = .quiet ∨ s.fire.state = .preAlarm) (ha : alarmExists s) :
    fireEval announce s = releaseTest true (fireTo .alarm s) := by
  have hsource := (alarmSource_iff s).mpr ha
  obtain h | h := h <;> simp [fireEval, h, hsource]

theorem fireEval_ends (announce : Bool) {s : State} (h : s.fire.state = .quiet ∨ s.fire.state = .preAlarm) (ha : ¬alarmExists s) (hp : ¬preAlarmExists s) :
    (fireEval announce s).fire.state = .quiet := by
  have hsource : alarmSource s = false := by rw [Bool.eq_false_iff]; exact fun h => ha ((alarmSource_iff s).mp h)
  have hpre : preAlarmSource s = false := by rw [Bool.eq_false_iff]; exact fun h => hp ((preAlarmSource_iff s).mp h)
  obtain h | h := h
  · simp [fireEval, h, hsource, hpre]
  · simp [fireEval, h, hsource, hpre, fireTo_state]

theorem fireEval_preAlarm (announce : Bool) {s : State} (h : s.fire.state = .quiet ∨ s.fire.state = .preAlarm) (ha : ¬alarmExists s) (hp : preAlarmExists s) :
    (fireEval announce s).fire.state = .preAlarm := by
  have hsource : alarmSource s = false := by rw [Bool.eq_false_iff]; exact fun h => ha ((alarmSource_iff s).mp h)
  have hpre : preAlarmSource s = true := (preAlarmSource_iff s).mpr hp
  obtain h | h := h
  · simp [fireEval, h, hsource, hpre, fireTo_state]
  · simp [fireEval, h, hsource, hpre]

/-- A release test that is reached in ALARM, or by a rise to it. -/
structure Tested (announce : Bool) (s u : State) : Prop where
  eval : fireEval announce s = releaseTest announce u ∨ fireEval announce s = releaseTest true u
  state : u.fire.state = .alarm
  armed : armed u ↔ armed s
  delay : u.mgmt.loopTables = s.mgmt.loopTables
  hold : inputReads u .hold = inputReads s .hold
  now : u.now = s.now

theorem fireEval_tests (announce : Bool) {s : State}
    (h : ((s.fire.state = .quiet ∨ s.fire.state = .preAlarm) ∧ alarmExists s) ∨ s.fire.state = .alarm) : ∃ u, Tested announce s u := by
  obtain ⟨hs, ha⟩ | hs := h
  · exact ⟨fireTo .alarm s, .inr (fireEval_rises announce hs ha), fireTo_state _ _, armed_fireTo _ _, fireTo_tables _ _, fireTo_reads _ _ _, fireTo_now _ _⟩
  · exact ⟨s, .inl (fireEval_alarm announce hs), hs, Iff.rfl, rfl, rfl, rfl⟩

theorem Tested.exists {announce : Bool} {s u : State} (h : Tested announce s u) : ∃ b, fireEval announce s = releaseTest b u :=
  h.eval.elim (fun h => ⟨_, h⟩) fun h => ⟨_, h⟩

theorem refreshLines_apart (s : State) : refreshLines s = { s with lines := (refreshLines s).lines, link := (refreshLines s).link } := by
  apply State.eq_of_fields <;> simp

/-- RELEASE without a pulse is inactive. -/
theorem unpulsed_rests {s : State} (h : linesCurrent s) (hc : s.lines.control = true) (hp : s.fire.pulse = none) (hf : s.lines.forces.getD 17 none = none) :
    outLevel s 17 = false := by
  have hcomposed : composed s 17 = false := by
    have hdemand : demand s 17 = false := by simp [demand, hp]
    rw [composed, hdemand, hf]
    simp
  have hlevel := outLevel_composed (i := 5) h (by decide)
  rw [hlevel, hc]
  exact hcomposed

/-- The pulse of RELEASED has ended (R131). -/
theorem releasePulse_ends {s t : State} (ht : t = refreshLines (s.onFire fun f => { f with pulse := none })) :
    t = { s with fire := { s.fire with pulse := none }, lines := t.lines, link := t.link } ∧ t.lines.inputs = s.lines.inputs ∧ t.lines.forces = s.lines.forces ∧
      (s.lines.control = true → coilsUnforced s → outLevel t 17 = false) := by
  have happart := refreshLines_apart (s.onFire fun f => { f with pulse := none })
  have hforces : t.lines.forces = s.lines.forces := by rw [ht]; simp
  rw [← ht] at happart
  refine ⟨happart, by rw [ht]; simp, hforces, fun hc hu => ?_⟩
  have hcurrent : linesCurrent t := by
    rw [ht]
    exact refreshLines_current fun hf => by rw [State.onFire_lines, hc] at hf; cases hf
  exact unpulsed_rests hcurrent (by rw [ht, refreshLines_control]; exact hc) (by rw [ht]; simp) (by rw [hforces]; exact hu 17 (by simp))

theorem sounderPhase_turns {s t : State} (f : Fire → Fire) (ht : t = refreshLines (s.onFire f)) :
    t = { s with lines := t.lines, link := t.link, fire := f s.fire } ∧ t.lines.inputs = s.lines.inputs ∧ t.lines.forces = s.lines.forces := by
  have happart := refreshLines_apart (s.onFire f)
  rw [← ht] at happart
  exact ⟨happart, by rw [ht]; simp, by rw [ht]; simp⟩

theorem releasePulseExpiry_due {s : State} {t0 : Nat} (hs : s.phase = .running) (hp : s.fire.pulse = some t0) (hlate : t0 + 2000000 ≤ s.now) :
    exec .releasePulseExpiry s = .next (refreshLines (s.onFire fun f => { f with pulse := none })) := by
  have htwo : 2 * Config.second = 2000000 := rfl
  have hdue : ranOpt s.fire.pulse (2 * Config.second) s.now = true := by
    rw [hp]
    exact ran_of (by rw [htwo]; exact hlate)
  have hexec : exec .releasePulseExpiry s = execReleasePulseExpiry s := rfl
  rw [hexec, execReleasePulseExpiry, act_running _ hs, whenDue_true _ _ hdue]

theorem sounderPhaseToggle_due {s : State} (hs : s.phase = .running) (hst : s.fire.state = .preAlarm) (hlate : s.fire.sounderSince + 1000000 ≤ s.now) :
    exec .sounderPhaseToggle s = .next (refreshLines (s.onFire fun f =>
      { f with sounder := !f.sounder, sounderSince := f.sounderSince + 1000000 })) := by
  have hsecond : Config.second = 1000000 := rfl
  have hran : ran s.fire.sounderSince Config.second s.now = true := ran_of (by rw [hsecond]; exact hlate)
  have hdue : (s.fire.state == .preAlarm && ran s.fire.sounderSince Config.second s.now) = true := by rw [hst, hran]; rfl
  have hexec : exec .sounderPhaseToggle s = execSounderPhaseToggle s := rfl
  rw [hexec, execSounderPhaseToggle, act_running _ hs, whenDue_true _ _ hdue, hsecond]

/-- Settles O46. -/
theorem fireTimersExpire : Obligations.FireTimersExpire := by
  refine ⟨fun s left t0 hs hst hc hlate hd => ?_, fun s t0 hs hp hlate => ?_, fun s hs hst hlate => ?_, fun announce s => ?_⟩
  · have hexpire : expireCountdown s = fireTo .released s := expireCountdown_releases hst (countdownOut_of hc hlate) hd
    have hq : s.fire.state ≠ .quiet := by rw [hst]; decide
    refine ⟨fireTo .released s, (act_running _ hs).trans (congrArg _ hexpire), ?_, fun hcontrol hcut => ?_, fireTo_loop_stays hq, fireTo_cell _ _,
      fireTo_store _ _, fireTo_now _ _, fireTo_pending _ _⟩
    · have hrises : s.fire.state.code < FireState.released.code ∨ FireState.released = .quiet := by rw [hst]; exact .inl (by decide)
      rw [fireTo_fire, fireEnter, if_pos hrises]
      rfl
    · obtain ⟨hstate, -, hpulse⟩ := fireTo_released s
      exact released_drives (fireTo_current _ hcontrol) ((fireTo_control _ _).trans hcontrol) (uncut_fireTo hq ⟨hd, hcut⟩) hstate (by rw [hpulse]; rfl)
  · exact ⟨_, releasePulseExpiry_due hs hp hlate, releasePulse_ends rfl⟩
  · exact ⟨_, sounderPhaseToggle_due hs hst hlate, sounderPhase_turns _ rfl⟩
  · intro t c armed' held'
    have hwatched := watched_fireEval announce s
    have hpending (h : s.fire.state = .releasePending) (ha : armed s) : t = holdFollow s := (fireEval_pends announce h).trans (pendingEval_armed ha)
    refine ⟨congrArg Watched.dets hwatched, fireEval_now _ _, fireEval_cell _ _, fireEval_store _ _, fireEval_ends announce, fireEval_preAlarm announce,
      fun h => ?_, fun h hno => ?_, fun h harmed left since hc => ⟨fun t0 hheld hsince => ?_, fun hheld hsince hleft => ?_, fun hheld hsince hleft => ?_,
        fun hiff => (hpending h harmed).trans (holdFollow_stays hc hiff)⟩, fireEval_released announce⟩
    · obtain ⟨u, hu⟩ := fireEval_tests announce h
      obtain ⟨b, hb⟩ := hu.exists
      have ht : t = releaseTest b u := hb
      refine ⟨fun hno => ?_, fun hs hno => ?_, fun ha hdelay hheld => ?_, fun ha hwait => ?_⟩
      · rw [ht, releaseTest_disarmed fun h => hno (hu.armed.mp h)]
        split
        · rw [raiseNotice_fire]; exact hu.state
        · exact hu.state
      · exact (fireEval_alarm announce hs).trans (releaseTest_disarmed hno)
      · rw [ht, ← hu.now]
        exact releaseTest_releases (hu.armed.mpr ha) (by rw [hu.delay]; exact hdelay) (by rw [hu.hold]; exact hheld)
      · rw [ht, releaseTest_pends (hu.armed.mpr ha) (by rw [hu.delay, hu.hold]; exact hwait)]
        obtain ⟨hstate, hcount⟩ := fireTo_counts u
        rw [hu.delay, hu.hold, hu.now] at hcount
        exact ⟨hstate, hcount⟩
    · have ht : t = pendingEval s := fireEval_pends announce h
      rw [ht]
      exact pendingEval_disarmed hno
    · rw [hpending h harmed]
      exact holdFollow_freezes (hsince ▸ hc) hheld
    · rw [hpending h harmed]
      exact holdFollow_runs (hsince ▸ hc) hheld hleft
    · rw [hpending h harmed]
      exact holdFollow_releases h (hleft ▸ hsince ▸ hc) hheld harmed.2

end Sys2Proof.Machine
end

section
/-! FIRE_RESET and SILENCE (O47). -/

namespace Sys2Proof.Machine

/-! ## FIRE_RESET (R132) -/

/-- Every detector takes new live fields, each by its configuration and its own. -/
theorem detLive_setDets (f : DetCfg → DetLive → DetLive) (l : List Nat) (hl : l.Nodup) (s : State) :
    let t := l.foldl (fun t d => setDet d (f (detCfg t d) (detLive t d)) t) s
    t.mgmt = s.mgmt ∧ t.fire.dets.length = s.fire.dets.length ∧ (∀ d ∉ l, detLive t d = detLive s d) ∧
      (∀ d ∈ l, d < s.fire.dets.length → detLive t d = f (detCfg s d) (detLive s d)) ∧ (∀ d, s.fire.dets.length ≤ d → detLive t d = detLive s d) := by
  dsimp only
  induction l generalizing s with
  | nil => exact ⟨rfl, rfl, fun _ _ => rfl, fun d hd => absurd hd List.not_mem_nil, fun _ _ => rfl⟩
  | cons e l ih =>
    obtain ⟨he, hl⟩ := List.nodup_cons.mp hl
    have hmgmt : (setDet e (f (detCfg s e) (detLive s e)) s).mgmt = s.mgmt := by simp [setDet]
    have hlen : (setDet e (f (detCfg s e) (detLive s e)) s).fire.dets.length = s.fire.dets.length := by simp [setDet]
    have hset := detLive_setDet e (f (detCfg s e) (detLive s e)) s
    have hother (d : Nat) (hd : d ≠ e) := detLive_setDet_other hd (f (detCfg s e) (detLive s e)) s
    obtain ⟨h1, h2, h3, h4, h5⟩ := ih hl (setDet e (f (detCfg s e) (detLive s e)) s)
    have hcfg (d : Nat) : detCfg (setDet e (f (detCfg s e) (detLive s e)) s) d = detCfg s d := by rw [detCfg, hmgmt, detCfg]
    rw [List.foldl_cons]
    refine ⟨h1.trans hmgmt, h2.trans hlen, fun d hd => ?_, fun d hd hlt => ?_, fun d hd => ?_⟩
    · obtain ⟨hne, hd⟩ := not_or.mp (List.mem_cons.not.mp hd)
      rw [h3 d hd, hother d hne]
    · by_cases hde : d = e
      · subst hde; rw [h3 d he, hset hlt]
      · rw [h4 d ((List.mem_cons.mp hd).resolve_left hde) (hlen.symm ▸ hlt), hcfg, hother d hde]
    · rw [h5 d (hlen.symm ▸ hd)]
      by_cases hde : d = e
      · subst hde; exact detLive_setDet_past hd _
      · exact hother d hde

/-- The detectors after an accepted FIRE_RESET. -/
def detsReset (s : State) : State := (List.range 24).foldl (fun t d => setDet d (detReset (detCfg t d) (detLive t d)) t) s

/-- The record of the Fire Supervisor after an accepted FIRE_RESET, before its state follows. -/
def resetCleared (s : State) : State := (detsReset s).onFire fun f => { f with countdown := none, pulse := none, silenced := false }

/-- The state an accepted FIRE_RESET leads to. -/
def fireAfterReset (s : State) : FireState := if preAlarmSource (detsReset s) then .preAlarm else .quiet

theorem fireResetDo_eq (s : State) : fireResetDo s =
    detBlindEval (if (resetCleared s).fire.state = fireAfterReset s then resetCleared s else fireTo (fireAfterReset s) (resetCleared s)) := by
  unfold fireResetDo fireAfterReset resetCleared detsReset
  with_reducible rfl

theorem detsReset_frame (s : State) : (detsReset s).cell = s.cell ∧ (detsReset s).store = s.store ∧ (detsReset s).now = s.now ∧
    (detsReset s).pending = s.pending := by
  have hcell (d : Nat) (l : DetLive) (x : State) : (setDet d l x).cell = x.cell := by simp [setDet]
  have hstore (d : Nat) (l : DetLive) (x : State) : (setDet d l x).store = x.store := by simp [setDet]
  have hnow (d : Nat) (l : DetLive) (x : State) : (setDet d l x).now = x.now := by simp [setDet]
  have hpending (d : Nat) (l : DetLive) (x : State) : (setDet d l x).pending = x.pending := by simp [setDet]
  unfold detsReset
  exact ⟨foldl_keeps State.cell _ (fun x d => hcell d _ x) (List.range 24) s, foldl_keeps State.store _ (fun x d => hstore d _ x) (List.range 24) s,
    foldl_keeps State.now _ (fun x d => hnow d _ x) (List.range 24) s, foldl_keeps State.pending _ (fun x d => hpending d _ x) (List.range 24) s⟩

theorem detsReset_dets (s : State) : (∀ d, d < 24 → d < s.fire.dets.length → detLive (detsReset s) d = detReset (detCfg s d) (detLive s d)) ∧
    ∀ d, s.fire.dets.length ≤ d → detLive (detsReset s) d = detLive s d := by
  obtain ⟨-, -, -, hreset, hpast⟩ := detLive_setDets detReset (List.range 24) List.nodup_range s
  unfold detsReset
  exact ⟨fun d h24 hlt => hreset d (List.mem_range.mpr h24) hlt, hpast⟩

theorem loopTables_watched {s t : State} (h : watched t = watched s) : t.mgmt.loopTables = s.mgmt.loopTables :=
  congrArg (fun x : Watched => x.loopGroup.1) h

theorem preAlarmSource_congr {s t : State} (hm : t.mgmt.loopTables = s.mgmt.loopTables) (hd : detLive t = detLive s) (hc : t.cell = s.cell) :
    preAlarmSource t = preAlarmSource s := by
  have hcfg : detCfg t = detCfg s := by funext d; rw [detCfg, hm, detCfg]
  have hz : zoneSummary t = zoneSummary s := by funext z; rw [zoneSummary, hc, zoneSummary]
  rw [preAlarmSource, hcfg, hd, hz, preAlarmSource]

/-- What an accepted FIRE_RESET leaves (R132). -/
structure FireWasReset (s t : State) : Prop where
  state : t.fire.state = if preAlarmSource t then .preAlarm else .quiet
  countdown : t.fire.countdown = none
  pulse : t.fire.pulse = none
  silenced : t.fire.silenced = false
  blinds : blindsCurrent t
  reset : ∀ d, d < 24 → d < s.fire.dets.length → detLive t d = detReset (detCfg s d) (detLive s d)
  past : ∀ d, s.fire.dets.length ≤ d → detLive t d = detLive s d
  cell : t.cell = s.cell
  store : t.store = s.store
  now : t.now = s.now
  pending : t.pending = s.pending

/-- The state follows, and with it the countdown, the pulse and the silence stay ended. -/
theorem resetCleared_follows (s : State) (new : FireState) (hnew : new = .preAlarm ∨ new = .quiet) : ∃ v : State,
    v = (if (resetCleared s).fire.state = new then resetCleared s else fireTo new (resetCleared s)) ∧ v.fire.state = new ∧ v.fire.countdown = none ∧
      v.fire.pulse = none ∧ v.fire.silenced = false ∧ watched v = watched (detsReset s) ∧ v.cell = (detsReset s).cell ∧ v.store = (detsReset s).store ∧
      v.now = (detsReset s).now ∧ v.pending = (detsReset s).pending := by
  unfold resetCleared
  generalize detsReset s = x
  obtain ⟨y, hy⟩ : ∃ y : State, y = x.onFire fun f => { f with countdown := none, pulse := none, silenced := false } := ⟨_, rfl⟩
  have hwatched : watched y = watched x := by rw [hy]; rfl
  rw [← hy]
  refine ⟨_, rfl, ?_⟩
  split
  · exact ⟨‹_›, by rw [hy]; rfl, by rw [hy]; rfl, by rw [hy]; rfl, hwatched, by rw [hy]; rfl, by rw [hy]; rfl, by rw [hy]; rfl, by rw [hy]; rfl⟩
  · have hfire := fireTo_fire new y
    have hsilenced : y.fire.silenced = false := by rw [hy]; rfl
    refine ⟨fireTo_state _ _, ?_, ?_, ?_, (watched_fireTo _ _).trans hwatched, (fireTo_cell _ _).trans (by rw [hy]; rfl),
      (fireTo_store _ _).trans (by rw [hy]; rfl), (fireTo_now _ _).trans (by rw [hy]; rfl), (fireTo_pending _ _).trans (by rw [hy]; rfl)⟩
    · rw [hfire]; obtain rfl | rfl := hnew <;> rfl
    · rw [hfire]; obtain rfl | rfl := hnew <;> rfl
    · rw [hfire, fireEnter, hsilenced, ite_self]

theorem fireResetDo_reset (s : State) : FireWasReset s (fireResetDo s) := by
  obtain ⟨hcell, hstore, hnow, hpending⟩ := detsReset_frame s
  obtain ⟨hreset, hpast⟩ := detsReset_dets s
  have hto : fireAfterReset s = .preAlarm ∨ fireAfterReset s = .quiet := by unfold fireAfterReset; split <;> simp
  obtain ⟨v, hv, hstate, hcount, hpulse, hsilenced, hwatched, hvcell, hvstore, hvnow, hvpending⟩ := resetCleared_follows s (fireAfterReset s) hto
  have hblinds := detBlindEval_current v
  have hdets : detLive (detBlindEval v) = detLive (detsReset s) := by
    rw [← detLive_watched hwatched]
    funext d
    rw [detLive, detBlindEval_fire_dets, detLive]
  have htables : (detBlindEval v).mgmt.loopTables = (detsReset s).mgmt.loopTables := by
    rw [detBlindEval_mgmt, loopTables_watched hwatched]
  have hsource := preAlarmSource_congr htables hdets (by rw [detBlindEval_cell]; exact hvcell)
  rw [fireResetDo_eq, ← hv]
  exact {
    state := by rw [detBlindEval_fire_state, hstate, fireAfterReset, hsource]
    countdown := by rw [detBlindEval_fire_countdown, hcount]
    pulse := by rw [detBlindEval_fire_pulse, hpulse]
    silenced := by rw [detBlindEval_fire_silenced, hsilenced]
    blinds := hblinds
    reset := fun d h24 hlt => by rw [hdets]; exact hreset d h24 hlt
    past := fun d hge => by rw [hdets]; exact hpast d hge
    cell := by rw [detBlindEval_cell, hvcell, hcell]
    store := by rw [detBlindEval_store, hvstore, hstore]
    now := by rw [detBlindEval_now, hvnow, hnow]
    pending := by rw [detBlindEval_pending, hvpending, hpending] }

/-! ## What blocks it -/

theorem blocksReset_iff {s : State} {cp : Bool} {d : Nat} : d < 24 ∧ blocksReset s cp d = true ↔ lastBlocks s d ∧ ((detCfg s d).kind = .callPoint ↔ cp = true) := by
  have hkind : ((detCfg s d).kind == .callPoint) == cp ↔ ((detCfg s d).kind = .callPoint ↔ cp = true) := by
    cases cp <;> simp
  simp only [blocksReset, lastBlocks, DetCfg.supervised, Bool.and_eq_true, bne_iff_ne, hkind]
  cases (detLive s d).last with
  | none => simp
  | some x =>
    have hreads : (if cp then x != 0 else decide ((detCfg s d).alarm ≤ x)) = true ↔
        (cp = true ∧ x ≠ 0) ∨ (cp = false ∧ (detCfg s d).alarm ≤ x) := by cases cp <;> simp
    simp only [hreads, Option.some.injEq, exists_eq_left']
    constructor
    · rintro ⟨h24, ⟨⟨hused, hon⟩, hk⟩, hr⟩
      refine ⟨⟨h24, hused, hon, hr.imp (fun h => ⟨hk.mpr h.1, h.2⟩) fun h => ⟨fun hc => ?_, h.2⟩⟩, hk⟩
      rw [hk.mp hc] at h; exact nomatch h.1
    · rintro ⟨⟨h24, hused, hon, hr⟩, hk⟩
      refine ⟨h24, ⟨⟨hused, hon⟩, hk⟩, hr.imp (fun h => ⟨hk.mp h.1, h.2⟩) fun h => ⟨?_, h.2⟩⟩
      rw [Bool.eq_false_iff]
      exact fun hc => h.1 (hk.mpr hc)

theorem resetBlocker_none {s : State} (h : ∀ d, ¬lastBlocks s d) : resetBlocker s = none := by
  have hno (cp : Bool) : (List.range 24).find? (blocksReset s cp) = none := by
    rw [List.find?_range_eq_none]
    intro d hd
    rw [Bool.not_eq_true', Bool.eq_false_iff]
    exact fun hb => h d (blocksReset_iff.mp ⟨hd, hb⟩).1
  rw [resetBlocker, hno, hno]

theorem resetBlocker_first {s : State} {cp : Bool} {d : Nat} (hd : lastBlocks s d) (hkind : (detCfg s d).kind = .callPoint ↔ cp = true)
    (hfirst : ∀ e, e < d → lastBlocks s e → ¬((detCfg s e).kind = .callPoint ↔ cp = true)) : (List.range 24).find? (blocksReset s cp) = some d := by
  obtain ⟨h24, hb⟩ := blocksReset_iff.mpr ⟨hd, hkind⟩
  rw [List.find?_range_eq_some]
  refine ⟨hb, List.mem_range.mpr h24, fun e he => ?_⟩
  rw [Bool.not_eq_true', Bool.eq_false_iff]
  intro hbe
  obtain ⟨hle, hke⟩ := blocksReset_iff.mp ⟨he.trans h24, hbe⟩
  exact hfirst e he hle hke

theorem resetBlocker_of {s : State} {d : Nat} (hd : lastBlocks s d)
    (h : ((detCfg s d).kind ≠ .callPoint ∧ ∀ e, e < d → lastBlocks s e → (detCfg s e).kind = .callPoint) ∨
      ((detCfg s d).kind = .callPoint ∧ ∀ e, lastBlocks s e → (detCfg s e).kind = .callPoint ∧ d ≤ e)) : resetBlocker s = some d := by
  obtain ⟨hkind, hfirst⟩ | ⟨hkind, hfirst⟩ := h
  · have hfind := resetBlocker_first (cp := false) hd (by simpa using hkind) fun e he hle => by simp [hfirst e he hle]
    rw [resetBlocker, hfind]
  · have hnone : (List.range 24).find? (blocksReset s false) = none := by
      rw [List.find?_range_eq_none]
      intro e he
      rw [Bool.not_eq_true', Bool.eq_false_iff]
      intro hb
      obtain ⟨hle, hke⟩ := blocksReset_iff.mp ⟨he, hb⟩
      simp [(hfirst e hle).1] at hke
    have hfind := resetBlocker_first (cp := true) hd (by simpa using hkind) fun e he hle => absurd (hfirst e hle).2 (by omega)
    rw [resetBlocker, hnone, hfind]

/-- A detector after an accepted FIRE_RESET. -/
theorem detReset_describes (c : DetCfg) (l : DetLive) : (detReset c l).latched = false ∧ (detReset c l).confirm = 0 ∧ (detReset c l).last = l.last ∧
    (l.latched = false → (detReset c l).state = l.state) ∧ (l.latched = true → (detReset c l).state =
      if l.noAnswer = 3 ∨ l.last = none then .fault else if c.kind ≠ .callPoint ∧ ∃ x ∈ l.last, c.preAlarm ≤ x then .preAlarm else .normal) := by
  refine ⟨rfl, rfl, rfl, fun h => by simp [detReset, h], fun h => ?_⟩
  simp only [detReset, h, Bool.not_true, Bool.false_eq_true, if_false]
  cases hl : l.last with
  | none => simp
  | some x => by_cases h3 : l.noAnswer = 3 <;> simp [h3]

/-! ## The requests (R132, R133) -/

theorem fireReset_held {r : Request} {s : State} (h : held r s) (ha : r.args = []) : exec (.fireReset r) s = .next (fireResetBody r (received r s)) :=
  argsRequest_held _ _ h (noArgs_nil ha)

theorem silence_held {r : Request} {s : State} (h : held r s) (ha : r.args = []) : exec (.silence r) s = .next (silenceBody r (received r s)) :=
  argsRequest_held _ _ h (noArgs_nil ha)

theorem lastBlocks_congr {s t : State} (hm : t.mgmt = s.mgmt) (hf : t.fire = s.fire) (d : Nat) : lastBlocks t d ↔ lastBlocks s d := by
  rw [lastBlocks, detCfg, detLive, hm, hf, lastBlocks, detCfg, detLive]

/-- SOUNDER without a force is inactive while silenced. -/
theorem silenced_rests {s : State} (h : linesCurrent s) (hc : s.lines.control = true) (hs : s.fire.silenced = true) (hf : s.lines.forces.getD 18 none = none) :
    outLevel s 18 = false := by
  have hcomposed : composed s 18 = false := by
    have hdemand : demand s 18 = false := by simp [demand, sounderDemand, hs]
    rw [composed, hdemand, hf]
    simp
  have hlevel := outLevel_composed (i := 6) h (by decide)
  rw [hlevel, hc]
  exact hcomposed

/-- Settles O47. -/
theorem fireRequests : Obligations.FireRequests := by
  refine ⟨fun r s h ha hst hno => ?_, fun r d s h ha hst hb hfirst => ?_, fun r s h ha hst => ?_, fun r s h ha hst => ?_, fun r s h ha hst => ?_⟩
  · have hnone : resetBlocker (received r s) = none := resetBlocker_none fun d => (lastBlocks_congr (received_mgmt _ _) (received_fire _ _) d).not.mpr (hno d)
    have hbody : fireResetBody r (received r s) =
        fireResetDo (done r 0x15 (encU8 (fireResetDo (received r s)).fire.state.code) (received r s)) := by
      rw [fireResetBody, if_neg (by rw [received_fire]; exact hst), hnone]
    obtain ⟨u, hu⟩ : ∃ u : State, u = done r 0x15 (encU8 (fireResetDo (received r s)).fire.state.code) (received r s) := ⟨_, rfl⟩
    have hexec := (fireReset_held h ha).trans (congrArg _ hbody)
    have hreset := fireResetDo_reset u
    rw [← hu] at hexec
    have hfire : u.fire = s.fire := by rw [hu, done]; simp
    have hmgmt : u.mgmt = s.mgmt := by rw [hu, done]; simp
    have hcell : u.cell = s.cell := by rw [hu, done]; simp
    have hstore : u.store = s.store := by rw [hu, done]; simp
    have hnow : u.now = s.now := by rw [hu, done]; simp
    have hpending : u.pending = s.pending := by rw [hu, done]; simp
    have hlive (d : Nat) : detLive u d = detLive s d := by rw [detLive, hfire, detLive]
    have hcfg (d : Nat) : detCfg u d = detCfg s d := by rw [detCfg, hmgmt, detCfg]
    generalize fireResetDo u = t at *
    refine ⟨t, hexec, fun hp => ?_, fun hp => ?_, hreset.countdown, hreset.pulse, hreset.silenced, hreset.blinds, fun d hd => ?_, hreset.cell.trans hcell,
      hreset.store.trans hstore, hreset.now.trans hnow, hreset.pending.trans hpending⟩
    · rw [hreset.state, if_pos ((preAlarmSource_iff t).mpr hp)]
    · rw [hreset.state, if_neg fun hs => hp ((preAlarmSource_iff t).mp hs)]
    · by_cases hlt : d < s.fire.dets.length
      · obtain ⟨h1, h2, h3, h4, h5⟩ := detReset_describes (detCfg s d) (detLive s d)
        rw [hreset.reset d hd (by rw [hfire]; exact hlt), hcfg, hlive]
        exact ⟨h1, h2, h3, h4, fun _ => h5⟩
      · rw [hreset.past d (by rw [hfire]; omega), hlive]
        have hfresh : detLive s d = freshDet defaultDetector := by
          rw [detLive, List.getD_eq_getElem?_getD, List.getElem?_eq_none (by omega)]; rfl
        rw [hfresh]
        exact ⟨rfl, rfl, rfl, fun _ => rfl, fun h => absurd h hlt⟩
  · have hsome : resetBlocker (received r s) = some d := by
      have hcfg (e : Nat) : detCfg (received r s) e = detCfg s e := by rw [detCfg, received_mgmt, detCfg]
      have hlast := lastBlocks_congr (received_mgmt r s) (received_fire r s)
      exact resetBlocker_of ((hlast d).mpr hb) (by simp only [hcfg, hlast]; exact hfirst)
    rw [fireReset_held h ha, fireResetBody, if_neg (by rw [received_fire]; exact hst), hsome]
  · rw [fireReset_held h ha, fireResetBody, if_pos (by rw [received_fire]; exact hst)]
    rfl
  · obtain ⟨v, hv⟩ : ∃ v : State, v = refreshLines ((received r s).onFire fun f => { f with silenced := true }) := ⟨_, rfl⟩
    obtain ⟨happart, hinputs, hforces⟩ := sounderPhase_turns _ hv
    have hbody : silenceBody r (received r s) = answer r 0x16 .done [] v := by
      rw [silenceBody, if_neg (by rw [received_fire]; exact hst), hv]; rfl
    refine ⟨answer r 0x16 .done [] v, (silence_held h ha).trans (congrArg _ hbody), ?_, by rw [answer_lines, hinputs, received_lines],
      by rw [answer_lines, hforces, received_lines], fun hc hf => ?_⟩
    · have hanswer : answer r 0x16 .done [] v = { v with link := (answer r 0x16 .done [] v).link } := by apply State.eq_of_fields <;> simp
      rw [received_fire] at happart
      rw [answer_lines]
      exact hanswer.trans (congrArg (fun x : State => { x with link := (answer r 0x16 .done [] v).link }) happart)
    · have hcontrol : v.lines.control = true := by rw [hv, refreshLines_control, State.onFire_lines, received_lines]; exact hc
      have hcurrent : linesCurrent v := by
        rw [hv]
        exact refreshLines_current fun hf => by rw [State.onFire_lines, received_lines, hc] at hf; cases hf
      have hlevel := silenced_rests hcurrent hcontrol (by rw [happart]) (by rw [hforces, received_lines]; exact hf)
      rw [outLevel, answer_lines]
      exact hlevel
  · rw [silence_held h ha, silenceBody, if_pos (by rw [received_fire]; exact hst)]

end Sys2Proof.Machine
end

section
/-! The step timers of the Connection Sequencer and metering blind (O48). -/

namespace Sys2Proof.Machine

theorem ranOpt_of {o : Option Nat} {since dur now : Nat} (ho : o = some since) (h : since + dur ≤ now) : ranOpt o dur now = true := by
  rw [ho]; exact ran_of h

/-! ## Metering blind (R142) -/

/-- The record once metering blind has been evaluated: its onset, its end, or no change. -/
def blindNext (should : Bool) (now : Nat) (q : Sequencer) : Sequencer :=
  if should && !q.blind then { q with blind := true, blindSince := some now, stages := List.replicate 6 none, rocofRun := 0 }
  else if !should && q.blind then { q with blind := false, blindSince := none }
  else q

theorem blindNext_blind (should : Bool) (now : Nat) (q : Sequencer) : (blindNext should now q).blind = should := by
  cases should <;> cases hq : q.blind <;> simp [blindNext, hq]

/-- The blind timer runs only while metering is blind. -/
def BlindTimed (q : Sequencer) : Prop := q.blind = true ∨ q.blindSince = none

theorem blindNext_timed (should : Bool) (now : Nat) {q : Sequencer} (h : BlindTimed q) : BlindTimed (blindNext should now q) := by
  unfold blindNext
  split_ifs
  · exact .inl rfl
  · exact .inr rfl
  · exact h

/-- At the onset the timer starts, and a blind that goes on keeps its timer. -/
theorem blindNext_since {should : Bool} {now : Nat} {q : Sequencer} (h : should = true) (hq : q.blind = false) :
    (blindNext should now q).blindSince = some now := by simp [blindNext, h, hq]

theorem blindEval_next (s : State) : (blindEval s).seqr = blindNext (s.seqr.state == .connected && !roleInService s .meter) s.now s.seqr := by
  simp only [blindEval, blindNext]
  split_ifs <;> rfl

theorem meterServing_congr {s t : State} (hm : t.mgmt.ringTables = s.mgmt.ringTables) (hr : t.ring.nodes = s.ring.nodes) : roleInService t .meter = roleInService s .meter :=
  roleInService_congr .meter hm fun a => by rw [liveOf, liveOf, hr]

theorem gateOnset_nodes (g : Nat) (s : State) : (gateOnset g s).ring.nodes = s.ring.nodes := by rw [gateOnset_ring]

/-- What a change of state leaves in the record, metering blind included; a stray trip may start at an opening. -/
theorem seqTo_next (st : SeqState) (s : State) : (seqTo st s).seqr =
    { blindNext (st == .connected && !roleInService s .meter) s.now (seqEnter st s.now s.seqr) with stray := (seqTo st s).seqr.stray } := by
  have hstate : (seqEnter st s.now s.seqr).state = st := rfl
  have hserve (u : State) (hm : u.mgmt.ringTables = s.mgmt.ringTables) (hr : u.ring.nodes = s.ring.nodes) (hq : u.seqr = seqEnter st s.now s.seqr) (hn : u.now = s.now) :
      (blindEval u).seqr = blindNext (st == .connected && !roleInService s .meter) s.now (seqEnter st s.now s.seqr) := by
    rw [blindEval_next, meterServing_congr hm hr, hq, hn, hstate]
  simp only [seqTo]
  split_ifs <;> (try rw [strayStart_seqr]) <;> simp only [refreshLines_seqr, endContactorForces_seqr] <;>
    rw [hserve _ (by simp) (by simp [gateOnset_nodes]) (by simp [State.onSeqr]) (by simp)]

theorem seqTo_blind (st : SeqState) (s : State) : (seqTo st s).seqr.blind = (st == .connected && !roleInService s .meter) := by
  rw [seqTo_next]
  exact blindNext_blind _ _ _

/-! ## Metering blind while the METER keeps its state -/

/-- From `s` to `t` the METER keeps its state: metering blind does not set in while it serves, and its timer runs only while it lasts. -/
structure BlindKept (s t : State) : Prop where
  serves : roleInService t .meter = roleInService s .meter
  timed : BlindTimed s.seqr → BlindTimed t.seqr
  sighted : roleInService s .meter = true → s.seqr.blind = false → t.seqr.blind = false

theorem BlindKept.trans {s t u : State} (h1 : BlindKept s t) (h2 : BlindKept t u) : BlindKept s u :=
  ⟨h2.serves.trans h1.serves, h2.timed ∘ h1.timed, fun h hb => h2.sighted (h1.serves.trans h) (h1.sighted h hb)⟩

theorem BlindKept.of_same {s t : State} (hm : t.mgmt.ringTables = s.mgmt.ringTables) (hr : t.ring.nodes = s.ring.nodes)
    (hb : t.seqr.blind = s.seqr.blind) (hsince : t.seqr.blindSince = s.seqr.blindSince) : BlindKept s t :=
  ⟨meterServing_congr hm hr, fun h => by unfold BlindTimed; rw [hb, hsince]; exact h, fun _ h => hb.trans h⟩

theorem BlindKept.refl (s : State) : BlindKept s s := .of_same rfl rfl rfl rfl
theorem BlindKept.ite {c : Prop} [Decidable c] {s t u : State} (h1 : BlindKept s t) (h2 : BlindKept s u) : BlindKept s (if c then t else u) := by
  split
  · exact h1
  · exact h2

theorem seqTo_blindKept (st : SeqState) (s : State) : BlindKept s (seqTo st s) where
  serves := meterServing_congr (by simp) (by rw [seqTo_ring])
  timed h := by
    have htimed : BlindTimed (seqEnter st s.now s.seqr) := h
    rw [seqTo_next]
    exact blindNext_timed _ _ htimed
  sighted h _ := by rw [seqTo_blind, h, Bool.not_true, Bool.and_false]

theorem tripTo_blindKept (c : Cause) (cl : CauseClass) (k : Continuation) (s : State) : BlindKept s (tripTo c cl k s) := by
  have hset : BlindKept s (tripping c cl k s) := .of_same rfl rfl rfl rfl
  rw [tripTo_eq]
  exact hset.trans (seqTo_blindKept _ _)

theorem lockOut_blindKept (r : Lockout) (s : State) : BlindKept s (lockOut r s) := by
  have hset : BlindKept s (s.onSeqr fun q => { q with reason := r }) := .of_same rfl rfl rfl rfl
  have hseq := hset.trans (seqTo_blindKept .lockedOut _)
  refine hseq.trans (.of_same ?_ ?_ ?_ ?_) <;> simp only [lockOut]
  · exact handLatch_tables _ _ _
  all_goals rfl

theorem takeGrid_blindKept (c : Cause) (s : State) : BlindKept s (takeGrid c s) := .ite (tripTo_blindKept _ _ _ _) (.refl s)

theorem noticed_blindKept (n : Notice) (s : State) : BlindKept s (raiseNotice n s) := .of_same rfl rfl rfl rfl

theorem takeBay_blindKept (c : Cause) (s : State) : BlindKept s (takeBay c s) := by
  unfold takeBay
  split
  · exact (noticed_blindKept _ _).trans (seqTo_blindKept _ _)
  · exact (noticed_blindKept _ _).trans (seqTo_blindKept _ _)
  · exact (noticed_blindKept _ _).trans (seqTo_blindKept _ _)
  · exact tripTo_blindKept _ _ _ _
  · exact tripTo_blindKept _ _ _ _
  · split
    · exact .of_same rfl rfl rfl rfl
    · exact .refl s
  · exact .ite ((noticed_blindKept _ _).trans (lockOut_blindKept _ _)) (.refl s)
  · exact .refl s
  · exact .refl s

theorem bayEval_blindKept (s : State) : BlindKept s (bayEval s) := by
  have hset : BlindKept s (raiseIf (s.cool.bay != bayOf s.cool) (nBayCooling (bayOf s.cool)) (s.onCool fun c => { c with bay := bayOf s.cool })) :=
    .of_same (by simp) (by simp) (by simp) (by simp)
  simp only [bayEval]
  exact .ite (hset.trans (takeBay_blindKept _ _)) hset

theorem coolSettle_blindKept (old : State) (also : Nat → Bool) (s : State) : BlindKept s (coolSettle old also s) := by
  have hzones : BlindKept s ((List.range 4).foldl (fun x z => if also z || zoneTouched old (followPumps s) z then zoneEval z x else x) (followPumps s)) := by
    refine .of_same ?_ ?_ ?_ ?_
    · rw [foldl_keeps (fun x : State => x.mgmt.ringTables) _ (fun b a => by split <;> simp)]; rfl
    · rw [foldl_keeps (fun x : State => x.ring.nodes) _ (fun b a => by split <;> simp)]; rfl
    · rw [foldl_keeps State.seqr _ (fun b a => by split <;> simp)]; rfl
    · rw [foldl_keeps State.seqr _ (fun b a => by split <;> simp)]; rfl
  have hlines (u : State) : BlindKept u (refreshLines u) := .of_same (by simp) (by simp) (by simp) (by simp)
  exact (hzones.trans (bayEval_blindKept _)).trans (hlines _)

theorem reformAll_blindKept (s : State) : BlindKept s (reformAll s) := by
  have hapart : reformOuts s = { s with cool := (reformOuts s).cool } := by apply State.eq_of_fields <;> simp
  have houts : BlindKept s (reformOuts s) := by rw [hapart]; exact .of_same rfl rfl rfl rfl
  exact houts.trans (coolSettle_blindKept _ _ _)

theorem stagesSample_blindKept (m : MeterRec) (s : State) : BlindKept s (stagesSample m s) := by
  simp only [stagesSample]
  generalize hx : s.onSeqr _ = x
  have hset : BlindKept s x := by subst hx; exact .of_same rfl rfl rfl rfl
  refine .ite ?_ (.refl s)
  split
  · exact hset.trans (takeGrid_blindKept _ _)
  · exact .ite (hset.trans (takeGrid_blindKept _ _)) hset

theorem healthySample_blindKept (m : MeterRec) (s : State) : BlindKept s (healthySample m s) := by
  unfold healthySample
  exact .ite (.of_same rfl rfl rfl rfl) (.refl s)

theorem auxTo_blindKept (b : Bool) (s : State) : BlindKept s (auxTo b s) := by
  have hset : BlindKept s (raiseNotice (nAuxSource b) (s.onSeqr fun q => { q with auxBackup := b })) := .of_same rfl rfl rfl rfl
  unfold auxTo
  exact .ite (.refl s) (hset.trans (reformAll_blindKept _))

theorem meterSample_eq (d : MeterSample) (s : State) :
    meterSample d s = auxTo d.backup (healthySample (meterOf s d) (stagesSample (meterOf s d) (metered d s))) := rfl

theorem meterSample_blindKept (d : MeterSample) (s : State) : BlindKept s (meterSample d s) := by
  have hrecord : BlindKept s (metered d s) := .of_same rfl rfl rfl rfl
  rw [meterSample_eq]
  exact ((hrecord.trans (stagesSample_blindKept _ _)).trans (healthySample_blindKept _ _)).trans (auxTo_blindKept _ _)

end Sys2Proof.Machine
end

section
/-! The step timers of the Connection Sequencer, and metering blind as the METER is lost and found (O48). -/

namespace Sys2Proof.Machine

/-! ## The METER becomes SILENT or answers again (R142) -/

theorem roleAddrFrom_role {r : Role} {l : List NodeCfg} {n a : Nat} (h : roleAddrFrom r l n = some a) : n ≤ a ∧ ∃ c, l[a - n]? = some c ∧ c.role = r := by
  induction l generalizing n with
  | nil => simp [roleAddrFrom] at h
  | cons c cs ih =>
    by_cases hc : c.role = r
    · have hn : n = a := by simpa [roleAddrFrom, hc] using h
      subst hn
      exact ⟨le_refl _, c, by simp, hc⟩
    · obtain ⟨hle, x, hx, hr⟩ := ih (by simpa [roleAddrFrom, hc] using h)
      have hstep : a - n = (a - (n + 1)) + 1 := by omega
      exact ⟨by omega, x, by rw [hstep, List.getElem?_cons_succ]; exact hx, hr⟩

/-- One address holds one role. -/
theorem roleAddr_apart {s : State} {r r' : Role} {a : Nat} (h : roleAddr s r = some a) (hne : r' ≠ r) : roleAddr s r' ≠ some a := by
  intro h'
  obtain ⟨-, c, hc, hr⟩ := roleAddrFrom_role h
  obtain ⟨-, c', hc', hr'⟩ := roleAddrFrom_role h'
  rw [hc] at hc'
  cases hc'
  exact hne (hr'.symm.trans hr)

/-- A role another address holds is served as before. -/
theorem roleInService_others {s t : State} {r r' : Role} {a : Nat} (h : roleAddr s r = some a) (hne : r' ≠ r) (hm : t.mgmt.ringTables = s.mgmt.ringTables)
    (hl : ∀ c, c ≠ a → (liveOf t c).state = (liveOf s c).state) : roleInService t r' = roleInService s r' := by
  have haddr : roleAddr t r' = roleAddr s r' := by rw [roleAddr, roleAddr, hm]
  rw [roleInService, roleInService, haddr]
  cases hc : roleAddr s r' with
  | none => rfl
  | some c => exact congrArg (· == _) (hl c fun e => roleAddr_apart h hne (e ▸ hc))

/-- The changed state of a node and the ring-broken flag that follows, before the other blocks take it up (R6, R13). -/
def nodeChanged (a : Nat) (st : NodeState) (f : NodeLive → NodeLive) (s : State) : State :=
  ringBrokenEval (raiseNotice (nNodeState a st) (s.onRing (setLive a fun l => { f l with state := st })))

theorem nodeTo_eq (a : Nat) (st : NodeState) (f : NodeLive → NodeLive) (s : State) :
    nodeTo a st f s = detBlindEval (seqNodes (roleInService s .conv) (coolNode a (nodeChanged a st f s))) := rfl

theorem nodeChanged_seqr (a : Nat) (st : NodeState) (f : NodeLive → NodeLive) (s : State) : (nodeChanged a st f s).seqr = s.seqr := ringBrokenEval_seqr _
theorem nodeChanged_cool (a : Nat) (st : NodeState) (f : NodeLive → NodeLive) (s : State) : (nodeChanged a st f s).cool = s.cool := ringBrokenEval_cool _

/-- The state in which the sequencer sees a changed node: its tables, its clock and its nodes. -/
theorem coolNode_sees (a : Nat) (st : NodeState) (f : NodeLive → NodeLive) (s : State) :
    (coolNode a (nodeChanged a st f s)).mgmt.ringTables = s.mgmt.ringTables ∧ (coolNode a (nodeChanged a st f s)).now = s.now ∧
    (coolNode a (nodeChanged a st f s)).ring.nodes = (nodeTo a st f s).ring.nodes := by
  have hnodes (u : State) : (coolNode a u).ring.nodes = u.ring.nodes := by rw [coolNode, coolSettle_ring]
  refine ⟨?_, ?_, ?_⟩
  · rw [coolNode, coolSettle_latch]
    show (nodeChanged a st f s).mgmt.ringTables = _
    exact congrArg Mgmt.ringTables (ringBrokenEval_mgmt _)
  · rw [coolNode, coolSettle_now]; exact ringBrokenEval_now _
  · rw [hnodes, nodeTo_nodes]; exact ringBrokenEval_nodes _

/-- While no METER serves the healthy clock rests, and metering is blind in CONNECTED; no other cause is taken while the CONVERTER serves. -/
theorem seqNodes_meterLost {c : Bool} {s : State} (hm : roleInService s .meter = false) (hc : c = true → roleInService s .conv = true) :
    (seqNodes c s).seqr = { blindNext (s.seqr.state == .connected) s.now s.seqr with healthySince := none } := by
  have hserve : roleInService (blindEval s) .meter = false := (meterServing_congr (by rw [blindEval_mgmt]) (by rw [blindEval_ring])).trans hm
  have hconv : (c && !roleInService ((blindEval s).onSeqr fun q => { q with healthySince := none }) .conv) = false := by
    have hsame : roleInService ((blindEval s).onSeqr fun q => { q with healthySince := none }) .conv = roleInService s .conv :=
      roleInService_congr .conv (congrArg Mgmt.ringTables (blindEval_mgmt s)) fun a => by
        have hring : ((blindEval s).onSeqr fun q => { q with healthySince := none }).ring = s.ring := blindEval_ring s
        rw [liveOf, liveOf, hring]
    rw [hsame]
    cases c
    · rfl
    · rw [hc rfl]; rfl
  have hstep : seqNodes c s = (blindEval s).onSeqr fun q => { q with healthySince := none } := by
    simp only [seqNodes, hserve, Bool.false_eq_true, if_false]
    exact if_neg (by rw [hconv]; decide)
  have hnext := blindEval_next s
  rw [hm, Bool.not_false, Bool.and_true] at hnext
  rw [hstep, ← hnext]; rfl

/-- The METER becomes SILENT: metering blind sets in where the state stays CONNECTED, and only the cooling failure it may bring ends CONNECTED. -/
theorem meterSilent_blinds {a : Nat} {f : NodeLive → NodeLive} {s : State} (ha : hasEntry s a) (hrole : roleAddr s .meter = some a)
    (hst : s.seqr.state = .connected) (hb : s.seqr.blind = false) :
    ((nodeTo a .silent f s).seqr.state = .connected → (nodeTo a .silent f s).seqr = { s.seqr with
      blind := true, blindSince := some s.now, stages := List.replicate 6 none, rocofRun := 0, healthySince := none }) ∧
    (s.cool.bay = .failed ∨ (nodeTo a .silent f s).cool.bay ≠ .failed → (nodeTo a .silent f s).seqr.state = .connected) := by
  obtain ⟨htables, hnow, hnodes⟩ := coolNode_sees a .silent f s
  have hseen := coolSettle_seen (nodeChanged a .silent f s) (fun z => effNode (nodeChanged a .silent f s) z == some a) (nodeChanged a .silent f s)
  have hlive := nodeTo_live .silent f ha
  have hothers := (nodeTo_frame a .silent f s).2.1
  have hseqr : (nodeTo a .silent f s).seqr = (seqNodes (roleInService s .conv) (coolNode a (nodeChanged a .silent f s))).seqr := by
    rw [nodeTo_eq, detBlindEval_seqr]
  have hcool : (nodeTo a .silent f s).cool = (coolNode a (nodeChanged a .silent f s)).cool := by
    rw [nodeTo_eq, detBlindEval_cool, seqNodes_cool]
  change coolingSeen (nodeChanged a .silent f s) (coolNode a (nodeChanged a .silent f s)) at hseen
  obtain ⟨-, hfails, hstays⟩ := hseen
  rw [nodeChanged_cool, nodeChanged_seqr] at hstays
  rw [nodeChanged_cool] at hfails
  generalize coolNode a (nodeChanged a .silent f s) = x at *
  have hliveX (c : Nat) : liveOf x c = liveOf (nodeTo a .silent f s) c := by rw [liveOf, liveOf, hnodes]
  have hmeter : roleInService x .meter = false := by
    have haddr : roleAddr x .meter = some a := by rw [roleAddr, htables]; exact hrole
    rw [roleInService, haddr]
    simp only [hliveX, hlive]
    rfl
  have hconv : roleInService s .conv = true → roleInService x .conv = true := fun h =>
    (roleInService_others hrole (by decide) htables fun c hc => by rw [hliveX, hothers c hc]).trans h
  have hlost := hseqr.trans (seqNodes_meterLost hmeter hconv)
  rw [hnow] at hlost
  have hkept (hx : x.seqr = s.seqr) : (nodeTo a .silent f s).seqr = { s.seqr with
      blind := true, blindSince := some s.now, stages := List.replicate 6 none, rocofRun := 0, healthySince := none } := by
    rw [hlost, hx, hst]
    simp only [blindNext, hb, beq_self_eq_true, Bool.not_false, Bool.and_self, if_true]
  have hstate : (nodeTo a .silent f s).seqr.state = x.seqr.state := by
    rw [hlost, blindNext]
    split_ifs <;> rfl
  rw [hcool]
  refine ⟨fun h => ?_, fun h => by rw [hkept (hstays h)]; exact hst⟩
  by_cases hfail : s.cool.bay = .failed ∨ x.cool.bay ≠ .failed
  · exact hkept (hstays hfail)
  · rw [not_or, not_not] at hfail
    obtain ⟨htrip, -⟩ := hfails hfail.1 hfail.2
    obtain ⟨htripping, -⟩ := htrip (.inr (by rw [nodeChanged_seqr]; exact hst))
    rw [hstate, htripping] at h
    cases h

/-- The METER answers again: metering blind ends. -/
theorem meterFound_sees {a : Nat} {f : NodeLive → NodeLive} {s : State} (ha : hasEntry s a) (hrole : roleAddr s .meter = some a) (hb : BlindTimed s.seqr) :
    roleInService (nodeTo a .inService f s) .meter = true ∧ (nodeTo a .inService f s).seqr.blind = false ∧ BlindTimed (nodeTo a .inService f s).seqr := by
  obtain ⟨htables, -, hnodes⟩ := coolNode_sees a .inService f s
  have hlive := nodeTo_live .inService f ha
  have hkept := coolSettle_blindKept (nodeChanged a .inService f s) (fun z => effNode (nodeChanged a .inService f s) z == some a) (nodeChanged a .inService f s)
  change BlindKept (nodeChanged a .inService f s) (coolNode a (nodeChanged a .inService f s)) at hkept
  have htimed := hkept.timed (by rw [nodeChanged_seqr]; exact hb)
  have hseqr : (nodeTo a .inService f s).seqr = (seqNodes (roleInService s .conv) (coolNode a (nodeChanged a .inService f s))).seqr := by
    rw [nodeTo_eq, detBlindEval_seqr]
  have htablesN := (nodeTo_frame a .inService f s).2.2
  clear hkept
  generalize coolNode a (nodeChanged a .inService f s) = x at *
  have hmeterN : roleInService (nodeTo a .inService f s) .meter = true := by
    have haddr : roleAddr (nodeTo a .inService f s) .meter = some a := by rw [roleAddr, htablesN]; exact hrole
    rw [roleInService, haddr]
    simp only [hlive]
    rfl
  have hmeter : roleInService x .meter = true := (meterServing_congr (by rw [htables, htablesN]) hnodes).trans hmeterN
  have heval : roleInService (blindEval x) .meter = true := (meterServing_congr (by rw [blindEval_mgmt]) (by rw [blindEval_ring])).trans hmeter
  have hnext := blindEval_next x
  have hblind : (blindEval x).seqr.blind = false := by rw [hnext, blindNext_blind, hmeter, Bool.not_true, Bool.and_false]
  have htimedX : BlindTimed (blindEval x).seqr := by rw [hnext]; exact blindNext_timed _ _ htimed
  have hstep : BlindKept (blindEval x) (seqNodes (roleInService s .conv) x) := by
    simp only [seqNodes, heval, if_true]
    exact .ite (takeBay_blindKept _ _) (.refl _)
  rw [hseqr]
  exact ⟨hmeterN, hstep.sighted heval hblind, hstep.timed htimedX⟩

end Sys2Proof.Machine
end

section
/-! The sequencer's step timers (O48), its pulses and clocks (O49). -/

namespace Sys2Proof.Machine

/-! ## Where a change of state leads -/

theorem seqTo_noticed_moves {st : SeqState} {s : State} (n : Notice) (h1 : s.seqr.state ≠ .connected) (h2 : st ≠ .connected) :
    SeqrMoves s (seqTo st (raiseNotice n s)) := (raiseNotice_moves n s).trans (seqTo_moves h1 h2)

/-- What a lockout leaves in the record (R152). -/
theorem lockOut_record (r : Lockout) (s : State) : (lockOut r s).seqr.state = .lockedOut ∧ (lockOut r s).seqr.reason = r ∧ (lockOut r s).seqr.reclose = 0 := by
  simp [lockOut, State.onMgmt, State.onSeqr]

theorem tripTo_record (c : Cause) (cl : CauseClass) (k : Continuation) (s : State) : (tripTo c cl k s).seqr.state = .tripping ∧
    (tripTo c cl k s).seqr.trip = some ⟨c, cl, k⟩ ∧ (tripTo c cl k s).seqr.stepSince = some s.now ∧ (tripTo c cl k s).seqr.closePulse = false ∧
    (tripTo c cl k s).seqr.reclose = s.seqr.reclose ∧ (tripTo c cl k s).seqr.connectedSince = none := by
  rw [tripTo_eq]
  exact ⟨seqTo_state _ _, seqTo_trip _ _, seqTo_stepSince _ _, seqTo_closePulse _ _, seqTo_reclose _ _, seqTo_connectedSince _ _⟩

theorem blindNext_ended {q : Sequencer} (now : Nat) (h : q.blind = true) : (blindNext false now q).blindSince = none := by simp [blindNext, h]

/-- Leaving CONNECTED joins the gate NOT_CONNECTED (R60). -/
theorem seqTo_gated {st : SeqState} {s : State} (h1 : s.seqr.state = .connected) (h2 : st ≠ .connected) : 2 ∈ (seqTo st s).env.gates := by
  have henv : (seqTo st s).env = (gateOnset 2 (raiseNotice (nSeqState st) (s.onSeqr (seqEnter st s.now)))).env := by
    simp only [seqTo, h1, ne_eq, h2, not_false_eq_true, and_self, if_true, not_true, if_false]
    split_ifs <;> simp
  rw [henv]
  simp [gateOnset, setLimits_env, gateCodes]

/-- A grid cause taken in CONNECTED ends metering blind too. -/
theorem takeGrid_unblinds {c : Cause} {s : State} (h : s.seqr.state = .connected) (hb : s.seqr.blind = true) :
    (takeGrid c s).seqr.blind = false ∧ (takeGrid c s).seqr.blindSince = none ∧ (takeGrid c s).seqr.connectedSince = none ∧ 2 ∈ (takeGrid c s).env.gates := by
  have he : takeGrid c s = seqTo .tripping (tripping c .grid .recloseWait s) := if_pos (.inl h)
  have hend := seqTo_next .tripping (tripping c .grid .recloseWait s)
  have hblind : (seqEnter .tripping s.now (tripping c .grid .recloseWait s).seqr).blind = true := hb
  rw [he]
  refine ⟨by rw [seqTo_blind]; rfl, ?_, by rw [seqTo_connectedSince]; rfl, seqTo_gated h (by decide)⟩
  rw [hend]
  exact blindNext_ended _ hblind

/-! ## The step timers (R141, R142, R145, R146, R149, R151) -/

theorem fiveSeconds : 5 * Config.second = 5000000 := rfl
theorem twoSeconds : 2 * Config.second = 2000000 := rfl
theorem clockSeconds : 900 * Config.second = 900000000 := rfl
theorem oneSecond : Config.second = 1000000 := rfl
theorem pulseTime : 200 * Config.ms = 200000 := rfl
theorem tripTime : 500 * Config.ms = 500000 := rfl

theorem prechargeTimeout_due {s : State} {t0 : Nat} (hs : s.phase = .running) (hst : s.seqr.state = .precharge) (h0 : s.seqr.stepSince = some t0)
    (hlate : t0 + 5000000 ≤ s.now) : exec .prechargeTimeout s = .next (seqTo .opening (raiseNotice nPrechargeFail s)) := by
  have hdue : (s.seqr.state == .precharge && ranOpt s.seqr.stepSince (5 * Config.second) s.now) = true := by
    rw [hst, fiveSeconds, ranOpt_of h0 hlate]; rfl
  have hexec : exec .prechargeTimeout s = execPrechargeTimeout s := rfl
  rw [hexec, execPrechargeTimeout, act_running _ hs, whenDue_true _ _ hdue]

theorem healthyWaitMet_due {s : State} {t0 : Nat} (hs : s.phase = .running) (hst : s.seqr.state = .dcReady ∨ s.seqr.state = .recloseWait)
    (h0 : s.seqr.healthySince = some t0) (hlate : t0 + s.mgmt.ringTables.grid.returnDelay * 1000000 ≤ s.now) :
    exec .healthyWaitMet s = .next (seqEnterTested .closing s) := by
  have hkept : healthyKept s.seqr.state = true := by obtain hst | hst := hst <;> rw [hst] <;> rfl
  have hdue : healthyDue s = true := by rw [healthyDue, hkept, oneSecond, ranOpt_of h0 hlate]; rfl
  have hexec : exec .healthyWaitMet s = execHealthyWaitMet s := rfl
  rw [hexec, execHealthyWaitMet, act_running _ hs, whenDue_true _ _ hdue]

theorem closeTimeout_due {s : State} {t0 : Nat} (hs : s.phase = .running) (hst : s.seqr.state = .closing) (haux : inputReads s .breakerAux ≠ some true)
    (h0 : s.seqr.stepSince = some t0) (hlate : t0 + 500000 ≤ s.now) : exec .closeTimeout s = .next (tripTo .closeFail .grid .recloseWait s) := by
  have hdue : (s.seqr.state == .closing && inputReads s .breakerAux != some true && ranOpt s.seqr.stepSince (500 * Config.ms) s.now) = true := by
    rw [hst, tripTime, ranOpt_of h0 hlate, bne_iff_ne.mpr haux]; rfl
  have hexec : exec .closeTimeout s = execCloseTimeout s := rfl
  rw [hexec, execCloseTimeout, act_running _ hs, whenDue_true _ _ hdue, takeGrid, if_pos (.inr ⟨rfl, hst⟩)]

theorem meterBlindLimit_due {s : State} {t0 : Nat} (hs : s.phase = .running) (hst : s.seqr.state = .connected) (hb : s.seqr.blind = true)
    (h0 : s.seqr.blindSince = some t0) (hlate : t0 + s.mgmt.ringTables.grid.blindLimit * 1000000 ≤ s.now) :
    exec .meterBlindLimit s = .next (takeGrid .meterLost s) := by
  have hdue : blindDue s = true := by rw [blindDue, hst, hb, oneSecond, ranOpt_of h0 hlate]; rfl
  have hexec : exec .meterBlindLimit s = execMeterBlindLimit s := rfl
  rw [hexec, execMeterBlindLimit, act_running _ hs, whenDue_true _ _ hdue]

theorem tripTimeout_due {s : State} {t0 : Nat} (hs : s.phase = .running) (hst : s.seqr.state = .tripping) (haux : inputReads s .breakerAux ≠ some false)
    (h0 : s.seqr.stepSince = some t0) (hlate : t0 + 500000 ≤ s.now) : exec .tripTimeout s = .next (lockOut .breakerFail (raiseNotice nBreakerFail s)) := by
  have hdue : (s.seqr.state == .tripping && inputReads s .breakerAux != some false && ranOpt s.seqr.stepSince (500 * Config.ms) s.now) = true := by
    rw [hst, tripTime, ranOpt_of h0 hlate, bne_iff_ne.mpr haux]; rfl
  have hexec : exec .tripTimeout s = execTripTimeout s := rfl
  rw [hexec, execTripTimeout, act_running _ hs, whenDue_true _ _ hdue]

theorem openingTimeout_due {s : State} {t0 : Nat} (hs : s.phase = .running) (hst : s.seqr.state = .opening) (h0 : s.seqr.stepSince = some t0)
    (hlate : t0 + 2000000 ≤ s.now) : ∃ n, exec .openingTimeout s = .next (lockOut .welded (raiseNotice n s)) := by
  have hdue : (s.seqr.state == .opening && ranOpt s.seqr.stepSince (2 * Config.second) s.now) = true := by
    rw [hst, twoSeconds, ranOpt_of h0 hlate]; rfl
  have hexec : exec .openingTimeout s = execOpeningTimeout s := rfl
  rw [hexec, execOpeningTimeout, act_running _ hs, whenDue_true _ _ hdue]
  exact ⟨_, rfl⟩

/-- A lockout after its notice. -/
theorem lockOut_noticed_frame {r : Lockout} {n : Notice} {s : State} (h : s.seqr.state ≠ .connected) : lockOut r (raiseNotice n s) =
    { s with seqr := (lockOut r (raiseNotice n s)).seqr, lines := (lockOut r (raiseNotice n s)).lines, link := (lockOut r (raiseNotice n s)).link,
             mgmt := handLatch true r s.mgmt } := by
  conv_lhs => rw [lockOut_frame (s := raiseNotice n s) h]
  rfl

theorem roleInService_iff (s : State) (r : Role) : roleInService s r = true ↔ serves s r := by
  rw [roleInService, serves]
  cases roleAddr s r <;> simp

/-- Metering blind is evaluated: its onset, its end, or no change (R142). -/
theorem blindEval_cases (s : State) : (s.seqr.state = .connected ∧ ¬serves s .meter → s.seqr.blind = false → blindEval s = blindOnset s) ∧
    (¬(s.seqr.state = .connected ∧ ¬serves s .meter) → s.seqr.blind = true → blindEval s = blindEnd s) ∧
    ((s.seqr.state = .connected ∧ ¬serves s .meter ↔ s.seqr.blind = true) → blindEval s = s) := by
  have hshould : (s.seqr.state == .connected && !roleInService s .meter) = true ↔ s.seqr.state = .connected ∧ ¬serves s .meter := by
    rw [Bool.and_eq_true, beq_iff_eq, Bool.not_eq_true', ← roleInService_iff, Bool.not_eq_true]
  simp only [← hshould]
  generalize hx : (s.seqr.state == SeqState.connected && !roleInService s .meter) = x
  cases x <;> cases hb : s.seqr.blind <;> simp [blindEval, hx, hb]

/-- Settles O48. -/
theorem sequencerTimersExpire : Obligations.SequencerTimersExpire := by
  refine ⟨fun s t0 hs hst h0 hlate => ?_, fun s t0 hs hst h0 hlate hbay => ?_, fun s t0 hs hst haux h0 hlate => ?_, fun s t0 hs hst hb h0 hlate => ?_,
    fun s t0 hs hst haux h0 hlate => ?_, fun s t0 hs hst h0 hlate => ?_, blindEval_cases, fun a since p s hs h0 hw hlate hA hB ha hrole hin hm hst hb => ?_,
    fun p q t0 since second f d s => ?_⟩
  · exact ⟨_, prechargeTimeout_due hs hst h0 hlate, seqTo_state _ _, seqTo_stepSince _ _, seqTo_noticed_moves _ (by rw [hst]; decide) (by decide)⟩
  · have hne : s.seqr.state ≠ .connected := by obtain hst | hst := hst <;> rw [hst] <;> decide
    refine ⟨_, healthyWaitMet_due hs hst h0 hlate, ?_⟩
    rw [seqEnterTested_passes hbay]
    exact ⟨seqTo_state _ _, seqTo_closePulse _ _, seqTo_stepSince _ _, seqTo_moves hne (by decide)⟩
  · obtain ⟨hstate, htrip, hsince, hpulse, hreclose, -⟩ := tripTo_record .closeFail .grid .recloseWait s
    exact ⟨_, closeTimeout_due hs hst haux h0 hlate, hstate, htrip, hsince, hpulse, hreclose, tripTo_moves (by rw [hst]; decide)⟩
  · obtain ⟨hstate, htrip, hchg, hdis⟩ := takeGrid_connected (c := .meterLost) hst
    obtain ⟨hblind, hsince, hconn, hgate⟩ := takeGrid_unblinds (c := .meterLost) hst hb
    have hdrops : SeqrDrops s (takeGrid .meterLost s) := by rw [takeGrid, if_pos (.inl hst)]; exact tripTo_drops _ _ _ _
    exact ⟨_, meterBlindLimit_due hs hst hb h0 hlate, hstate, htrip, hblind, hsince, hconn, hchg, hdis, hgate, hdrops⟩
  · obtain ⟨hstate, hreason, hreclose⟩ := lockOut_record .breakerFail (raiseNotice nBreakerFail s)
    exact ⟨_, tripTimeout_due hs hst haux h0 hlate, hstate, hreason, hreclose, lockOut_noticed_frame (by rw [hst]; decide)⟩
  · obtain ⟨n, hexec⟩ := openingTimeout_due hs hst h0 hlate
    obtain ⟨hstate, hreason, hreclose⟩ := lockOut_record .welded (raiseNotice n s)
    exact ⟨_, hexec, hstate, hreason, hreclose, lockOut_noticed_frame (by rw [hst]; decide)⟩
  · have hmiss : min 3 ((liveOf s a).missed + 1) = 3 := by omega
    set u := s.onRing (setLive a fun l => { l with missed := min 3 ((liveOf s a).missed + 1) })
    have hfailed : attemptFailed .a a p true s = opportunity .a (nodeTo a .silent id u) := by
      have hmissed : pollMissed a s = nodeTo a .silent id u := if_pos ⟨hin, hmiss⟩
      rw [attemptFailed, Bool.not_true, Bool.and_false, hmissed]
      rfl
    have hentry : hasEntry u a := ⟨ha.1, by rw [State.onRing_ring, setLive_len]; exact ha.2⟩
    obtain ⟨hframe, hnodes, -⟩ := opportunity_frame .a (nodeTo a .silent id u)
    obtain ⟨honset, hstays⟩ := meterSilent_blinds (f := id) hentry hrole hst hb
    have hlive := nodeTo_live .silent id hentry
    refine ⟨_, replyTimeout_due (side := .a) hs (by rw [sideOfPort_eq, if_pos h0]) hw hlate hA hB, ?_⟩
    rw [hfailed]
    refine ⟨by rw [liveOf, hnodes]; exact congrArg NodeLive.state hlive, ?_, ?_⟩ <;> rw [hframe]
    · exact honset
    · exact hstays
  · intro a haw hst hne hx hrole hb
    have hmeterRole : (cfgOf s a).role ≠ .mod := by rw [payloadOf_role hx]; simp [payloadRole]
    obtain ⟨t, y, hexec, ht, -, hlive, -, -, -, hy, -, -⟩ := sample_delivers haw (.inr (.inl hst)) hne hx hmeterRole
    obtain ⟨hans, -⟩ := sample_replies haw hne
    refine ⟨t, hexec, hlive, ?_⟩
    have hseqr : t.seqr = (meterSample d y).seqr := by rw [ht]; rfl
    have hentry := hasEntry_answered hans (admitted_entry haw.2.2.2.2.2.1)
    obtain ⟨k, -, hnode⟩ := hans.node
    set w := sampleAnswered p q .a f s
    set u := w.onRing (setLive a fun l => { l with malformed := false })
    have hsilent : (liveOf w a).state = .silent := by rw [hnode]; exact hst
    have hyTo : y = nodeTo a .inService id u := by rw [hy, replying, if_pos (.inr hsilent)]
    have hentryU : hasEntry u a := ⟨hentry.1, by rw [State.onRing_ring, setLive_len]; exact hentry.2⟩
    have hroleU : roleAddr u .meter = some a := by rw [← hrole]; exact congrArg (fun m : Mgmt => roleAddrFrom .meter m.ringTables.nodes 1) (show w.mgmt = s.mgmt by rw [hans.apart])
    obtain ⟨hserve, hblind, htimed⟩ := meterFound_sees (f := id) hentryU hroleU (.inl (by
      have hseqrU : u.seqr = s.seqr := by rw [show u.seqr = w.seqr from rfl, hans.apart]
      rw [hseqrU]; exact hb))
    rw [← hyTo] at hserve hblind htimed
    have hkept := meterSample_blindKept d y
    have hdark := hkept.sighted hserve hblind
    rw [hseqr]
    exact ⟨hdark, (hkept.timed htimed).resolve_left (by rw [hdark]; decide)⟩

end Sys2Proof.Machine
end

section
/-! The sequencer's pulses and clocks (O49). -/

namespace Sys2Proof.Machine

/-- A stray trip goes on into the states that let it, where no opening starts one (R153). -/
theorem seqTo_stray {st : SeqState} (s : State) (h : st ≠ .opening) : (seqTo st s).seqr.stray = if strayState st then s.seqr.stray else none := by
  have hblind (u : State) : (blindEval u).seqr.stray = u.seqr.stray := by rw [blindEval_seqr]
  simp only [seqTo, h, false_and, if_false, refreshLines_seqr]
  split_ifs <;> simp_all [State.onSeqr, seqEnter]

/-! ## The close pulse and the connected clock (R146, R147) -/

theorem closePulseEnd_due {s : State} {t0 : Nat} (hs : s.phase = .running) (hst : s.seqr.state = .closing) (hp : s.seqr.closePulse = true)
    (h0 : s.seqr.stepSince = some t0) (hlate : t0 + 200000 ≤ s.now) :
    exec .closePulseEnd s = .next (refreshLines (s.onSeqr fun q => { q with closePulse := false })) := by
  have hdue : (s.seqr.state == .closing && s.seqr.closePulse && ranOpt s.seqr.stepSince (200 * Config.ms) s.now) = true := by
    rw [hst, hp, pulseTime, ranOpt_of h0 hlate]; rfl
  have hexec : exec .closePulseEnd s = execClosePulseEnd s := rfl
  rw [hexec, execClosePulseEnd, act_running _ hs, whenDue_true _ _ hdue]

theorem connectedClockExpiry_due {s : State} {t0 : Nat} (hs : s.phase = .running) (hst : s.seqr.state = .connected)
    (h0 : s.seqr.connectedSince = some t0) (hlate : t0 + 900000000 ≤ s.now) :
    exec .connectedClockExpiry s = .next { s with seqr := { s.seqr with reclose := 0 } } := by
  have hdue : (s.seqr.state == .connected && ranOpt s.seqr.connectedSince (900 * Config.second) s.now) = true := by
    rw [hst, clockSeconds, ranOpt_of h0 hlate]; rfl
  have hexec : exec .connectedClockExpiry s = execConnectedClockExpiry s := rfl
  rw [hexec, execConnectedClockExpiry, act_running _ hs, whenDue_true _ _ hdue]
  rfl

/-- BREAKER_CLOSE without a pulse is inactive. -/
theorem unpulsed_open {s : State} (h : linesCurrent s) (hc : s.lines.control = true) (hp : s.seqr.closePulse = false) (hf : s.lines.forces.getD 12 none = none) :
    outLevel s 12 = false := by
  have hcomposed : composed s 12 = false := by
    have hdemand : demand s 12 = false := by simp [demand, hp]
    rw [composed, hdemand, hf]
    simp
  rw [outLevel_composed (i := 0) h (by decide), hc]
  exact hcomposed

/-! ## The end of a trip (R149, R150) -/

theorem tripMet_of {s : State} {t0 : Nat} (hst : s.seqr.state = .tripping) (h0 : s.seqr.stepSince = some t0) (hlate : t0 + 200000 ≤ s.now)
    (haux : inputReads s .breakerAux = some false) : tripMet s = true := by
  rw [tripMet, hst, haux, pulseTime, ranOpt_of h0 hlate]; rfl

theorem tripComplete_opens {c : Cause} {k : CauseClass} {s : State} (h : s.seqr.trip = some ⟨c, k, .opening⟩) : tripComplete s = seqTo .opening s := by
  rw [tripComplete, h]

theorem tripComplete_recloses {c : Cause} {k : CauseClass} {s : State} (h : s.seqr.trip = some ⟨c, k, .recloseWait⟩) (hr : s.seqr.reclose < 3)
    (hbay : bayCondition s .recloseWait = none) : tripComplete s = seqTo .recloseWait (s.onSeqr fun q => { q with reclose := q.reclose + 1 }) := by
  rw [tripComplete, h]
  have hpass : bayCondition (s.onSeqr fun q => { q with reclose := q.reclose + 1 }) .recloseWait = none := hbay
  exact (if_pos hr).trans (seqEnterTested_passes hpass)

theorem tripComplete_limit {c : Cause} {k : CauseClass} {s : State} (h : s.seqr.trip = some ⟨c, k, .recloseWait⟩) (hr : 3 ≤ s.seqr.reclose) :
    tripComplete s = seqTo .opening (s.onSeqr fun q => { q with pendingLockout := some .recloseLimit }) := by
  rw [tripComplete, h]
  exact if_neg (Nat.not_lt.mpr hr)

theorem tripMinPulseExpiry_due {s : State} (hs : s.phase = .running) (h : tripMet s = true) : exec .tripMinPulseExpiry s = .next (tripComplete s) := by
  have hexec : exec .tripMinPulseExpiry s = execTripMinPulseExpiry s := rfl
  rw [hexec, execTripMinPulseExpiry, act_running _ hs, tripTest, if_pos h]

/-! ## A stray trip (R153) -/

theorem strayStop_moves (s : State) : strayStop s = { s with seqr := { s.seqr with stray := none }, lines := (strayStop s).lines, link := (strayStop s).link } := by
  conv_lhs => rw [strayStop, refreshLines_apart]
  rfl

theorem strayTripMinPulse_due {s : State} {c : Cause} {t0 : Nat} (hs : s.phase = .running) (hy : s.seqr.stray = some ⟨c, t0⟩)
    (hlate : t0 + 200000 ≤ s.now) (haux : inputReads s .breakerAux = some false) : exec .strayTripMinPulse s = .next (strayStop s) := by
  have hran : ran t0 (200 * Config.ms) s.now = true := by rw [pulseTime]; exact ran_of hlate
  have hmet : strayMet s = true := by simp only [strayMet, hy, haux, hran, beq_self_eq_true, Bool.and_self]
  have hexec : exec .strayTripMinPulse s = execStrayTripMinPulse s := rfl
  rw [hexec, execStrayTripMinPulse, act_running _ hs, strayTest, if_pos hmet]

theorem strayTripTimeout_due {s : State} {c : Cause} {t0 : Nat} (hs : s.phase = .running) (hy : s.seqr.stray = some ⟨c, t0⟩)
    (hlate : t0 + 500000 ≤ s.now) (haux : inputReads s .breakerAux ≠ some false) : exec .strayTripTimeout s = .next (strayFail s) := by
  have hran : ran t0 (500 * Config.ms) s.now = true := by rw [tripTime]; exact ran_of hlate
  have hexec : exec .strayTripTimeout s = execStrayTripTimeout s := rfl
  rw [hexec, execStrayTripTimeout, act_running _ hs, hy]
  exact congrArg _ (whenDue_true _ _ (by dsimp only; rw [hran, bne_iff_ne.mpr haux]; rfl))

/-- A failed stray trip is LOCKED_OUT with BREAKER_FAIL, from LOCKED_OUT too. -/
theorem strayFail_locks {s : State} (h : s.seqr.state ≠ .connected) : (strayFail s).seqr.state = .lockedOut ∧ (strayFail s).seqr.reason = .breakerFail ∧
    (strayFail s).seqr.stray = none ∧ strayFail s =
      { s with seqr := (strayFail s).seqr, lines := (strayFail s).lines, link := (strayFail s).link, mgmt := handLatch true .breakerFail s.mgmt } := by
  have hstop := strayStop_moves s
  simp only [strayFail]
  generalize strayStop s = u at *
  have hstate : (raiseNotice nBreakerFail u).seqr.state = s.seqr.state := (congrArg (fun x : State => x.seqr.state) hstop : u.seqr.state = _)
  have hstray : (raiseNotice nBreakerFail u).seqr.stray = none := (congrArg (fun x : State => x.seqr.stray) hstop : u.seqr.stray = _)
  by_cases hl : s.seqr.state = .lockedOut
  · rw [if_pos (hstate.trans hl)]
    refine ⟨hstate.trans hl, rfl, hstray, ?_⟩
    rw [hstop]; rfl
  · rw [if_neg (by rw [hstate]; exact hl)]
    obtain ⟨hlocked, hreason, -⟩ := lockOut_record .breakerFail (raiseNotice nBreakerFail u)
    have hframe := lockOut_frame (r := .breakerFail) (s := raiseNotice nBreakerFail u) (by rw [hstate]; exact h)
    refine ⟨hlocked, hreason, ?_, ?_⟩
    · exact (seqTo_stray (st := .lockedOut) ((raiseNotice nBreakerFail u).onSeqr fun q => { q with reason := .breakerFail }) (by decide)).trans hstray
    · conv_lhs => rw [hframe]
      rw [hstop]; rfl

/-- Settles O49. -/
theorem sequencerPulsesEnd : Obligations.SequencerPulsesEnd := by
  refine ⟨fun s t0 hs hst hp h0 hlate => ?_, fun s t0 hs hst h0 hlate => connectedClockExpiry_due hs hst h0 hlate, fun s t0 c k hs hst h0 hlate haux => ?_,
    fun s t0 c hs hy hlate haux => ⟨_, strayTripMinPulse_due hs hy hlate haux, strayStop_moves s⟩, fun s t0 c hs hy hlate haux hst => ?_⟩
  · refine ⟨_, closePulseEnd_due hs hst hp h0 hlate, ?_, fun hc hu => ?_⟩
    · conv_lhs => rw [refreshLines_apart]
      rfl
    · have hcurrent := refreshLines_current (s := s.onSeqr fun q => { q with closePulse := false }) fun h => absurd (hc.symm.trans h) (by decide)
      exact unpulsed_open hcurrent (by simpa using hc) (by simp [State.onSeqr]) (by simpa using hu 12 (.inl rfl))
  · have hne : s.seqr.state ≠ .connected := by rw [hst]; decide
    have hdue := tripMinPulseExpiry_due hs (tripMet_of hst h0 hlate haux)
    refine ⟨fun htrip => ?_, fun htrip hr hbay => ?_, fun htrip hr => ?_⟩
    · rw [tripComplete_opens htrip] at hdue
      exact ⟨_, hdue, seqTo_state _ _, seqTo_pendingLockout _ _, seqTo_moves hne (by decide)⟩
    · rw [tripComplete_recloses htrip hr hbay] at hdue
      exact ⟨_, hdue, seqTo_state _ _, seqTo_reclose _ _, (onSeqr_moves _ s).trans (seqTo_moves hne (by decide))⟩
    · rw [tripComplete_limit htrip hr] at hdue
      exact ⟨_, hdue, seqTo_state _ _, seqTo_pendingLockout _ _, (onSeqr_moves _ s).trans (seqTo_moves hne (by decide))⟩
  · have hne : s.seqr.state ≠ .connected := by obtain hst | hst | hst := hst <;> rw [hst] <;> decide
    exact ⟨_, strayTripTimeout_due hs hy hlate haux, strayFail_locks hne⟩

end Sys2Proof.Machine
end

section
/-! CONNECT, DISCONNECT and RELEASE_LOCKOUT (O50). -/

namespace Sys2Proof.Machine

theorem answer_apart (r : Request) (code : Nat) (st : Status) (b : List Byte) (s : State) :
    answer r code st b s = { s with link := (answer r code st b s).link } := by
  apply State.eq_of_fields <;> simp

theorem answer_moves (r : Request) (code : Nat) (st : Status) (b : List Byte) (s : State) : SeqrMoves s (answer r code st b s) := by
  rw [answer_apart]; rfl

/-! ## The preconditions of CONNECT (Table 8-4) -/

/-- Each test of CONNECT says whether the precondition of its code holds. -/
theorem connectChecks_iff (s : State) : ∀ x ∈ connectChecks s, x.2 = true ↔ connectPre s x.1 := by
  simp only [connectChecks, List.forall_mem_cons, List.not_mem_nil, false_implies, implies_true, and_true]
  refine ⟨?_, ?_, ?_, ?_, ?_, ?_, ?_, ?_, ?_, ?_, ?_, ?_⟩
  · exact beq_iff_eq
  · rfl
  · simp [connectPre, List.any_eq_false]
  · rfl
  · exact decide_eq_true_iff
  · simp [connectPre, and_assoc]
  · exact bne_iff_ne
  · simp [connectPre, reported, Option.isSome_iff_ne_none, and_assoc]
  · simp [connectPre]
  · exact roleInService_iff s .meter
  · exact roleInService_iff s .conv
  · simp [connectPre, readbackFault]

/-- The tests stand in the order of their codes 1 to 12. -/
theorem connectChecks_code {s : State} {j : Nat} (h : j < (connectChecks s).length) : (connectChecks s)[j].1 = j + 1 := by
  have hcodes : (connectChecks s).map (·.1) = (List.range 12).map (· + 1) := rfl
  have hlt : j < 12 := h
  have hget : ((connectChecks s).map (·.1))[j]? = some (connectChecks s)[j].1 := by rw [List.getElem?_map, List.getElem?_eq_getElem h]; rfl
  rw [hcodes, List.getElem?_map, List.getElem?_range hlt] at hget
  exact (Option.some.inj hget).symm

theorem connectRefusal_none {s : State} (hst : s.seqr.state = .open_) (h : ∀ c, connectPre s c) : connectRefusal s = none := by
  have hfind : (connectChecks s).find? (fun x => !x.2) = none := List.find?_eq_none.mpr fun x hx => by
    rw [(connectChecks_iff s x hx).mpr (h _)]; decide
  rw [connectRefusal, if_neg (not_not.mpr hst), hfind]; rfl

/-- The first precondition that fails gives the code. -/
theorem connectRefusal_first {s : State} {c : Nat} (hst : s.seqr.state = .open_) (h : ¬connectPre s c) (hbefore : ∀ k, k < c → connectPre s k) :
    connectRefusal s = some c := by
  have hc : 1 ≤ c ∧ c ≤ 12 := by
    by_contra hout
    refine h ?_
    unfold connectPre
    split <;> first | omega | trivial
  have hlen : c - 1 < (connectChecks s).length := by have : (connectChecks s).length = 12 := rfl; omega
  have hcode : (connectChecks s)[c - 1].1 = c := by rw [connectChecks_code hlen]; omega
  have hfails : (connectChecks s)[c - 1].2 = false := by
    rw [Bool.eq_false_iff, ne_eq, connectChecks_iff s _ (List.getElem_mem _), hcode]; exact h
  have hfind : (connectChecks s).find? (fun x => !x.2) = some (connectChecks s)[c - 1] := by
    refine List.find?_eq_some_iff_getElem.mpr ⟨by rw [hfails]; rfl, c - 1, hlen, rfl, fun j hj => ?_⟩
    have hpass := (connectChecks_iff s _ (List.getElem_mem (by omega : j < (connectChecks s).length))).mpr (by
      rw [connectChecks_code]; exact hbefore _ (by omega))
    rw [hpass]; rfl
  rw [connectRefusal, if_neg (not_not.mpr hst), hfind, Option.map_some, hcode]

theorem connectRefusal_state {s : State} (hst : s.seqr.state ≠ .open_) : connectRefusal s = some 13 := if_pos hst

theorem connectPre_received (r : Request) (s : State) (c : Nat) : connectPre (received r s) c ↔ connectPre s c := by
  have hserve (ro : Role) : serves (received r s) ro ↔ serves s ro := by simp [serves, roleAddr, liveOf]
  unfold connectPre
  split <;> simp [inputReads, hserve]

/-! ## The bodies -/

theorem connect_held {r : Request} {s : State} (h : held r s) (ha : r.args = []) : exec (.connect r) s = .next (connectBody r (received r s)) :=
  argsRequest_held _ _ h (noArgs_nil ha)
theorem disconnect_held {r : Request} {s : State} (h : held r s) (ha : r.args = []) : exec (.disconnect r) s = .next (disconnectBody r (received r s)) :=
  argsRequest_held _ _ h (noArgs_nil ha)
theorem releaseLockout_held {r : Request} {s : State} (h : held r s) (ha : r.args = []) :
    exec (.releaseLockout r) s = .next (releaseBody r (received r s)) := argsRequest_held _ _ h (noArgs_nil ha)

/-- CONNECT with every precondition met enters PRECHARGE; none of them leaves a BAY cause for the entry (R144, R148). -/
theorem connected_bay {s : State} (h : ∀ c, connectPre s c) : bayCondition s .precharge = none := by
  have hestop : inputReads s .estop = some false := (h 8).2.2.2
  have haux : inputReads s .breakerAux = some false := (h 9).1
  have hconv : roleInService s .conv = true := (roleInService_iff s .conv).mpr (h 11)
  have hread : readbackFault s = false := by simpa [connectPre, readbackFault] using h 12
  exact bayCondition_none.mpr ⟨h 1, by rw [hestop]; decide, hconv, hread, h 7, fun _ => by rw [haux]; decide⟩

theorem takeBay_trips {c : Cause} {s : State} (h : s.seqr.state = .closing ∨ s.seqr.state = .connected) : takeBay c s = tripTo c .bay .opening s := by
  obtain h | h := h <;> simp only [takeBay, h]

/-- The counter cleared, before the cause is taken (R148). -/
def counterCleared (r : Request) (s : State) : State := (received r s).onSeqr fun q => { q with reclose := 0 }

theorem disconnectBody_eq (r : Request) (s : State) : disconnectBody r (received r s) =
    answer r 0x13 .done (encU8 (takeBay .disconnect (counterCleared r s)).seqr.state.code) (takeBay .disconnect (counterCleared r s)) := rfl

theorem counterCleared_moves (r : Request) (s : State) : SeqrMoves (received r s) (counterCleared r s) := rfl
theorem counterCleared_seqr (r : Request) (s : State) : (counterCleared r s).seqr = { s.seqr with reclose := 0 } := by simp [counterCleared, State.onSeqr]

/-- The lockout released (R152): OPEN, with the latch record cleared. -/
theorem releaseDo_opens {s : State} (h : s.seqr.state ≠ .connected) : (releaseDo s).seqr.state = .open_ ∧ (releaseDo s).seqr.reason = .none ∧
    (releaseDo s).seqr.reclose = 0 ∧ releaseDo s =
      { s with seqr := (releaseDo s).seqr, lines := (releaseDo s).lines, link := (releaseDo s).link, mgmt := handLatch false .none s.mgmt } := by
  have hmove : SeqrMoves s (seqTo .open_ (s.onSeqr fun q => { q with reason := .none })) :=
    (onSeqr_moves _ s).trans (seqTo_moves h (by decide))
  refine ⟨seqTo_state _ _, seqTo_reason _ _, seqTo_reclose _ _, ?_⟩
  simp only [releaseDo]
  rw [hmove]
  rfl

/-- Settles O50. -/
theorem sequencerRequests : Obligations.SequencerRequests := by
  have hpre (r : Request) (s : State) := connectPre_received r s
  refine ⟨fun r s h ha hst hall => ?_, fun r c s h ha hst hno hbefore => ?_, fun r s h ha hst => ?_, fun r s h ha hst => ?_, fun r s h ha hst => ?_,
    fun r s h ha hst => ?_, fun r s h ha hst => ?_, fun r s h ha hst => ⟨fun c cl ht => ?_, fun ht => ?_⟩, fun r s h ha hst => ?_, fun r s h ha hst hq => ?_,
    fun r s h ha hst hq => ?_⟩
  · have hrefusal := connectRefusal_none (s := received r s) (by rw [received_seqr]; exact hst) fun c => (hpre r s c).mpr (hall c)
    have hbay := connected_bay (s := received r s) fun c => (hpre r s c).mpr (hall c)
    have hbody : connectBody r (received r s) = answer r 0x12 .done [] (seqTo .precharge (received r s)) := by
      rw [connectBody, hrefusal]
      exact congrArg (answer r 0x12 .done []) (seqEnterTested_passes hbay)
    rw [connect_held h ha, hbody]
    refine ⟨_, rfl, by rw [answer_seqr, seqTo_state], by rw [answer_seqr, seqTo_stepSince, received_now]; rfl, ?_⟩
    exact (seqTo_moves (by rw [received_seqr, hst]; decide) (by decide)).trans (answer_moves _ _ _ _ _)
  · have hrefusal := connectRefusal_first (s := received r s) (by rw [received_seqr]; exact hst) ((hpre r s c).not.mpr hno) fun k hk => (hpre r s k).mpr (hbefore k hk)
    rw [connect_held h ha, connectBody, hrefusal]
  · rw [connect_held h ha, connectBody, connectRefusal_state (by rw [received_seqr]; exact hst)]
  · have hseqr := counterCleared_seqr r s
    have hstate : (counterCleared r s).seqr.state = .connected := by rw [hseqr]; exact hst
    obtain ⟨hchg, hdis⟩ := (takeBay_taken .disconnect (counterCleared r s) (by decide)).2.1 hstate
    rw [disconnect_held h ha, disconnectBody_eq]
    rw [takeBay_trips (.inr hstate)] at hchg hdis ⊢
    obtain ⟨h1, h2, -, -, h3, -⟩ := tripTo_record .disconnect .bay .opening (counterCleared r s)
    refine ⟨_, rfl, ?_, ?_, ?_, ?_, ?_, ?_, ?_, ?_, ?_, ?_⟩
    · rw [answer_seqr]; exact h1
    · rw [answer_seqr]; exact h2
    · rw [answer_seqr, h3, hseqr]
    · rw [answer_env]; exact hchg
    · rw [answer_env]; exact hdis
    all_goals simp [counterCleared]
  · have hseqr := counterCleared_seqr r s
    have hne : (counterCleared r s).seqr.state ≠ .connected := by rw [hseqr]; obtain hst | hst | hst := hst <;> (rw [hst]; decide)
    have htake := takeBay_precharged (c := .disconnect) (s := counterCleared r s) (by rw [hseqr]; exact hst)
    rw [disconnect_held h ha, disconnectBody_eq, htake]
    refine ⟨_, rfl, by rw [answer_seqr, seqTo_state], ?_, ?_, ?_⟩
    · rw [answer_seqr, seqTo_reclose, if_neg (by decide)]
      exact congrArg Sequencer.reclose hseqr
    · rw [answer_seqr, seqTo_stepSince]
      exact congrArg some (received_now r s)
    · exact ((counterCleared_moves r s).trans (seqTo_noticed_moves _ hne (by decide))).trans (answer_moves _ _ _ _ _)
  · have hseqr := counterCleared_seqr r s
    have hsame : takeBay .disconnect (counterCleared r s) = counterCleared r s := by
      obtain hst | hst | hst := hst <;> simp [takeBay, hseqr, hst]
    rw [disconnect_held h ha, disconnectBody_eq, hsame, hseqr]
    simp [counterCleared, State.onSeqr]
  · have hseqr := counterCleared_seqr r s
    have hstate : (counterCleared r s).seqr.state = .closing := by rw [hseqr]; exact hst
    obtain ⟨h1, h2, h3, -, h4, -⟩ := tripTo_record .disconnect .bay .opening (counterCleared r s)
    rw [disconnect_held h ha, disconnectBody_eq, takeBay_trips (.inl hstate)]
    refine ⟨_, rfl, ?_, ?_, ?_, ?_, ?_⟩
    · rw [answer_seqr]; exact h1
    · rw [answer_seqr]; exact h2
    · rw [answer_seqr, h4, hseqr]
    · rw [answer_seqr, h3]
      exact congrArg some (received_now r s)
    · exact ((counterCleared_moves r s).trans (tripTo_moves (by rw [hstate]; decide))).trans (answer_moves _ _ _ _ _)
  · have hseqr := counterCleared_seqr r s
    have htake : takeBay .disconnect (counterCleared r s) = raiseNotice (nSeqTrip false .disconnect 0)
        { received r s with seqr := { s.seqr with reclose := 0, trip := some ⟨c, cl, .opening⟩ } } := by
      simp only [takeBay, hseqr, hst, ht]
      simp [counterCleared, State.onSeqr, hst]
    rw [disconnect_held h ha, disconnectBody_eq, htake]
    rfl
  · have hseqr := counterCleared_seqr r s
    have htake : takeBay .disconnect (counterCleared r s) = counterCleared r s := by
      simp only [takeBay, hseqr, hst]
    rw [disconnect_held h ha, disconnectBody_eq, htake, hseqr]
    simp [counterCleared, State.onSeqr]
  · rw [releaseLockout_held h ha, releaseBody, if_pos (by rw [received_seqr]; exact hst)]
  · obtain ⟨h1, h2, h3, hframe⟩ := releaseDo_opens (s := received r s) (by rw [received_seqr, hst]; decide)
    have hbody : releaseBody r (received r s) = answer r 0x14 .done [] (releaseDo (received r s)) := by
      rw [releaseBody, if_neg (by rw [received_seqr, hst]; decide), if_neg (by rw [received_fire, hq]; decide)]
      rfl
    rw [releaseLockout_held h ha, hbody]
    refine ⟨_, rfl, by rw [answer_seqr]; exact h1, by rw [answer_seqr]; exact h2, by rw [answer_seqr]; exact h3, ?_⟩
    have hlinked := congrArg (fun x : State => { x with link := (answer r 0x14 .done [] (releaseDo (received r s))).link }) hframe
    rw [answer_seqr, answer_lines]
    exact (answer_apart _ _ _ _ _).trans (hlinked.trans (by rw [received_mgmt]))
  · rw [releaseLockout_held h ha, releaseBody, if_neg (by rw [received_seqr, hst]; decide), if_pos (by rw [received_fire]; exact hq)]

end Sys2Proof.Machine
end

section
/-! INPUT_RAW_CHANGE and DEBOUNCE_STABLE, and the readers of each input (O51). -/

namespace Sys2Proof.Machine

/-! ## What the readers leave of the inputs -/

@[simp] theorem reformAll_inputs (s : State) : (reformAll s).lines.inputs = s.lines.inputs := by
  rw [reformAll, coolSettle_inputs, reformOuts_lines]

@[simp] theorem abandonRestart_inputs (s : State) : (abandonRestart s).lines.inputs = s.lines.inputs := by
  unfold abandonRestart
  split <;> simp

@[simp] theorem fireTo_inputs (new : FireState) (s : State) : (fireTo new s).lines.inputs = s.lines.inputs := by
  simp only [fireTo, leaveQuiet]
  split_ifs <;> simp

@[simp] theorem releaseTest_inputs (b : Bool) (s : State) : (releaseTest b s).lines.inputs = s.lines.inputs := by
  have hexpire (x : State) : (expireCountdown x).lines.inputs = x.lines.inputs := by unfold expireCountdown; split <;> simp
  simp only [releaseTest]
  split_ifs <;> simp [hexpire]

@[simp] theorem holdFollow_inputs (s : State) : (holdFollow s).lines.inputs = s.lines.inputs := by
  have hexpire (x : State) : (expireCountdown x).lines.inputs = x.lines.inputs := by unfold expireCountdown; split <;> simp
  unfold holdFollow
  split
  · rfl
  · dsimp only
    split_ifs <;> simp [hexpire]

@[simp] theorem fireEval_inputs (b : Bool) (s : State) : (fireEval b s).lines.inputs = s.lines.inputs := by
  unfold fireEval
  split
  · split_ifs <;> simp
  · split_ifs <;> simp
  · simp
  · simp only [pendingEval]
    split_ifs <;> simp
  · rfl

theorem strayTest_inputs (s : State) : (strayTest s).lines.inputs = s.lines.inputs := by
  simp only [strayTest, strayStop]
  split_ifs <;> simp

@[simp] theorem seqEnterTested_inputs (st : SeqState) (s : State) : (seqEnterTested st s).lines.inputs = s.lines.inputs := by
  simp only [seqEnterTested]
  split <;> simp

@[simp] theorem lockOut_inputs (r : Lockout) (s : State) : (lockOut r s).lines.inputs = s.lines.inputs := by simp [lockOut]

theorem tripTest_inputs (s : State) : (tripTest s).lines.inputs = s.lines.inputs := by
  have hcomplete : (tripComplete s).lines.inputs = s.lines.inputs := by
    unfold tripComplete
    split
    · split <;> simp
    · simp
  unfold tripTest
  split
  · exact hcomplete
  · rfl

@[simp] theorem takeGrid_inputs (c : Cause) (s : State) : (takeGrid c s).lines.inputs = s.lines.inputs := by
  simp only [takeGrid, tripTo]
  split_ifs <;> simp

@[simp] theorem openingTest_inputs (s : State) : (openingTest s).lines.inputs = s.lines.inputs := by
  unfold openingTest
  split
  · split
    · simp
    · split <;> simp
  · rfl

theorem breakerReport_inputs (first closed : Bool) (s : State) : (breakerReport first closed s).lines.inputs = s.lines.inputs := by
  cases closed
  · exact (strayTest_inputs _).trans ((tripTest_inputs _).trans (takeGrid_inputs _ _))
  · unfold breakerReport
    rw [if_pos rfl]
    split <;> (try split) <;> simp

theorem inputReaders_inputs (i : Input) (first on : Bool) (s : State) : (inputReaders i first on s).lines.inputs = s.lines.inputs := by
  cases i <;> simp only [inputReaders]
  · exact breakerReport_inputs _ _ _
  · exact openingTest_inputs _
  · exact openingTest_inputs _
  · split_ifs <;> simp
  · exact fireEval_inputs _ _
  · exact fireEval_inputs _ _

end Sys2Proof.Machine
end

section
/-! The report of a debounced input to its readers, one lemma per reader (O51). -/

namespace Sys2Proof.Machine

/-! ## The debounced level (R157, R158) -/

theorem inputs_modified {s : State} {i : Input} (f : InputLive → InputLive) (h : inputIdx i < s.lines.inputs.length) :
    s.lines.inputs.modify (inputIdx i) f = s.lines.inputs.set (inputIdx i) (f (inputLive s i)) := by
  apply List.ext_getElem?
  intro j
  rw [List.getElem?_modify, List.getElem?_set]
  by_cases hj : inputIdx i = j
  · subst hj
    simp [h, inputLive, List.getD]
  · simp [hj]

theorem inputLive_listed {s : State} {i : Input} {t0 : Nat} (h : (inputLive s i).timer = some t0) : inputIdx i < s.lines.inputs.length := by
  by_contra hout
  rw [inputLive, List.getD_eq_getElem?_getD, List.getElem?_eq_none (by omega)] at h
  cases h

theorem inputLive_set {s t : State} {i : Input} {x : InputLive} (hlt : inputIdx i < s.lines.inputs.length)
    (h : t.lines.inputs = s.lines.inputs.set (inputIdx i) x) : inputLive t i = x ∧ ∀ j, j ≠ i → inputLive t j = inputLive s j := by
  refine ⟨by simp [inputLive, List.getD, h, hlt], fun j hj => ?_⟩
  have hne : inputIdx i ≠ inputIdx j := fun e => hj (inputIdx_injective e).symm
  rw [inputLive, inputLive, h, List.getD_eq_getElem?_getD, List.getD_eq_getElem?_getD, List.getElem?_set_ne hne]

/-- What an input means at its raw level. -/
def meaning (s : State) (i : Input) : Bool := (inputLive s i).raw == highMeans s.mgmt.ringTables.line i

/-- The raw level of an input has become its debounced level. -/
def settled (i : Input) (s : State) : State :=
  { s with lines := { s.lines with inputs := s.lines.inputs.set (inputIdx i) ⟨(inputLive s i).raw, none, some (inputLive s i).raw⟩ } }

/-- The report as its readers see it, after INPUT_STATE. -/
def inputReported (i : Input) (s : State) : State := raiseNotice (nInputState i (meaning s i)) (settled i s)

theorem settled_reads {i : Input} {s : State} (hlt : inputIdx i < s.lines.inputs.length) (j : Input) :
    inputReads (settled i s) j = if j = i then some (meaning s i) else inputReads s j := by
  obtain ⟨hself, hother⟩ := inputLive_set (t := settled i s) hlt rfl
  have hread (u : State) : inputReads u j = match (inputLive u j).level with
      | some l => some (l == highMeans u.mgmt.ringTables.line j)
      | none => none := rfl
  by_cases hj : j = i
  · subst hj
    rw [hread, hself, if_pos rfl]; rfl
  · rw [if_neg hj, hread, hread, hother j hj]; rfl

/-- `u` is `s` with the input's report, as far as the readers look. -/
structure Reported (i : Input) (s u : State) : Prop where
  apart : u = { s with lines := u.lines, link := u.link }
  inputs : u.lines.inputs = s.lines.inputs.set (inputIdx i) ⟨(inputLive s i).raw, none, some (inputLive s i).raw⟩
  control : u.lines.control = s.lines.control
  readback : readbackFault u = readbackFault s
  reads : ∀ j, inputReads u j = if j = i then some (meaning s i) else inputReads s j

theorem inputReported_of {i : Input} {s : State} (hlt : inputIdx i < s.lines.inputs.length) : Reported i s (inputReported i s) where
  apart := rfl
  inputs := rfl
  control := rfl
  readback := rfl
  reads := settled_reads hlt

theorem debounceStable_same {i : Input} {t0 : Nat} {s : State} (hs : s.phase = .running) (h0 : (inputLive s i).timer = some t0)
    (hlate : t0 + 20000 ≤ s.now) (hsame : (inputLive s i).level = some (inputLive s i).raw) : exec (.debounceStable i) s = .next (settled i s) := by
  have hexec : exec (.debounceStable i) s = execDebounceStable i s := rfl
  have htime : 20 * Config.ms = 20000 := rfl
  rw [hexec, execDebounceStable, act_running _ hs, whenDue_true _ _ (by rw [htime]; exact ranOpt_of h0 hlate), debounced, if_pos hsame]
  simp only [settled, State.onLines, modInput, inputs_modified _ (inputLive_listed h0)]

theorem debounceStable_changes {i : Input} {t0 : Nat} {s : State} (hs : s.phase = .running) (h0 : (inputLive s i).timer = some t0)
    (hlate : t0 + 20000 ≤ s.now) (hnew : (inputLive s i).level ≠ some (inputLive s i).raw) :
    exec (.debounceStable i) s = .next (refreshLines (inputReaders i (inputLive s i).level.isNone (meaning s i) (inputReported i s))) := by
  have hexec : exec (.debounceStable i) s = execDebounceStable i s := rfl
  have htime : 20 * Config.ms = 20000 := rfl
  have hlt := inputLive_listed h0
  have hset : (s.onLines (modInput i fun x => { x with timer := none, level := some x.raw })) = settled i s := by
    simp only [settled, State.onLines, modInput, inputs_modified _ hlt]
  have hon : (inputReads (settled i s) i == some true) = meaning s i := by
    rw [settled_reads hlt, if_pos rfl]
    cases meaning s i <;> rfl
  rw [hexec, execDebounceStable, act_running _ hs, whenDue_true _ _ (by rw [htime]; exact ranOpt_of h0 hlate), debounced, if_neg hnew, hset, inputReport, hon]
  rfl

theorem rawChange_changes {i : Input} {v : Bool} {s : State} (hlt : inputIdx i < s.lines.inputs.length) (hne : (inputLive s i).raw ≠ v) :
    exec (.inputRawChange i v) s = .next { s with lines := { s.lines with inputs := (s.lines.inputs.set (inputIdx i)
      ⟨v, if s.lines.control then some s.now else none, (inputLive s i).level⟩) } } := by
  have hexec : exec (.inputRawChange i v) s = .next (rawChange i v s) := rfl
  rw [hexec, rawChange, if_neg hne]
  simp only [State.onLines, modInput, inputs_modified _ hlt]

/-! ## The gates as a change of state leaves them -/

theorem seqTo_gates {st : SeqState} {s : State} {g : Nat} (h : st ≠ .connected) (hg : g ∈ gateCodes) (hm : g ∈ s.env.gates) :
    g ∈ (seqTo st s).env.gates := by
  by_cases hc : s.seqr.state = .connected
  · have henv : (seqTo st s).env = (gateOnset 2 (raiseNotice (nSeqState st) (s.onSeqr (seqEnter st s.now)))).env := by
      simp only [seqTo, hc, ne_eq, h, not_false_eq_true, and_self, if_true, not_true, if_false]
      split_ifs <;> simp
    rw [henv]
    simp [gateOnset, setLimits_env, hg, hm]
  · rw [seqTo_moves hc h]; exact hm

theorem takeBay_gates {c : Cause} {s : State} {g : Nat} (hg : g ∈ gateCodes) (hm : g ∈ s.env.gates) : g ∈ (takeBay c s).env.gates := by
  unfold takeBay
  split
  · exact seqTo_gates (by decide) hg hm
  · exact seqTo_gates (by decide) hg hm
  · exact seqTo_gates (by decide) hg hm
  · exact seqTo_gates (by decide) hg hm
  · exact seqTo_gates (by decide) hg hm
  · split <;> exact hm
  · split
    · exact seqTo_gates (by decide) hg hm
    · exact hm
  · exact hm
  · exact hm

/-! ## ESTOP (R60, R148) -/

/-- ESTOP active closes both limits with its gate, and is a BAY cause. -/
theorem estop_acts {s u : State} (hu : u = { s with lines := u.lines, link := u.link }) :
    let t := takeBay .estop (gateOnset 3 u)
    t.env.chg = 0 ∧ t.env.dis = 0 ∧ 3 ∈ t.env.gates ∧
    (s.seqr.state = .connected ∨ s.seqr.state = .closing → t.seqr.state = .tripping ∧ t.seqr.trip = some ⟨.estop, .bay, .opening⟩) ∧
    (s.seqr.state = .precharge ∨ s.seqr.state = .dcReady ∨ s.seqr.state = .recloseWait → t.seqr.state = .opening) ∧
    (s.seqr.state = .open_ ∨ s.seqr.state = .opening ∨ s.seqr.state = .lockedOut → t.seqr = s.seqr) := by
  intro t
  have hseqr : (gateOnset 3 u).seqr = s.seqr := by rw [gateOnset_seqr, hu]
  have henv : (gateOnset 3 u).env.chg = 0 ∧ (gateOnset 3 u).env.dis = 0 ∧ 3 ∈ (gateOnset 3 u).env.gates := by
    simp [gateOnset, setLimits_env, gateCodes]
  have htidy := takeBay_tidy .estop (gateOnset 3 u)
  obtain ⟨htrip, -, hopen, -, -, hrest⟩ := takeBay_taken .estop (gateOnset 3 u) (by decide)
  rw [hseqr] at htrip hopen hrest
  refine ⟨Nat.le_zero.mp (henv.1 ▸ htidy.chg), Nat.le_zero.mp (henv.2.1 ▸ htidy.dis), takeBay_gates (by decide) henv.2.2, fun h => ?_, fun h => (hopen h).1,
    hrest⟩
  obtain ⟨h1, h2, -⟩ := htrip h.symm
  exact ⟨h1, h2⟩

theorem estop_ends {s u : State} (hu : u = { s with lines := u.lines, link := u.link }) : 3 ∉ (gateEnd 3 u).env.gates ∧
    (gateEnd 3 u).env.chg = s.env.chg ∧ (gateEnd 3 u).env.dis = s.env.dis ∧ (gateEnd 3 u).seqr = s.seqr := by
  have henv : (gateEnd 3 u).env = { s.env with gates := s.env.gates.filter fun c => c != 3 } := by
    rw [hu]; simp [gateEnd]
  rw [henv]
  exact ⟨by simp, rfl, rfl, by rw [gateEnd_seqr, hu]⟩

/-! ## BREAKER_AUX closed (R146, R148, R153) -/

/-- A BREAKER_AUX report leaves the other BAY conditions as they were. -/
theorem breakerReported_bay {s u : State} (h : Reported .breakerAux s u) (hbay : bayCondition s .connected = none) :
    bayCondition u .connected = none ∧ (meaning s .breakerAux = false → bayCondition u .recloseWait = none) := by
  obtain ⟨hfire, hestop, hconv, hread, hcool, -⟩ := bayCondition_none.mp hbay
  have hf : u.fire = s.fire := by rw [h.apart]
  have hc : u.cool = s.cool := by rw [h.apart]
  have he : inputReads u .estop = inputReads s .estop := by rw [h.reads, if_neg (by decide)]
  have hr : roleInService u .conv = roleInService s .conv := roleInService_congr .conv (by rw [h.apart]) fun a => by rw [h.apart]; rfl
  have haux : inputReads u .breakerAux = some (meaning s .breakerAux) := by rw [h.reads, if_pos rfl]
  rw [bayCondition_none, bayCondition_none, hf, hc, he, hr, h.readback]
  refine ⟨⟨hfire, hestop, hconv, hread, hcool, fun hst => ?_⟩, fun hm => ⟨hfire, hestop, hconv, hread, hcool, fun _ => ?_⟩⟩
  · simp at hst
  · rw [haux, hm]; decide

/-- In CLOSING the closed breaker connects, blind from the start where no METER serves. -/
theorem breakerClosed_connects {s u : State} {first : Bool} (h : Reported .breakerAux s u) (hst : s.seqr.state = .closing)
    (hbay : bayCondition s .connected = none) :
    let t := breakerReport first true u
    t.seqr.state = .connected ∧ t.seqr.connectedSince = some s.now ∧ (¬serves s .meter → t.seqr.blind = true ∧ (s.seqr.blind = false → t.seqr.blindSince = some s.now)) ∧
    (serves s .meter → t.seqr.blind = false) := by
  have hseqr : u.seqr = s.seqr := by rw [h.apart]
  have hnow : u.now = s.now := by rw [h.apart]
  have hmeter : roleInService u .meter = roleInService s .meter := meterServing_congr (by rw [h.apart]) (by rw [h.apart])
  have he : breakerReport first true u = seqTo .connected u := by
    have hreport : breakerReport first true u = seqEnterTested .connected u := by simp only [breakerReport, hseqr, hst, if_true]
    rw [hreport, seqEnterTested_passes (breakerReported_bay h hbay).1]
  have hnext := seqTo_next .connected u
  rw [hmeter, hnow, hseqr] at hnext
  intro t
  have hconn : t.seqr.connectedSince = some s.now := by
    have := seqTo_connectedSince .connected u
    rw [if_pos rfl, hnow] at this
    exact (congrArg (fun x : State => x.seqr.connectedSince) he).trans this
  have hblind : t.seqr.blind = !roleInService s .meter := by
    have := seqTo_blind .connected u
    rw [hmeter] at this
    exact (congrArg (fun x : State => x.seqr.blind) he).trans this
  refine ⟨(congrArg (fun x : State => x.seqr.state) he).trans (seqTo_state _ _), hconn, fun hno => ?_, fun hyes => ?_⟩
  · have hoff : roleInService s .meter = false := Bool.eq_false_iff.mpr fun e => hno ((roleInService_iff s .meter).mp e)
    refine ⟨by rw [hblind, hoff]; rfl, fun hb => ?_⟩
    have hseqrT : t.seqr = (seqTo .connected u).seqr := congrArg State.seqr he
    rw [hseqrT, hnext]
    exact blindNext_since (by rw [hoff]; rfl) hb
  · rw [hblind, (roleInService_iff s .meter).mpr hyes]; rfl

/-- In OPEN, OPENING and LOCKED_OUT a stray trip starts, or the one that runs goes on. -/
theorem breakerClosed_strays {s u : State} {first : Bool} (h : Reported .breakerAux s u)
    (hst : s.seqr.state = .open_ ∨ s.seqr.state = .opening ∨ s.seqr.state = .lockedOut) :
    (breakerReport first true u).seqr = { s.seqr with stray := some (s.seqr.stray.getD ⟨if first then .startupClosed else .breakerStray, s.now⟩) } ∧
    (breakerReport first true u).lines.control = s.lines.control := by
  have hseqr : u.seqr = s.seqr := by rw [h.apart]
  have hnow : u.now = s.now := by rw [h.apart]
  have he : breakerReport first true u = if u.seqr.stray.isSome then u else strayStart (if first then .startupClosed else .breakerStray) u := by
    obtain hst | hst | hst := hst <;> simp only [breakerReport, hseqr, hst, if_true]
  rw [he]
  cases hy : s.seqr.stray with
  | some y =>
    rw [if_pos (by rw [hseqr, hy]; rfl), hseqr]
    refine ⟨?_, h.control⟩
    rw [Option.getD_some, ← hy]
  | none =>
    rw [if_neg (by rw [hseqr, hy]; decide)]
    refine ⟨?_, by simp [strayStart, h.control]⟩
    simp [strayStart, State.onSeqr, hseqr, hnow]

/-- BREAKER_TRIP is active while it is demanded. -/
theorem demanded_trips {s : State} (h : linesCurrent s) (hc : s.lines.control = true) (hd : demand s 13 = true) : outLevel s 13 = true := by
  have hcomposed : composed s 13 = true := by rw [composed, hd]; rfl
  rw [outLevel_composed (i := 1) h (by decide), hc]
  exact hcomposed

/-! ## BREAKER_AUX open (R147, R149, R150, R153) -/

theorem breakerOpen_eq (first : Bool) (u : State) : breakerReport first false u = strayTest (tripTest (takeGrid .breakerOpened u)) := rfl

/-- A stray trip that has run 200 ms ends; nothing else of the record changes. -/
theorem strayTest_seqr {s : State} (haux : inputReads s .breakerAux = some false) :
    (strayTest s).seqr = { s.seqr with stray := s.seqr.stray.filter fun y => s.now < y.since + 200000 } := by
  cases hy : s.seqr.stray with
  | none =>
    have hstay : strayTest s = s := if_neg (by simp [strayMet, hy])
    rw [hstay, Option.filter_none, ← hy]
  | some y =>
    have hmet : strayMet s = true ↔ y.since + 200000 ≤ s.now := by
      simp only [strayMet, hy, haux, beq_self_eq_true, Bool.true_and, pulseTime]
      exact decide_eq_true_iff
    by_cases hlt : s.now < y.since + 200000
    · have hstay : strayTest s = s := if_neg (by rw [hmet]; omega)
      rw [hstay, Option.filter_some, if_pos (decide_eq_true hlt), ← hy]
    · have hstop : strayTest s = strayStop s := if_pos (hmet.mpr (by omega))
      rw [hstop, Option.filter_some, if_neg (by simpa using hlt)]
      exact congrArg State.seqr (strayStop_moves s)

/-- The test of a stray trip leaves the record but for the stray trip. -/
theorem strayTest_rest (s : State) : (strayTest s).seqr = { s.seqr with stray := (strayTest s).seqr.stray } := by
  unfold strayTest strayStop
  split
  · simp [State.onSeqr]
  · rfl

/-- A trip that has just begun has not run its 200 ms. -/
theorem tripMet_early {s : State} (h : ∀ t1, s.seqr.stepSince = some t1 → s.now < t1 + 200000) : tripMet s = false := by
  have htime : 200 * Config.ms = 200000 := rfl
  rw [tripMet]
  cases h0 : s.seqr.stepSince with
  | none => simp [ranOpt]
  | some t1 => simp [ranOpt, ran, htime, h t1 h0]

/-- From CONNECTED the opened breaker trips toward RECLOSE_WAIT. -/
theorem breakerOpened_trips {first : Bool} {s u : State} (h : Reported .breakerAux s u) (hst : s.seqr.state = .connected) :
    let t := breakerReport first false u
    t.seqr.state = .tripping ∧ t.seqr.trip = some ⟨.breakerOpened, .grid, .recloseWait⟩ ∧ t.seqr.stepSince = some s.now ∧ t.env.chg = 0 ∧ t.env.dis = 0 := by
  have hstate : u.seqr.state = .connected := by rw [h.apart]; exact hst
  have hnow : u.now = s.now := by rw [h.apart]
  have he : takeGrid .breakerOpened u = tripTo .breakerOpened .grid .recloseWait u := if_pos (.inl hstate)
  obtain ⟨h1, h2, hchg, hdis⟩ := takeGrid_connected (c := .breakerOpened) hstate
  have h3 : (takeGrid .breakerOpened u).seqr.stepSince = some u.now := by rw [he]; exact (tripTo_record _ _ _ _).2.2.1
  have hearly : tripTest (takeGrid .breakerOpened u) = takeGrid .breakerOpened u := by
    rw [tripTest, tripMet_early fun t1 ht => ?_]
    · rfl
    · rw [h3] at ht
      cases ht
      rw [takeGrid_now]; omega
  rw [breakerOpen_eq, hearly]
  intro t
  have hrest : t.seqr = _ := strayTest_rest (takeGrid .breakerOpened u)
  have henv : t.env = _ := strayTest_env (takeGrid .breakerOpened u)
  rw [hrest, henv]
  exact ⟨h1, h2, by rw [← hnow]; exact h3, hchg, hdis⟩

/-- In any other state a trip that has not run its 200 ms goes on. -/
theorem breakerOpened_stays {first : Bool} {s u : State} (h : Reported .breakerAux s u) (hm : meaning s .breakerAux = false) (hst : s.seqr.state ≠ .connected)
    (hearly : s.seqr.state ≠ .tripping ∨ ∀ t1, s.seqr.stepSince = some t1 → s.now < t1 + 200000) :
    (breakerReport first false u).seqr = { s.seqr with stray := s.seqr.stray.filter fun y => s.now < y.since + 200000 } := by
  have hseqr : u.seqr = s.seqr := by rw [h.apart]
  have hnow : u.now = s.now := by rw [h.apart]
  have htake : takeGrid .breakerOpened u = u := if_neg (by rw [hseqr]; simp [hst])
  have htest : tripTest u = u := by
    have hmet : tripMet u = false := by
      obtain hne | hlt := hearly
      · simp [tripMet, hseqr, hne]
      · exact tripMet_early (by rw [hseqr, hnow]; exact hlt)
    rw [tripTest, hmet]; rfl
  have haux : inputReads u .breakerAux = some false := by rw [h.reads, if_pos rfl, hm]
  rw [breakerOpen_eq, htake, htest, strayTest_seqr haux, hseqr, hnow]

/-- A trip that has run its 200 ms goes on to its continuation. -/
theorem breakerOpened_completes {first : Bool} {s u : State} {t1 : Nat} (h : Reported .breakerAux s u) (hm : meaning s .breakerAux = false)
    (hst : s.seqr.state = .tripping) (h1 : s.seqr.stepSince = some t1) (hlate : t1 + 200000 ≤ s.now) :
    (breakerReport first false u).seqr = { (tripComplete u).seqr with stray := (breakerReport first false u).seqr.stray } := by
  have hseqr : u.seqr = s.seqr := by rw [h.apart]
  have hnow : u.now = s.now := by rw [h.apart]
  have htake : takeGrid .breakerOpened u = u := if_neg (by rw [hseqr, hst]; simp)
  have hmet : tripMet u = true := tripMet_of (by rw [hseqr]; exact hst) (by rw [hseqr]; exact h1) (by rw [hnow]; exact hlate) (by rw [h.reads, if_pos rfl, hm])
  rw [breakerOpen_eq, htake, tripTest, if_pos hmet]
  exact strayTest_rest _

end Sys2Proof.Machine
end

section
/-! INPUT_RAW_CHANGE and DEBOUNCE_STABLE (O51). -/

namespace Sys2Proof.Machine

theorem breakerReport_apart (first closed : Bool) (s : State) : (breakerReport first closed s).cell = s.cell ∧
    (breakerReport first closed s).store = s.store ∧ (breakerReport first closed s).now = s.now ∧ (breakerReport first closed s).pending = s.pending := by
  unfold breakerReport
  split
  · split <;> (try split) <;> simp
  · simp

/-- The cells, the store, the clock and the queue of commands are not the readers'. -/
theorem inputReaders_apart (i : Input) (first on : Bool) (s : State) : (inputReaders i first on s).cell = s.cell ∧
    (inputReaders i first on s).store = s.store ∧ (inputReaders i first on s).now = s.now ∧ (inputReaders i first on s).pending = s.pending := by
  cases i <;> simp only [inputReaders]
  case breakerAux => exact breakerReport_apart _ _ _
  case estop => split_ifs <;> simp
  all_goals simp

/-- The aux inputs of the contactors complete an opening whose discharge part is met (R151). -/
theorem contactorReport_opens {i : Input} {s u : State} (h : Reported i s u) :
    let read := fun (j : Input) => if j = i then some (meaning s i) else inputReads s j
    let done := s.seqr.state = .opening ∧ s.seqr.discharged = true ∧ read .contPosAux = some false ∧ read .contNegAux = some false
    (done → openingEnds s (openingTest u)) ∧ (¬done → (openingTest u).seqr = s.seqr ∧ (openingTest u).mgmt = s.mgmt) := by
  have hseqr : u.seqr = s.seqr := by rw [h.apart]
  have hfire : u.fire = s.fire := by rw [h.apart]
  have hmgmt : u.mgmt = s.mgmt := by rw [h.apart]
  intro read done
  have hread (j : Input) : inputReads u j = read j := h.reads j
  refine ⟨fun ⟨hst, hd, hpos, hneg⟩ => ?_, fun hnot => ?_⟩
  · have hends := openingTest_ends u (by rw [hseqr]; exact hst) (by rw [hseqr]; exact hd) ((hread _).trans hpos) ((hread _).trans hneg)
    exact openingEnds_congr (by rw [hseqr]) hfire.symm hmgmt.symm rfl rfl hends
  · rw [openingTest_stays u fun ⟨hst, hd, hpos, hneg⟩ => hnot ⟨hseqr ▸ hst, hseqr ▸ hd, (hread _).symm.trans hpos, (hread _).symm.trans hneg⟩]
    exact ⟨hseqr, hmgmt⟩

/-- BREAKER_AUX closed, by the state of the sequencer (R146, R148, R153). -/
theorem breakerClosed_acts {first : Bool} {s u : State} (h : Reported .breakerAux s u) :
    let t := refreshLines (breakerReport first true u)
    (s.seqr.state = .closing → bayCondition s .connected = none → t.seqr.state = .connected ∧ t.seqr.connectedSince = some s.now ∧
      (¬serves s .meter → t.seqr.blind = true ∧ (s.seqr.blind = false → t.seqr.blindSince = some s.now)) ∧ (serves s .meter → t.seqr.blind = false)) ∧
    (s.seqr.state = .precharge ∨ s.seqr.state = .dcReady ∨ s.seqr.state = .recloseWait → t.seqr.state = .opening ∧ t.seqr.stepSince = some s.now) ∧
    (s.seqr.state = .open_ ∨ s.seqr.state = .opening ∨ s.seqr.state = .lockedOut →
      t.seqr = { s.seqr with stray := some (s.seqr.stray.getD ⟨if first then .startupClosed else .breakerStray, s.now⟩) } ∧
      (s.lines.control = true → outLevel t 13 = true)) ∧
    (s.seqr.state = .connected ∨ s.seqr.state = .tripping → t.seqr = s.seqr) := by
  have hseqr : u.seqr = s.seqr := by rw [h.apart]
  intro t
  have ht : t.seqr = (breakerReport first true u).seqr := refreshLines_seqr _
  refine ⟨fun hst hbay => ?_, fun hst => ?_, fun hst => ?_, fun hst => ?_⟩
  · rw [ht]; exact breakerClosed_connects h hst hbay
  · have he : breakerReport first true u = takeBay .breakerStray u := by
      obtain hst | hst | hst := hst <;> simp only [breakerReport, hseqr, hst, if_true]
    obtain ⟨-, -, hopen, -⟩ := takeBay_taken .breakerStray u (by decide)
    have hnow : u.now = s.now := by rw [h.apart]
    rw [ht, he]
    rw [hseqr, hnow] at hopen
    exact hopen hst
  · obtain ⟨hstray, hcontrol⟩ := breakerClosed_strays (first := first) h hst
    refine ⟨ht.trans hstray, fun hc => ?_⟩
    have hlines : linesCurrent t := refreshLines_current fun hoff => by rw [hcontrol, hc] at hoff; cases hoff
    refine demanded_trips hlines ((refreshLines_control _).trans (hcontrol.trans hc)) ?_
    rw [demand, ht, hstray]
    simp
  · rw [ht]
    obtain hst | hst := hst <;> simp only [breakerReport, hseqr, hst, if_true]

/-- BREAKER_AUX open, by the state of the sequencer (R147, R149, R150, R153). -/
theorem breakerOpened_acts {first : Bool} {s u : State} (h : Reported .breakerAux s u) (hm : meaning s .breakerAux = false) :
    let t := refreshLines (breakerReport first false u)
    (s.seqr.state = .connected → t.seqr.state = .tripping ∧ t.seqr.trip = some ⟨.breakerOpened, .grid, .recloseWait⟩ ∧
      t.seqr.stepSince = some s.now ∧ t.env.chg = 0 ∧ t.env.dis = 0) ∧
    (s.seqr.state ≠ .connected → s.seqr.state ≠ .tripping ∨ (∀ t1, s.seqr.stepSince = some t1 → s.now < t1 + 200000) →
      t.seqr = { s.seqr with stray := s.seqr.stray.filter fun y => s.now < y.since + 200000 }) ∧
    (∀ c k t1, s.seqr.state = .tripping → s.seqr.stepSince = some t1 → t1 + 200000 ≤ s.now →
      (s.seqr.trip = some ⟨c, k, .opening⟩ → t.seqr.state = .opening ∧ t.seqr.pendingLockout = s.seqr.pendingLockout) ∧
      (s.seqr.trip = some ⟨c, k, .recloseWait⟩ → s.seqr.reclose < 3 → bayCondition s .connected = none →
        t.seqr.state = .recloseWait ∧ t.seqr.reclose = s.seqr.reclose + 1) ∧
      (s.seqr.trip = some ⟨c, k, .recloseWait⟩ → 3 ≤ s.seqr.reclose → t.seqr.state = .opening ∧ t.seqr.pendingLockout = some .recloseLimit)) := by
  have hseqr : u.seqr = s.seqr := by rw [h.apart]
  intro t
  have ht : t.seqr = (breakerReport first false u).seqr := refreshLines_seqr _
  have henv : t.env = (breakerReport first false u).env := refreshLines_env _
  refine ⟨fun hst => ?_, fun hne hearly => ?_, fun c k t1 hst h1 hlate => ?_⟩
  · rw [ht, henv]; exact breakerOpened_trips h hst
  · rw [ht]; exact breakerOpened_stays h hm hne hearly
  · have hdone := breakerOpened_completes (first := first) h hm hst h1 hlate
    rw [ht, hdone]
    refine ⟨fun htrip => ?_, fun htrip hr hbay => ?_, fun htrip hr => ?_⟩
    · rw [tripComplete_opens (by rw [hseqr]; exact htrip)]
      exact ⟨seqTo_state _ _, (seqTo_pendingLockout _ _).trans (by rw [hseqr]; rfl)⟩
    · rw [tripComplete_recloses (by rw [hseqr]; exact htrip) (by rw [hseqr]; exact hr) ((breakerReported_bay h hbay).2 hm)]
      refine ⟨seqTo_state _ _, (seqTo_reclose _ _).trans ?_⟩
      exact congrArg (fun q : Sequencer => q.reclose + 1) hseqr
    · rw [tripComplete_limit (by rw [hseqr]; exact htrip) (by rw [hseqr]; exact hr)]
      exact ⟨seqTo_state _ _, seqTo_pendingLockout _ _⟩

/-- Settles O51: each reader's own lemma says what it makes of the report. -/
theorem inputsDebounced : Obligations.InputsDebounced := by
  refine ⟨fun i v s hlt hne => rawChange_changes hlt hne, fun i v s he => ?_, fun i t0 s hs h0 hlate hsame => debounceStable_same hs h0 hlate hsame,
    fun i t0 s hs h0 hlate hnew => ?_⟩
  · have hexec : exec (.inputRawChange i v) s = .next (rawChange i v s) := rfl
    rw [hexec, rawChange, if_pos he]
  · intro v means read ended
    have hlt := inputLive_listed h0
    have hreport := inputReported_of hlt
    have hexec := debounceStable_changes hs h0 hlate hnew
    have hdoor : inputReported i s = raiseNotice (nInputState i means)
        { s with lines := { s.lines with inputs := s.lines.inputs.set (inputIdx i) ⟨v, none, some v⟩ } } := rfl
    change exec _ s = .next (refreshLines (inputReaders i (inputLive s i).level.isNone means (inputReported i s))) at hexec
    have hmeans : meaning s i = means := rfl
    clear_value means
    generalize inputReported i s = u at *
    obtain ⟨hcell, hstore, hnow, hpending⟩ := inputReaders_apart i (inputLive s i).level.isNone means u
    have hinputs : (refreshLines (inputReaders i (inputLive s i).level.isNone means u)).lines.inputs =
        s.lines.inputs.set (inputIdx i) ⟨v, none, some v⟩ := by rw [refreshLines_inputs, inputReaders_inputs]; exact hreport.inputs
    obtain ⟨hself, hothers⟩ := inputLive_set hlt hinputs
    refine ⟨_, hexec, hself, hothers, ?_, ?_, ?_, ?_, fun hi hm => ?_, fun hi hm => ?_, fun hi hm => ?_, fun hi hm => ?_, fun hi => ?_, fun hi => ?_⟩
    · rw [refreshLines_cell, hcell, hreport.apart]
    · rw [refreshLines_store, hstore, hreport.apart]
    · rw [refreshLines_now, hnow, hreport.apart]
    · rw [refreshLines_pending, hpending, hreport.apart]
    · subst hi hm
      simp only [inputReaders, if_true, refreshLines_env, refreshLines_seqr]
      exact estop_acts hreport.apart
    · subst hi hm
      simp only [inputReaders, Bool.false_eq_true, if_false, refreshLines_env, refreshLines_seqr]
      exact estop_ends hreport.apart
    · subst hi hm
      have hacts := breakerClosed_acts (first := (inputLive s .breakerAux).level.isNone) hreport
      simp only [Option.isNone_iff_eq_none] at hacts
      exact hacts
    · subst hi hm
      exact breakerOpened_acts hreport hmeans
    · intro done
      have hopens := contactorReport_opens hreport
      rw [hmeans] at hopens
      have hreaders : inputReaders i (inputLive s i).level.isNone means u = openingTest u := by obtain rfl | rfl := hi <;> rfl
      rw [hreaders]
      exact ⟨fun h => openingEnds_congr rfl rfl rfl (refreshLines_seqr _) (refreshLines_mgmt _) (hopens.1 h),
        fun h => ⟨(refreshLines_seqr _).trans (hopens.2 h).1, (refreshLines_mgmt _).trans (hopens.2 h).2⟩⟩
    · have hreaders : inputReaders i (inputLive s i).level.isNone means u = fireEval false u := by obtain rfl | rfl := hi <;> rfl
      rw [hreaders, hdoor]

end Sys2Proof.Machine
end

section
/-! WRITE_TABLE (O59). -/

namespace Sys2Proof.Machine

/-! ## The key of a part that reads (Table 12-9) -/

theorem readRingPart_key {k : Nat × Nat} {b : List Byte} {p : RingPart} (h : readRingPart k b = some p) : p.key = k := by
  unfold readRingPart at h
  split at h
  case h_13 n h4 h5 =>
    split at h <;> obtain ⟨x, -, rfl⟩ := Option.map_eq_some_iff.mp h
    · rfl
    · have hn : 6 + (n - 6) = n := by
        have : n ≠ 4 := fun e => h4 (by rw [e])
        have : n ≠ 5 := fun e => h5 (by rw [e])
        omega
      rw [RingPart.key, hn]
  case h_17 => cases h
  all_goals
    obtain ⟨x, -, rfl⟩ := Option.map_eq_some_iff.mp h
    rfl

/-- The loop group's parts stand in tables 9 to 11. -/
theorem loopPartOf_table {t : LoopTables} {k : Nat × Nat} (h : (loopPartOf t k).isSome = true) :
    k.1 = 9 ∨ k.1 = 10 ∨ (k.1 = 11 ∧ k.2 ≤ 24) := by
  unfold loopPartOf at h
  split at h
  · exact .inl rfl
  · exact .inr (.inl rfl)
  · refine .inr (.inr ⟨rfl, ?_⟩)
    split_ifs at h with h1 h2
    · exact le_of_lt h1
    · exact le_of_eq h2
    · cases h
  · cases h

theorem readLoopPart_key {t : LoopTables} {k : Nat × Nat} {b : List Byte} {p : LoopPart} (hk : (loopPartOf t k).isSome = true)
    (h : readLoopPart k b = some p) : p.key = k := by
  have htable := loopPartOf_table hk
  unfold readLoopPart at h
  split at h
  case h_3 d =>
    have hd : d ≤ 24 := by simpa using htable
    split at h <;> obtain ⟨x, -, rfl⟩ := Option.map_eq_some_iff.mp h
    · rfl
    · have hlast : d = 24 := by omega
      rw [hlast]; rfl
  case h_4 => cases h
  all_goals
    obtain ⟨x, -, rfl⟩ := Option.map_eq_some_iff.mp h
    rfl

/-- No part belongs to both groups. -/
theorem ringPartOf_loop {t : RingTables} {l : LoopTables} {k : Nat × Nat} (h : (loopPartOf l k).isSome = true) : ringPartOf t k = none := by
  obtain ⟨x, y⟩ := k
  obtain hx | hx | ⟨hx, -⟩ := loopPartOf_table h <;> (dsimp only at hx; subst hx; rfl)

/-! ## What a WRITE_TABLE stages (R185) -/

theorem writeTable_pending {r : Request} {s : State} {m : Mgmt} {g : Nat} (h : held r s) (hw : writePart s.mgmt r.args = some (m, g)) :
    exec (.writeTable r) s = .next (answer r 0x08 .pending (encU16 g) { received r s with mgmt := m }) := by
  refine (request_held 0x08 true _ h).trans ?_
  rw [received_mgmt, withArgs_some hw]
  rfl

theorem writeTable_invalid {r : Request} {s : State} (h : held r s) (hw : writePart s.mgmt r.args = none) :
    exec (.writeTable r) s = .next (answer r 0x08 .invalid [] (received r s)) := by
  refine (request_held 0x08 true _ h).trans ?_
  rw [received_mgmt, hw]
  rfl

section
variable {m : Mgmt} {a b : Byte} {body : List Byte}

theorem writePart_ring {p : RingPart} (hk : (ringPartOf m.ringTables (a.toNat, b.toNat)).isSome = true) (hp : readRingPart (a.toNat, b.toNat) body = some p) :
    writePart m (a :: b :: body) = (writeRing m p).map fun m' => (m', nextGen m.ringGen) := by
  simp only [writePart, hk, if_true, hp, Option.bind_some]

theorem writePart_loop {p : LoopPart} (hk : (loopPartOf m.loopTables (a.toNat, b.toNat)).isSome = true) (hp : readLoopPart (a.toNat, b.toNat) body = some p) :
    writePart m (a :: b :: body) = (writeLoop m p).map fun m' => (m', nextGen m.loopGen) := by
  have hring : ringPartOf m.ringTables (a.toNat, b.toNat) = none := ringPartOf_loop hk
  simp only [writePart, hring, Option.isSome_none, Bool.false_eq_true, if_false, hk, if_true, hp, Option.bind_some]

/-- A part that does not exist, or does not read, stages nothing. -/
theorem writePart_none (h : (ringPartOf m.ringTables (a.toNat, b.toNat) = none ∧ loopPartOf m.loopTables (a.toNat, b.toNat) = none) ∨
    (readRingPart (a.toNat, b.toNat) body = none ∧ readLoopPart (a.toNat, b.toNat) body = none)) : writePart m (a :: b :: body) = none := by
  simp only [writePart]
  obtain ⟨h1, h2⟩ | ⟨h1, h2⟩ := h
  · rw [h1, h2]; rfl
  · rw [h1, h2]
    split_ifs <;> rfl

end

theorem stageRing_eq (p : RingPart) (l : List RingPart) : stageRing p l = l.filter (fun q => q.key ≠ p.key) ++ [p] := by
  rw [stageRing, List.filter_congr fun q _ => (show (q.key != p.key) = decide (q.key ≠ p.key) by by_cases e : q.key = p.key <;> simp [e])]

theorem stageLoop_eq (p : LoopPart) (l : List LoopPart) : stageLoop p l = l.filter (fun q => q.key ≠ p.key) ++ [p] := by
  rw [stageLoop, List.filter_congr fun q _ => (show (q.key != p.key) = decide (q.key ≠ p.key) by by_cases e : q.key = p.key <;> simp [e])]

/-- An entry with role NONE takes the Poll List without its address with it (R3). -/
theorem ringStages_unused {m : Mgmt} {x : Nat} {c : NodeCfg} (h : c.role = .unused) :
    ringStages m (.node x c) = [.node x c, .poll ((pendingRing m).poll.filter fun y => y ≠ x)] := by
  have hfilter : ((pendingRing m).poll.filter fun y => y != x) = (pendingRing m).poll.filter fun y => y ≠ x :=
    List.filter_congr fun y _ => by by_cases e : y = x <;> simp [e]
  rw [ringStages, if_pos h, hfilter]

theorem ringStages_alone {m : Mgmt} {p : RingPart} (h : ∀ x c, p = .node x c → c.role ≠ .unused) : ringStages m p = [p] := by
  unfold ringStages
  split
  · rename_i x c
    exact if_neg (h x c rfl)
  · rfl

theorem writeRing_passes {m : Mgmt} {p : RingPart} (h : ringPartOk ((ringStages m p).foldl applyRing (pendingRing m)) p = true) :
    writeRing m p = some { m with ringStaged := (ringStages m p).foldl (fun l q => stageRing q l) m.ringStaged } := if_pos h

theorem writeRing_fails {m : Mgmt} {p : RingPart} (h : ringPartOk ((ringStages m p).foldl applyRing (pendingRing m)) p = false) :
    writeRing m p = none := if_neg (by rw [h]; decide)

/-- Settles O59. -/
theorem writeTableStages : Obligations.WriteTableStages := by
  refine ⟨?_, ?_, fun r a b body s h ha hnone => ?_, fun r s h hshort => ?_⟩
  · intro r a b body p s m k others next h ha hk hp
    have hkey : p.key = k := readRingPart_key hp
    have hwrite := writePart_ring hk hp
    rw [← ha] at hwrite
    refine ⟨hkey, fun hrole hok => ?_, fun x c hx hrole => ⟨fun hok => ?_, fun hbad => ?_⟩, fun hrole hbad => ?_⟩
    · have hpass := writeRing_passes (m := m) (p := p) (by rw [ringStages_alone hrole]; exact hok)
      rw [ringStages_alone hrole, List.foldl_cons, List.foldl_nil, stageRing_eq, hkey] at hpass
      exact writeTable_pending h (hwrite.trans (congrArg _ hpass))
    · subst hx
      have hpass := writeRing_passes (m := m) (p := .node x c) (by rw [ringStages_unused hrole]; exact hok)
      rw [ringStages_unused hrole, List.foldl_cons, List.foldl_cons, List.foldl_nil, stageRing_eq, stageRing_eq, hkey] at hpass
      exact writeTable_pending h (hwrite.trans (congrArg _ hpass))
    · subst hx
      have hfail := writeRing_fails (m := m) (p := .node x c) (by rw [ringStages_unused hrole]; exact hbad)
      exact writeTable_invalid h (hwrite.trans (congrArg _ hfail))
    · have hfail := writeRing_fails (m := m) (p := p) (by rw [ringStages_alone hrole]; exact hbad)
      exact writeTable_invalid h (hwrite.trans (congrArg _ hfail))
  · intro r a b body p s m k next h ha hk hp
    have hkey : p.key = k := readLoopPart_key hk hp
    have hwrite := writePart_loop hk hp
    rw [← ha] at hwrite
    refine ⟨hkey, fun hok => ?_, fun hbad => ?_⟩
    · have hpass : writeLoop m p = some { m with loopStaged := stageLoop p m.loopStaged } := if_pos hok
      rw [stageLoop_eq, hkey] at hpass
      exact writeTable_pending h (hwrite.trans (congrArg _ hpass))
    · have hfail : writeLoop m p = none := if_neg (by rw [hbad]; decide)
      exact writeTable_invalid h (hwrite.trans (congrArg _ hfail))
  · exact writeTable_invalid h (by rw [ha, writePart_none hnone])
  · refine writeTable_invalid h ?_
    match hargs : r.args with
    | [] => rfl
    | [x] => rfl
    | x :: y :: l => rw [hargs] at hshort; simp at hshort

end Sys2Proof.Machine
end
